-- ==== Sys2Proof/Word.lean ====
section
/-! DEFINITION. The words of the part: bytes of line frames and 16-bit words of the cabinet port. -/

namespace Sys2Proof

/-- One byte of a line frame (R1) or of a packed string (R195). -/
abbrev Byte := BitVec 8

/-- One word of a cabinet frame (R195), and the width of toll sequences and epoch numbers (R166, R186). -/
abbrev Word := BitVec 16

end Sys2Proof
end

