-- ==== Sys2Proof/Syntax.lean ====
section
/-! DEFINITION. The commands and events of the part: one constructor of `Instr` per row of spec/opcode_table.json.
The table gives no bits and no operands; each constructor carries what its owning rule says the event or the command
brings with it. -/

namespace Sys2Proof

/-- The two line ports, and with them the two directions of section 5.1. -/
inductive Side where
  | east
  | west
deriving DecidableEq, Repr

/-- The other port of the station: where a rule says P, this is its Q (section 5.1). -/
def Side.other : Side → Side
  | .east => .west
  | .west => .east

/-- A sign face, named by the side that lies downstream of it: the E face by East, the W face by West (section 5.1). -/
abbrev Face := Side

/-- The four reading kinds, in code order 0 to 3 (R112). -/
inductive ReadingKind where
  | visibility
  | surfaceState
  | surfaceTemp
  | gust
deriving DecidableEq, Repr

/-- The owner of a jitter store: a call box port or an operator lane (R94). -/
inductive StoreId where
  | box (b : Fin 4)
  | lane (l : Fin 2)
deriving DecidableEq, Repr

/-- The three answers of a sign (R159). -/
inductive SignReply where
  | ok
  | pixelFault (pixels : Nat)
  | dark
deriving DecidableEq, Repr

/-- An answer record from a sign lane (R159). The record's byte layout is not in the manual; `checkGood` says whether
its 16-bit check passed. -/
structure SignRecord where
  checkGood : Bool
  sequence : Byte
  reply : SignReply
deriving DecidableEq, Repr

/-- What the part's inputs show when pin reset ends: the straps (R203), signal-detect (R14) and the filtered hook
levels (R63; true is OFF_HOOK). -/
structure ResetInputs where
  number : Fin 64
  eastEnd : Bool
  westEnd : Bool
  eastSignal : Bool
  westSignal : Bool
  offHook : Vector Bool 4
deriving DecidableEq, Repr

/-- The 70 rows of the table. A circuit 1..16 is named by its index 0..15; a cabinet command carries the argument
words that were clocked in (R195), whatever their number. -/
inductive Instr where
  | lineFrameArrives (p : Side) (bytes : List Byte)
  | signalDetectLost (p : Side)
  | probeTimerExpiry (p : Side)
  | stationMapAgeOut (station : Nat)
  | probeSendTimerExpiry (p : Side)
  | transmitComplete (p : Side)
  | claimTimerExpiry (c : Fin 16)
  | holdRefreshTimerExpiry (c : Fin 16)
  | assertHoldOffExpiry (c : Fin 16)
  | claimWaitTimerExpiry (b : Fin 4)
  | heldOtherAgeOut (c : Fin 16)
  | hookOffHook (b : Fin 4)
  | hookOnHook (b : Fin 4)
  | offerTimerExpiry (b : Fin 4)
  | incidentRefreshTimerExpiry (b : Fin 4)
  | partnerSilenceTimerExpiry (b : Fin 4)
  | offerEntryAgeOut (origin : Nat) (callId : Byte)
  | takeTimerExpiry (l : Fin 2)
  | laneSilenceTimerExpiry (l : Fin 2)
  | callBoxSendTimerExpiry (b : Fin 4) (samples : Vector Byte 160)
  | laneSendTimerExpiry (l : Fin 2) (samples : Vector Byte 160)
  | playoutTick (st : StoreId)
  | cadencePhaseEnd (b : Fin 4)
  | incidentAgeOut (origin : Nat) (callId : Byte)
  | clearanceTimerExpiry (origin : Nat) (callId : Byte)
  | readingAgeOut (k : ReadingKind)
  | rateTimerExpiry (k : ReadingKind)
  | evaluationTimerExpiry
  | advertTimerExpiry
  | heldAdvertAgeOut (f : Face)
  | pageMinuteTimerExpiry (n : Fin 32)
  | dwellTimerExpiry (f : Face)
  | flashTimerExpiry (f : Face)
  | imageRefreshTimerExpiry (f : Face)
  | answerWindowExpiry (f : Face) (sequence : Byte)
  | signAnswer (f : Face) (record : SignRecord)
  | resendTimerExpiry
  | cabinetFrameFault (words : List Word)
  | fetch (args : List Word)
  | configure (args : List Word)
  | join (args : List Word)
  | restart (args : List Word)
  | readLine (args : List Word)
  | readMap (args : List Word)
  | readCircuits (args : List Word)
  | readCalls (args : List Word)
  | readOffers (args : List Word)
  | takeCall (args : List Word)
  | endCall (args : List Word)
  | readIncidents (args : List Word)
  | clearIncident (args : List Word)
  | submitReading (args : List Word)
  | readReadings (args : List Word)
  | fetchReading (args : List Word)
  | readSpeed (args : List Word)
  | publishPage (args : List Word)
  | withdrawPage (args : List Word)
  | readPage (args : List Word)
  | readSign (args : List Word)
  | setFaceDark (args : List Word)
  | submitToll (args : List Word)
  | readTollStore (args : List Word)
  | fetchDelivery (args : List Word)
  | issueEpoch (args : List Word)
  | readCounters (args : List Word)
  | readFaults (args : List Word)
  | clearFaults (args : List Word)
  | pinResetAsserted
  | pinResetEnds (inputs : ResetInputs)
  | signalDetectReturns (p : Side)
deriving DecidableEq, Repr

end Sys2Proof
end

