-- ==== Sys2Proof/Machine/Types.lean ====
section
/-! DEFINITION. The records that the blocks of the part keep, each with the field names of the rule that gives it.
Times are milliseconds of the part's own clock. A running timer is the moment it falls due; an age is kept as the
moment it last restarted. -/

namespace Sys2Proof.Machine

open Sys2Proof

/-- A timer (section 5.4): `none` is stopped, `some t` is running and falls due at time `t`. -/
abbrev Timer := Option Nat

/-- One value for each of the two ports, sides or faces. -/
structure PerSide (α : Type) where
  east : α
  west : α
deriving DecidableEq, Repr

/-- The value of one side. -/
def PerSide.get {α : Type} (x : PerSide α) : Side → α
  | .east => x.east
  | .west => x.west

/-- `x` with the value of one side replaced. -/
def PerSide.set {α : Type} (x : PerSide α) (d : Side) (v : α) : PerSide α :=
  match d with
  | .east => { x with east := v }
  | .west => { x with west := v }

/-! ### The line (chapter 1) and the transmit queues (chapter 2) -/

/-- A good line frame (R1) without its check, which is computed when it is sent (R4). -/
structure Frame where
  kind : Nat
  origin : Nat
  target : Nat
  hops : Nat
  hopLimit : Nat
  payload : List Byte
deriving DecidableEq, Repr

/-- The sixteen assigned frame kinds, in code order (R3). -/
inductive FrameKind where
  | probe
  | voice
  | claim
  | release
  | offer
  | take
  | refuse
  | hangup
  | incident
  | clear
  | reading
  | speed
  | page
  | toll
  | tollAck
  | epoch
deriving DecidableEq, Repr

/-- The class of a kind chooses the transmit queue (R3). -/
inductive FrameClass where
  | voice
  | control
  | bulk
deriving DecidableEq, Repr

/-- Port states (section 1.3). -/
inductive PortState where
  | down
  | listening
  | up
  | degraded
deriving DecidableEq, Repr

/-- The six queues of a port, in the order of R33. -/
inductive QueueName where
  | vt
  | vl
  | ct
  | cl
  | bt
  | bl
deriving DecidableEq, Repr

/-- The contents of a port's six queues (R29), each with its head first. -/
structure Queues where
  vt : List Frame
  vl : List Frame
  ct : List Frame
  cl : List Frame
  bt : List Frame
  bl : List Frame
deriving DecidableEq, Repr

/-- A port: its record (R14), its queues, transmitter and wait counts (R29; `sending = none` is IDLE) and its probe
send timer (R36). In the reception history `true` is a good outcome, and the oldest outcome stands first. -/
structure Port where
  state : PortState
  endStrap : Bool
  signal : Bool
  probes : Nat
  probeTimer : Timer
  history : List Bool
  queues : Queues
  sending : Option Frame
  waitCL : Nat
  waitBL : Nat
  probeSendTimer : Timer
deriving DecidableEq, Repr

/-- A station map entry (R22); `heardAt` is the moment its age was last 0. -/
structure MapEntry where
  station : Nat
  port : Side
  distance : Nat
  heardAt : Nat
deriving DecidableEq, Repr

/-- A station and how many hops away it lies (R24). -/
structure RoleEntry where
  station : Nat
  hops : Nat
deriving DecidableEq, Repr

/-- One side's reach view (section 1.5); `none` is none. -/
structure Reach where
  answering : Option RoleEntry
  sink : Option RoleEntry
deriving DecidableEq, Repr

/-- What a deferred frame is keyed by (R38) and what withdraws it (R40): the circuit of a CLAIM or RELEASE, the lane of a
TAKE, the call box port of a call's first INCIDENT. -/
inductive DeferTag where
  | claim (c : Fin 16)
  | release (c : Fin 16)
  | take (l : Fin 2)
  | firstIncident (b : Fin 4)
  | plain
deriving DecidableEq, Repr

/-- An entry of the deferred list (R38). -/
structure Deferred where
  tag : DeferTag
  frame : Frame
deriving DecidableEq, Repr

/-! ### Voice circuits (chapter 3) -/

/-- An entry of the circuit table (R45). A field that R45 gives to some states only is carried by those states. -/
inductive Circuit where
  | free
  | claiming (bound : Fin 4) (claimTimer : Timer)
  | heldOwn (bound : Fin 4) (refreshTimer : Timer) (holdOff : Timer)
  | heldOther (holder : Nat) (heardAt : Nat)
deriving DecidableEq, Repr

/-- A claim record (R46). -/
structure ClaimRecord where
  wanted : Bool
  yields : Nat
  wait : Timer
deriving DecidableEq, Repr

/-! ### Emergency calls (chapter 4) -/

/-- Call record states (R63). -/
inductive CallState where
  | idle
  | seizing
  | offering
  | connected
  | cleared
deriving DecidableEq, Repr

/-- Partner, partner lane and partner port, which are present together (R63). -/
structure Partner where
  station : Nat
  lane : Fin 2
  port : Side
deriving DecidableEq, Repr

/-- A call record (R63), with the moment of its last change of state (R85). -/
structure CallRecord where
  offHook : Bool
  state : CallState
  callId : Option Byte
  circuit : Option (Fin 16)
  partner : Option Partner
  offerCount : Option Nat
  offeringSince : Option Nat
  offerTimer : Timer
  incidentTimer : Timer
  silenceTimer : Timer
  changedAt : Nat
deriving DecidableEq, Repr

/-- An offer list entry (R73). -/
structure Offer where
  origin : Nat
  callId : Byte
  box : Fin 4
  circuit : Fin 16
  count : Nat
  port : Side
  firstHeard : Nat
  lastHeard : Nat
deriving DecidableEq, Repr

/-- Operator lane states (R76). -/
inductive LaneState where
  | idle
  | taking
  | talking
  | lost
deriving DecidableEq, Repr

/-- Operator lane outcomes (R76). -/
inductive LaneOutcome where
  | none
  | takenElsewhere
  | ended
  | callerHungUp
  | operatorEnded
  | noAnswer
  | silence
  | routeLost
deriving DecidableEq, Repr

/-- Origin, call id, circuit and reached port of a lane's call, which are present together (R76). -/
structure LaneCall where
  origin : Nat
  callId : Byte
  circuit : Fin 16
  port : Side
deriving DecidableEq, Repr

/-- A lane record (R76), with the moment of its last change of state (R85). -/
structure OpLane where
  state : LaneState
  call : Option LaneCall
  takeSends : Option Nat
  takeTimer : Timer
  silenceTimer : Timer
  outcome : LaneOutcome
  changedAt : Nat
deriving DecidableEq, Repr

/-- The call unit's state beside the call records: the next-call-id counter (R64), the offer list (R73), the lanes
(R76) and the two change marks (R84). -/
structure CallUnit where
  nextCallId : Byte
  offers : List Offer
  lanes : Vector OpLane 2
  callsChanged : Bool
  offersChanged : Bool
deriving DecidableEq, Repr

/-! ### Playout and tones (chapter 5) -/

/-- One voice block in a jitter store (R94). -/
structure Block where
  sequence : Byte
  samples : List Byte
deriving DecidableEq, Repr

/-- The phase of a jitter store; `expected` is absent in PREFILL (R94). -/
inductive Phase where
  | prefill
  | playing (expected : Byte)
deriving DecidableEq, Repr

/-- A jitter store (R94). -/
structure JitterStore where
  phase : Phase
  blocks : List Block
  lastPlayed : Option (List Byte)
  misses : Nat
deriving DecidableEq, Repr

/-- What the playout unit keeps for each call box port and each operator lane: the store, the send sequence and the
send timer (R90, R91), the playout timer (R97) and the 20 ms of audio last delivered to the output lane (R99; `none`
until a tick has delivered any). -/
structure Audio where
  store : JitterStore
  sendSeq : Byte
  sendTimer : Timer
  playoutTimer : Timer
  out : Option (List Byte)
deriving DecidableEq, Repr

/-- The cadences of a tone generator (R100). -/
inductive Cadence where
  | none
  | progress
  | answered
  | cleared
deriving DecidableEq, Repr

/-- A tone generator (R100). -/
structure Tone where
  cadence : Cadence
  on : Bool
  phaseTimer : Timer
  halfRate : Bool
deriving DecidableEq, Repr

/-- The playout unit. -/
structure Playout where
  boxes : Vector Audio 4
  lanes : Vector Audio 2
  tones : Vector Tone 4
deriving DecidableEq, Repr

/-! ### Incidents, readings and warnings (chapter 6) -/

/-- The side of an incident (R104): a side of the line, or OWN. -/
inductive IncidentSide where
  | ahead (d : Side)
  | own
deriving DecidableEq, Repr

/-- An incident table entry (R104); `touchedAt` is the moment its age was last 0. -/
structure Incident where
  origin : Nat
  callId : Byte
  box : Fin 4
  side : IncidentSide
  distance : Nat
  touchedAt : Nat
deriving DecidableEq, Repr

/-- A key of the recently-cleared list with its clearance timer (R104). -/
structure ClearedKey where
  origin : Nat
  callId : Byte
  timer : Timer
deriving DecidableEq, Repr

/-- The incident table and the recently-cleared list (R104). -/
structure Incidents where
  table : List Incident
  cleared : List ClearedKey
deriving DecidableEq, Repr

/-- A pending reading of a broadcast record (R115). -/
structure PendingReading where
  value : Int
  clamped : Bool
  sequence : Byte
deriving DecidableEq, Repr

/-- A readings table record (R113) with its kind's broadcast record (R115). `submittedAt` is the moment of the latest
submission while the age runs. -/
structure Reading where
  value : Option Int
  clamped : Bool
  counter : Byte
  lastSequence : Option Byte
  submittedAt : Option Nat
  pending : Option PendingReading
  rateTimer : Timer
deriving DecidableEq, Repr

/-- An entry of the reading delivery queue (R116). -/
structure HeardReading where
  origin : Nat
  kind : ReadingKind
  value : Int
  clamped : Bool
  sequence : Byte
deriving DecidableEq, Repr

/-- The readings unit: the table by kind code, the smoothed visibility (R114) and the delivery queue (R116). -/
structure Readings where
  kinds : Vector Reading 4
  vs : Option Int
  delivery : List HeardReading
deriving DecidableEq, Repr

/-- The five warnings (section 6.3). -/
inductive Warning where
  | fog
  | ice
  | wind
  | incident
  | closeAdvised
deriving DecidableEq, Repr

/-- The warning sets and persistence counts. FOG, ICE and WIND are station-wide: one bit serves both faces
(section 6.3, R119 to R121). -/
structure Warnings where
  fog : Bool
  ice : Bool
  wind : Bool
  incident : PerSide Bool
  closeAdvised : PerSide Bool
  icyRun : Nat
  thawRun : Nat
  calmCount : Nat
deriving DecidableEq, Repr

/-! ### Advisory speed (chapter 7) -/

/-- The values of a face's last evaluation (R124), with the a_q that R129 keeps in it. -/
structure Evaluation where
  capVis : Int
  capGrip : Int
  capWind : Int
  capInc : Int
  aRaw : Int
  aQ : Int
  a : Int
  t : Int
deriving DecidableEq, Repr

/-- The advert held for a face: N, its origin, the neighbour's lit flags and the moment it was set (R124). -/
structure HeldAdvert where
  n : Int
  origin : Nat
  litE : Bool
  litW : Bool
  setAt : Nat
deriving DecidableEq, Repr

/-- The speed unit's record of a face (R124). -/
structure FaceSpeed where
  d : Int
  raiseCount : Nat
  last : Option Evaluation
  advert : Option HeldAdvert
  nearestUsed : Option Nat
deriving DecidableEq, Repr

/-- The speed unit (R124). -/
structure Speed where
  faces : PerSide FaceSpeed
  evaluationTimer : Timer
  advertTimer : Timer
deriving DecidableEq, Repr

/-! ### Sign pages and faces (chapter 8) -/

/-- The flash of a page (R142). -/
inductive Flash where
  | none
  | text
  | picto
  | all
deriving DecidableEq, Repr

/-- A page scope (R142). -/
structure Scope where
  matchBits : Nat
  mask : Nat
  hopLimit : Nat
deriving DecidableEq, Repr

/-- A page (R142) of priority 1 to 7; `validity = none` is until withdrawn, `lines` the character codes of the three
lines. -/
structure Page where
  number : Fin 32
  version : Byte
  priority : Nat
  faceE : Bool
  faceW : Bool
  line1 : List Byte
  line2 : List Byte
  line3 : List Byte
  pictogram : Nat
  flash : Flash
  validity : Option Nat
  bound : Option Warning
  scope : Scope
deriving DecidableEq, Repr

/-- What a PAGE frame says (R144): a page, or a withdrawal, which carries priority 0. -/
inductive PageNotice where
  | publish (page : Page)
  | withdraw (number : Fin 32) (version : Byte) (scope : Scope)
deriving DecidableEq, Repr

/-- The content of a slot with its publisher, remaining validity and minute timer (R143). -/
structure StoredPage where
  page : Page
  publisher : Nat
  remaining : Option Nat
  minuteTimer : Timer
deriving DecidableEq, Repr

/-- A slot of the page store (R143). -/
structure Slot where
  content : Option StoredPage
  mark : Option Byte
deriving DecidableEq, Repr

/-- An item of a face: a page by its number, or a built-in item by its warning (R150). -/
inductive Item where
  | page (n : Fin 32)
  | builtIn (w : Warning)
deriving DecidableEq, Repr

/-- A face selector (R150). -/
structure Selector where
  rotation : List Item
  top : Option Nat
  shown : Option Item
  dwellTimer : Timer
  flashOn : Bool
  flashTimer : Timer
deriving DecidableEq, Repr

/-- A face image record (R158); `roundel = none` is blank. -/
structure Image where
  sequence : Byte
  roundel : Option Int
  line1 : List Byte
  line2 : List Byte
  line3 : List Byte
  pictogram : Nat
  flashed : Flash
  phaseOn : Bool
deriving DecidableEq, Repr

/-- An awaited image with its answer window (R159). -/
structure Awaited where
  sequence : Byte
  window : Timer
deriving DecidableEq, Repr

/-- The sign unit's state of one face: dark setting (R157), faulted state (R160), selector, the image sequence that the
next image takes (R158), the last image sent, the awaited list and missing count (R159), the last answer taken and the
refresh timer (R158). -/
structure FaceUnit where
  dark : Bool
  faulted : Bool
  selector : Selector
  sequence : Byte
  image : Option Image
  awaited : List Awaited
  missing : Nat
  lastAnswer : Option SignReply
  refreshTimer : Timer
deriving DecidableEq, Repr

/-! ### Toll records (chapter 9), lane counts and epochs (chapter 10) -/

/-- A toll record (R165); lane 1..8 and class 1..5 are kept as indices. -/
structure TollRecord where
  lane : Fin 8
  vehicleClass : Fin 5
  amount : Nat
  timestamp : List Byte
  tag : List Byte
  plate : Option (List Byte)
deriving DecidableEq, Repr

/-- The live counters of a lane, and a lane set of a report (R184, R192). -/
structure LaneCount where
  classes : Vector Nat 5
  sum : Nat
  saturated : Bool
deriving DecidableEq, Repr

/-- A snapshot, and the content of a report entry (R187, R192). -/
structure Report where
  firstEpoch : Option Word
  lastEpoch : Word
  lastSequence : Option Word
  lanes : Vector LaneCount 8
deriving DecidableEq, Repr

/-- The type and content of a toll entry (R167). -/
inductive TollContent where
  | record (r : TollRecord)
  | report (r : Report)
deriving DecidableEq, Repr

/-- A toll store entry (R167); `sent` is the state SENT, its absence QUEUED. -/
structure TollEntry where
  sequence : Word
  sent : Bool
  sendCount : Nat
  content : TollContent
deriving DecidableEq, Repr

/-- The chosen sink (R169): none, the station itself, or a station on a side. -/
inductive SinkChoice where
  | none
  | own
  | via (d : Side) (station : Nat)
deriving DecidableEq, Repr

/-- An origin table entry (R177). -/
structure OriginEntry where
  origin : Nat
  expected : Word
  deliveredBefore : Bool
  fresh : Bool
deriving DecidableEq, Repr

/-- An entry of the sink's delivery queue (R181). -/
structure Delivery where
  origin : Nat
  sequence : Word
  content : TollContent
deriving DecidableEq, Repr

/-- What a TOLL frame carries (R171). -/
structure TollFrame where
  sequence : Word
  base : Word
  fresh : Bool
  content : TollContent
deriving DecidableEq, Repr

/-- The toll unit (R183). -/
structure Toll where
  store : List TollEntry
  counter : Word
  sink : SinkChoice
  resendTimer : Timer
  fresh : Bool
  origins : List OriginEntry
  delivery : List Delivery
deriving DecidableEq, Repr

/-- The count unit: the live counters (R184), the current epoch (R186), the held snapshot (R189) and the sequence of the
last record admitted since pin reset (R187). -/
structure Counts where
  lanes : Vector LaneCount 8
  epoch : Option Word
  held : Option Report
  lastRecord : Option Word
deriving DecidableEq, Repr

/-! ### The cabinet port (chapter 11) -/

/-- The configuration held (R205). -/
structure StationConfig where
  faceE : Bool
  faceW : Bool
  answering : Bool
  sink : Bool
  collector : Bool
  boxes : Nat
  lanes : Nat
  vmax : Nat
  vmin : Nat
  incidentReach : Nat
deriving DecidableEq, Repr

/-- The five latched faults, in the order of R201. -/
inductive FaultName where
  | numberClash
  | transitDrop
  | signFaultE
  | signFaultW
  | readingsStale
deriving DecidableEq, Repr

/-- A latched flag and its latch count (R201). -/
structure FaultLatch where
  latched : Bool
  count : Nat
deriving DecidableEq, Repr

/-- The response codes (R198). -/
inductive ResponseCode where
  | ok
  | okAdjusted
  | crcFault
  | frameShort
  | unknownCommand
  | badArgument
  | wrongState
  | wrongRole
  | storeFull
  | notFound
  | busy
  | empty
deriving DecidableEq, Repr

/-- The commands of the summary table (section 11.4). -/
inductive Command where
  | fetch
  | configure
  | join
  | restart
  | readLine
  | readMap
  | readCircuits
  | readCalls
  | readOffers
  | takeCall
  | endCall
  | readIncidents
  | clearIncident
  | submitReading
  | readReadings
  | fetchReading
  | readSpeed
  | publishPage
  | withdrawPage
  | readPage
  | readSign
  | setFaceDark
  | submitToll
  | readTollStore
  | fetchDelivery
  | issueEpoch
  | readCounters
  | readFaults
  | clearFaults
deriving DecidableEq, Repr

end Sys2Proof.Machine
end

