-- ==== Sys2Proof/Machine/Answers.lean ====
section
/-! DEFINITION. The answers of the cabinet port's commands, each by the named fields its owning rule lists. How the fields
lie in the response words is said in Responses.lean. -/

namespace Sys2Proof.Machine

open Sys2Proof

/-- A port in READ_LINE's answer (R27). -/
structure PortReport where
  state : PortState
  signal : Bool
  failures : Nat
  historyLength : Nat
  probes : Nat
deriving DecidableEq, Repr

/-- READ_LINE's answer (R27). -/
structure LineReport where
  joined : Bool
  number : Nat
  eastEnd : Bool
  westEnd : Bool
  ports : PerSide PortReport
  reach : PerSide Reach
deriving DecidableEq, Repr

/-- An entry of READ_MAP's answer (R28). -/
structure MapReport where
  station : Nat
  port : Side
  distance : Nat
  ageTenths : Nat
deriving DecidableEq, Repr

/-- The state names of a circuit (R45). -/
inductive CircuitName where
  | free
  | claiming
  | heldOwn
  | heldOther
deriving DecidableEq, Repr

/-- A circuit in READ_CIRCUITS's answer (R62): the holder is 0 when FREE, the age is given for HELD_OTHER and the time
left for CLAIMING. -/
structure CircuitReport where
  circuit : Nat
  state : CircuitName
  holder : Nat
  bound : Option (Fin 4)
  ageTenths : Option Nat
  leftMs : Option Nat
deriving DecidableEq, Repr

/-- A claim record in READ_CIRCUITS's answer (R62). -/
structure ClaimReport where
  wanted : Bool
  yields : Nat
  waitTenths : Nat
deriving DecidableEq, Repr

/-- A call box entry of READ_CALLS's answer (R85). -/
structure CallReport where
  index : Fin 4
  offHook : Bool
  state : CallState
  callId : Option Byte
  circuit : Option (Fin 16)
  partner : Option (Nat × Fin 2)
  offerCount : Nat
  seconds : Nat
deriving DecidableEq, Repr

/-- A lane entry of READ_CALLS's answer (R85). -/
structure LaneReport where
  lane : Fin 2
  state : LaneState
  call : Option LaneCall
  takeSends : Nat
  outcome : LaneOutcome
  seconds : Nat
deriving DecidableEq, Repr

/-- An entry of READ_OFFERS's answer (R86). -/
structure OfferReport where
  origin : Nat
  callId : Byte
  box : Fin 4
  circuit : Fin 16
  count : Nat
  port : Side
  waitingSeconds : Nat
  lastHeardTenths : Nat
deriving DecidableEq, Repr

/-- An entry of READ_INCIDENTS's answer (R111). -/
structure IncidentReport where
  origin : Nat
  callId : Byte
  box : Fin 4
  side : IncidentSide
  distance : Nat
  ageSeconds : Nat
deriving DecidableEq, Repr

/-- A kind in READ_READINGS's answer (R117). -/
structure ReadingReport where
  value : Option Int
  clamped : Bool
  lastSequence : Option Byte
  ageSeconds : Nat
  pending : Bool
deriving DecidableEq, Repr

/-- The warning set of one face (section 6.3). -/
structure WarningSet where
  fog : Bool
  ice : Bool
  wind : Bool
  incident : Bool
  closeAdvised : Bool
deriving DecidableEq, Repr

/-- READ_READINGS's answer (R117); `delivery` is given at a collector. -/
structure ReadingsReport where
  kinds : List ReadingReport
  vs : Option Int
  icyRun : Nat
  thawRun : Nat
  calmCount : Nat
  sets : PerSide WarningSet
  delivery : Option Nat
deriving DecidableEq, Repr

/-- The held advert in READ_SPEED's answer (R140). -/
structure AdvertReport where
  n : Int
  origin : Nat
  litE : Bool
  litW : Bool
  ageTenths : Nat
deriving DecidableEq, Repr

/-- The values of the last evaluation that READ_SPEED gives: those of R124, without a_q (R140). -/
structure EvaluationReport where
  capVis : Int
  capGrip : Int
  capWind : Int
  capInc : Int
  aRaw : Int
  a : Int
  t : Int
deriving DecidableEq, Repr

/-- A face in READ_SPEED's answer (R140). -/
structure FaceSpeedReport where
  d : Int
  raiseCount : Nat
  last : Option EvaluationReport
  closeAdvised : Bool
  advert : Int
  held : Option AdvertReport
deriving DecidableEq, Repr

/-- READ_SPEED's answer (R140). -/
structure SpeedReport where
  vmax : Nat
  vmin : Nat
  faces : PerSide FaceSpeedReport
  nextTenths : Nat
deriving DecidableEq, Repr

/-- What PUBLISH_PAGE reports of the local store (R147). -/
inductive PublishOutcome where
  | stored
  | outsideScope
  | notNewer
deriving DecidableEq, Repr

/-- READ_PAGE's answer (R161): the version mark and, with content, the page, publisher and remaining validity. -/
structure PageReport where
  mark : Option Byte
  content : Option (Page × Nat × Option Nat)
deriving DecidableEq, Repr

/-- A fitted face in READ_SIGN's answer (R162). -/
structure SignReport where
  dark : Bool
  faulted : Bool
  lit : Bool
  roundel : Option Int
  shown : Option (Item × Nat)
  rotation : List Item
  top : Option Nat
  dwellTenths : Nat
  flashed : Flash
  phaseOn : Bool
  lastImage : Option Byte
  awaited : Nat
  missing : Nat
  lastAnswer : Option SignReply
deriving DecidableEq, Repr

/-- A toll store entry in READ_TOLL_STORE's answer (R182). -/
structure TollEntryReport where
  sequence : Word
  isReport : Bool
  sent : Bool
  sendCount : Nat
deriving DecidableEq, Repr

/-- The chosen sink in READ_TOLL_STORE's answer (R182): itself, or station and side with its hops, or none. -/
inductive SinkReport where
  | none
  | own
  | via (d : Side) (station : Nat) (hops : Option Nat)
deriving DecidableEq, Repr

/-- What READ_TOLL_STORE adds at a toll sink (R182): the queue and table sizes and, when the argument names a station, its
origin table entry or none. -/
structure SinkTablesReport where
  delivery : Nat
  origins : Nat
  named : Option (Option OriginEntry)
deriving DecidableEq, Repr

/-- READ_TOLL_STORE's answer (R182). -/
structure TollReport where
  nextSequence : Word
  records : Nat
  report : Option Word
  queued : Nat
  sent : Nat
  base : Option Word
  sink : SinkReport
  resendTenths : Nat
  fresh : Bool
  entries : List TollEntryReport
  tables : Option SinkTablesReport
deriving DecidableEq, Repr

/-- The report entry in READ_COUNTERS's answer (R193). -/
structure ReportEntryReport where
  sequence : Word
  sent : Bool
  sendCount : Nat
  firstEpoch : Option Word
  lastEpoch : Word
  lastSequence : Option Word
deriving DecidableEq, Repr

/-- READ_COUNTERS's answer (R193). -/
structure CountersReport where
  epoch : Option Word
  lanes : Vector LaneCount 8
  report : Option ReportEntryReport
  held : Option (Option Word × Word × Option Word)
deriving DecidableEq, Repr

/-- The answer of a command beside its response code; `none` is no response words. -/
inductive Answer where
  | none
  | config (c : StationConfig)
  | line (r : LineReport)
  | map (entries : List MapReport)
  | circuits (entries : List CircuitReport) (claims : List ClaimReport)
  | calls (boxes : List CallReport) (lanes : List LaneReport)
  | offers (entries : List OfferReport)
  | incidents (entries : List IncidentReport) (nearest : PerSide (Option Nat))
  | readings (r : ReadingsReport)
  | fetchedReading (entry : HeardReading) (left : Nat)
  | speed (r : SpeedReport)
  | published (version : Byte) (outcome : PublishOutcome)
  | withdrawn (version : Byte)
  | page (r : PageReport)
  | sign (faces : PerSide (Option SignReport))
  | submittedToll (sequence : Word) (records : Nat) (straight : Option Bool)
  | tollStore (r : TollReport)
  | delivery (entry : Delivery) (left : Nat)
  | epoch (number : Word)
  | counters (r : CountersReport)
  | faults (latches : Vector FaultLatch 5)
  | cleared (latches : Vector FaultLatch 5)
deriving DecidableEq, Repr

/-- The pending response (R197): the response code, the command answered and its answer. -/
structure Response where
  code : ResponseCode
  answered : Command
  answer : Answer
deriving DecidableEq, Repr

end Sys2Proof.Machine
end

