-- ==== Sys2Proof/Config.lean ====
section
/-! DEFINITION. What the manual leaves open about the part. The constants have no body: nothing can be proved of their
values, and whatever is proved holds for each of them. -/

namespace Sys2Proof.Config

open Sys2Proof Sys2Proof.Machine

/-! ### The tone (R100; assumption 6) -/

/-- The phase from which the sine of a call box port's tone is counted during an on-phase that ends at `due`, in units of
`Machine.quarterCycle`: the manual gives pitch and peak and no starting phase, so it is free. -/
opaque tonePhase (b : Fin 4) (due : Nat) : Nat

/-- Whether the tone's sample at a position of the part's time is rounded up, when it lies between two numbers: the manual
gives no rounding, so it is free. -/
opaque toneRoundsUp (b : Fin 4) (due position : Nat) : Bool

/-! ### Codes of the responses (assumption 9)

The manual lists what an answer gives (R27, R62, R85, R111, R147, R162, R182, R193) and assigns no code to the names below, nor a
word to a value that an answer gives as none or absent. All of these are free. -/

/-- The code of a port state in READ_LINE. -/
opaque portStateCode : PortState → Byte

/-- The code of a port or side, where an answer names one. -/
opaque sideCode : Side → Byte

/-- The code of a circuit state in READ_CIRCUITS. -/
opaque circuitCode : CircuitName → Byte

/-- The code of a call record's state in READ_CALLS. -/
opaque callStateCode : CallState → Byte

/-- The code of a lane's state in READ_CALLS. -/
opaque laneStateCode : LaneState → Byte

/-- The code of a lane's outcome in READ_CALLS. -/
opaque laneOutcomeCode : LaneOutcome → Byte

/-- The code of an incident's side in READ_INCIDENTS. -/
opaque incidentSideCode : IncidentSide → Byte

/-- The code of PUBLISH_PAGE's outcome. -/
opaque publishCode : PublishOutcome → Byte

/-- The byte of a built-in item in READ_SIGN, where a page stands as its number. -/
opaque builtInCode : Warning → Byte

/-- The word of a sign's last answer in READ_SIGN. -/
opaque signReplyCode : SignReply → Word

/-- The code of a toll store entry's state, QUEUED or SENT, in READ_TOLL_STORE and READ_COUNTERS. -/
opaque entryStateCode (sent : Bool) : Byte

/-- The word by which READ_TOLL_STORE gives the station itself as its chosen sink. -/
opaque ownSinkWord : Word

/-- The word at place `place` of a command's answer, or of one of its entries, where the value is none or absent. -/
opaque absentWord (c : Command) (place : Nat) : Word

end Sys2Proof.Config
end

