-- ==== Sys2Proof/Machine/State.lean ====
section
/-! DEFINITION. The state of the part, as plain data, and its value right after pin reset. INVENTORY.md lists every field
with the rule that names it and its reset value. -/

namespace Sys2Proof.Machine

open Sys2Proof

/-- Why a step could stop with a fault: the manual gives the part no way to stop, so there is no such reason. -/
inductive Fault where
deriving DecidableEq, Repr

/-- Why a step could be refused. -/
inductive Refusal where
  /-- A command the model gives no meaning. Raised by an arm of `exec` alone, and safe: nothing is claimed of the command.
  No arm raises it in this model. -/
  | notModelled (mnemonic : String)
deriving DecidableEq, Repr

/-- The whole state of the part. -/
structure State where
  /-- Commands and events waiting, first in first out (the model's own field). -/
  pending : List Instr
  /-- The part's own clock, in milliseconds since pin reset ended (section 5.4; the model's own field). -/
  now : Nat
  /-- Pin reset is held (R203). BYPASS holds the optical bypass closed exactly then (R43). -/
  resetHeld : Bool
  /-- The station state (R198): JOINED, else STARTING. -/
  joined : Bool
  /-- The strapped station number (R203). -/
  number : Nat
  /-- The configuration held (R205). -/
  config : StationConfig
  /-- The two line ports with their queues (R14, R29). -/
  ports : PerSide Port
  /-- The station map, in ascending station number (R22). -/
  map : List MapEntry
  /-- The reach view (R24 to R26). -/
  reach : PerSide Reach
  /-- The deferred list, oldest first (R38). -/
  deferred : List Deferred
  /-- The circuit table (R45); circuit c stands at index c - 1. -/
  circuits : Vector Circuit 16
  /-- The claim records (R46). -/
  claims : Vector ClaimRecord 4
  /-- The call records (R63). -/
  calls : Vector CallRecord 4
  /-- The call unit's other state (R64, R73, R76, R84). -/
  callUnit : CallUnit
  /-- The playout unit (R90, R91, R94, R97, R100). -/
  playout : Playout
  /-- The incident table and the recently-cleared list (R104). -/
  incidents : Incidents
  /-- The readings unit (R113 to R116). -/
  readings : Readings
  /-- The warning evaluator (R118 to R122). -/
  warnings : Warnings
  /-- The speed unit (R124). -/
  speed : Speed
  /-- The page store (R143). -/
  pages : Vector Slot 32
  /-- The sign unit's faces (R150, R157 to R160). -/
  faces : PerSide FaceUnit
  /-- The toll unit (R166 to R181). -/
  toll : Toll
  /-- The count unit (R184 to R191). -/
  counts : Counts
  /-- The latched faults, in the order of R201. -/
  faults : Vector FaultLatch 5
  /-- The LINE attention flag (R27). -/
  lineFlag : Bool
  /-- The pending response (R197). -/
  response : Response
deriving DecidableEq, Repr

/-- The outcome of a command. -/
abbrev Result := Host.Outcome State Fault Refusal

/-! ### The values of pin reset -/

/-- Empty queues (R29). -/
def emptyQueues : Queues := { vt := [], vl := [], ct := [], cl := [], bt := [], bl := [] }

/-- A port at pin reset (R14, R29). The end strap is clear and signal-detect present in `State.reset`: inputs, not state
the manual gives a value (assumption 2). The first probe is due at once (R43). -/
def resetPort : Port :=
  { state := .down, endStrap := false, signal := true, probes := 0, probeTimer := none, history := [],
    queues := emptyQueues, sending := none, waitCL := 0, waitBL := 0, probeSendTimer := some 0 }

/-- The configuration's defaults (R205). -/
def defaultConfig : StationConfig :=
  { faceE := false, faceW := false, answering := false, sink := false, collector := false, boxes := 0, lanes := 0,
    vmax := 120, vmin := 40, incidentReach := 3 }

/-- No reach (R26). -/
def noReach : Reach := { answering := none, sink := none }

/-- A claim record at pin reset (R59). -/
def resetClaim : ClaimRecord := { wanted := false, yields := 0, wait := none }

/-- A call record at pin reset (R63, R87); the hook input shows ON_HOOK (assumption 2). -/
def resetCall : CallRecord :=
  { offHook := false, state := .idle, callId := none, circuit := none, partner := none, offerCount := none,
    offeringSince := none, offerTimer := none, incidentTimer := none, silenceTimer := none, changedAt := 0 }

/-- A lane at pin reset (R76). -/
def resetLane : OpLane :=
  { state := .idle, call := none, takeSends := none, takeTimer := none, silenceTimer := none, outcome := .none,
    changedAt := 0 }

/-- An emptied jitter store (R94). -/
def emptyStore : JitterStore := { phase := .prefill, blocks := [], lastPlayed := none, misses := 0 }

/-- A store with its timers at pin reset: the playout timers start when reset ends (R103). -/
def resetAudio : Audio :=
  { store := emptyStore, sendSeq := 0, sendTimer := none, playoutTimer := some 20, out := none }

/-- A silent tone generator (R103). -/
def silentTone : Tone := { cadence := .none, on := false, phaseTimer := none, halfRate := false }

/-- A readings table record at pin reset (R113, R115). -/
def resetReading : Reading :=
  { value := none, clamped := false, counter := 0, lastSequence := none, submittedAt := none, pending := none,
    rateTimer := none }

/-- Every warning off and every persistence count 0 (R118). -/
def noWarnings : Warnings :=
  { fog := false, ice := false, wind := false, incident := ⟨false, false⟩, closeAdvised := ⟨false, false⟩,
    icyRun := 0, thawRun := 0, calmCount := 0 }

/-- A face of the speed unit at pin reset, JOIN and RESTART, with D at `vmax` (R125, R141). -/
def startFaceSpeed (vmax : Nat) : FaceSpeed :=
  { d := (vmax : Int), raiseCount := 0, last := none, advert := none, nearestUsed := none }

/-- The selector of a face that is not selecting (R150). -/
def emptySelector : Selector :=
  { rotation := [], top := none, shown := none, dwellTimer := none, flashOn := true, flashTimer := none }

/-- A face at pin reset (R163). -/
def resetFace : FaceUnit :=
  { dark := false, faulted := false, selector := emptySelector, sequence := 0, image := none, awaited := [],
    missing := 0, lastAnswer := none, refreshTimer := none }

/-- A lane's counters at 0 (R184). -/
def zeroLane : LaneCount := { classes := Vector.replicate 5 0, sum := 0, saturated := false }

/-- The toll unit at pin reset (R183). -/
def resetToll : Toll :=
  { store := [], counter := 0, sink := .none, resendTimer := none, fresh := true, origins := [], delivery := [] }

/-- The part right after pin reset, with the inputs of assumption 2: strapped as station 1, no end, both signal-detects
present, every handset on-hook. -/
def State.reset : State :=
  { pending := []
    now := 0
    resetHeld := false
    joined := false
    number := 1
    config := defaultConfig
    ports := ⟨resetPort, resetPort⟩
    map := []
    reach := ⟨noReach, noReach⟩
    deferred := []
    circuits := Vector.replicate 16 .free
    claims := Vector.replicate 4 resetClaim
    calls := Vector.replicate 4 resetCall
    callUnit :=
      { nextCallId := 0, offers := [], lanes := Vector.replicate 2 resetLane, callsChanged := false,
        offersChanged := false }
    playout :=
      { boxes := Vector.replicate 4 resetAudio, lanes := Vector.replicate 2 resetAudio,
        tones := Vector.replicate 4 silentTone }
    incidents := { table := [], cleared := [] }
    readings := { kinds := Vector.replicate 4 resetReading, vs := none, delivery := [] }
    warnings := noWarnings
    speed :=
      { faces := ⟨startFaceSpeed 120, startFaceSpeed 120⟩, evaluationTimer := none, advertTimer := none }
    pages := Vector.replicate 32 { content := none, mark := none }
    faces := ⟨resetFace, resetFace⟩
    toll := resetToll
    counts := { lanes := Vector.replicate 8 zeroLane, epoch := none, held := none, lastRecord := none }
    faults := Vector.replicate 5 { latched := false, count := 0 }
    lineFlag := false
    response := { code := .ok, answered := .fetch, answer := .none } }

end Sys2Proof.Machine
end

