-- ==== Sys2Proof/Machine/Operands.lean ====
section
/-! DEFINITION. The forms in which values reach and leave the part: the check (R2), the line frame (R1, R6), the payload of
every kind, the argument words of every command, and half-range comparison (section 5.3). -/

namespace Sys2Proof.Machine

open Sys2Proof

/-! ### Bytes and words -/

/-- The byte of a number that fits one. -/
def byteOf (n : Nat) : Byte := BitVec.ofNat 8 n

/-- 1 for true, 0 for false. -/
def bitByte (b : Bool) : Byte := if b then 1 else 0

/-- A byte that holds 0 or 1. -/
def parseBit (b : Byte) : Option Bool := if b = 0 then some false else if b = 1 then some true else none

/-- The upper byte of a word. -/
def hiByte (w : Word) : Byte := w.extractLsb' 8 8

/-- The lower byte of a word. -/
def loByte (w : Word) : Byte := w.extractLsb' 0 8

/-- A word from its two bytes, high byte first (R1, R195). -/
def wordOf (hi lo : Byte) : Word := hi ++ lo

/-- A word as two bytes, high byte first. -/
def wordBytes (w : Word) : List Byte := [hiByte w, loByte w]

/-- A number as two bytes, high byte first. -/
def nat16Bytes (n : Nat) : List Byte := wordBytes (BitVec.ofNat 16 n)

/-- A 32-bit number as four bytes, high byte first (R192). -/
def nat32Bytes (n : Nat) : List Byte := nat16Bytes (n / 65536) ++ nat16Bytes (n % 65536)

/-- The bytes of a list of words, upper half first (R195). -/
def bytesOfWords (ws : List Word) : List Byte := ws.flatMap wordBytes

/-- The byte at a place, 0 past the end. -/
def byteAt (bs : List Byte) (i : Nat) : Byte := bs.getD i 0

/-- The two-byte number at a place. -/
def wordAt (bs : List Byte) (i : Nat) : Word := wordOf (byteAt bs i) (byteAt bs (i + 1))

/-- The number as an index below `n`, if it is one. -/
def parseFin (n v : Nat) : Option (Fin n) := if h : v < n then some ⟨v, h⟩ else none

/-- A circuit number 1..16 as its index. -/
def parseCircuit (b : Byte) : Option (Fin 16) := if b.toNat = 0 then none else parseFin 16 (b.toNat - 1)

/-- The number 1..16 of a circuit. -/
def circuitByte (c : Fin 16) : Byte := byteOf (c.val + 1)

/-- A station number 1..63. -/
def isStation (n : Nat) : Bool := 1 ≤ n && n ≤ 63

/-! ### Wrapping sequences (section 5.3) -/

/-- `a` is newer than `b` by half range. -/
def newer {n : Nat} (a b : BitVec n) : Bool := 1 ≤ (a - b).toNat && (a - b).toNat ≤ 2 ^ (n - 1) - 1

/-- `a` is older than `b` by half range. -/
def older {n : Nat} (a b : BitVec n) : Bool := newer b a

/-- `a` is at or before `b`. -/
def atOrBefore {n : Nat} (a b : BitVec n) : Bool := a == b || older a b

/-! ### The check (R2) -/

/-- One bit through the check register: generator x^16 + x^12 + x^5 + 1. -/
def crcBit (r : Word) (b : Bool) : Word := if r.msb != b then (r <<< 1) ^^^ 0x1021 else r <<< 1

/-- One byte, most significant bit first. -/
def crcByte (r : Word) (b : Byte) : Word := [7, 6, 5, 4, 3, 2, 1, 0].foldl (fun r i => crcBit r (b.getLsbD i)) r

/-- The check over a run of bytes, from a register of all ones. -/
def crc (bs : List Byte) : Word := bs.foldl crcByte 0xFFFF

/-! ### The line frame (R1, R6) -/

/-- The six header bytes and the payload, over which the check runs. -/
def Frame.body (f : Frame) : List Byte :=
  [byteOf f.kind, byteOf f.origin, byteOf f.target, byteOf f.hops, byteOf f.hopLimit, byteOf f.payload.length] ++
    f.payload

/-- The bytes of a frame as it is sent. -/
def Frame.bytes (f : Frame) : List Byte := f.body ++ wordBytes (crc f.body)

/-- The header ranges of R6, with the payload length taken from the payload. -/
def Frame.inRange (f : Frame) : Bool :=
  f.kind ≤ 31 && isStation f.origin && f.target ≤ 63 && 1 ≤ f.hopLimit && f.hopLimit ≤ 63 &&
    f.payload.length ≤ 240 && f.hops < f.hopLimit

/-- The good frame in the bytes received, or `none` for a malformed one (R6). -/
def parseFrame (bytes : List Byte) : Option Frame :=
  match bytes with
  | k :: o :: t :: h :: hl :: len :: rest =>
    let payload := rest.take len.toNat
    let f : Frame := ⟨k.toNat, o.toNat, t.toNat, h.toNat, hl.toNat, payload⟩
    if rest.length = len.toNat + 2 ∧ rest.drop len.toNat = wordBytes (crc (k :: o :: t :: h :: hl :: len :: payload)) ∧
        f.inRange = true then some f else none
  | _ => none

/-- The code of a kind (R3). -/
def FrameKind.code : FrameKind → Nat
  | .probe => 0
  | .voice => 1
  | .claim => 2
  | .release => 3
  | .offer => 4
  | .take => 5
  | .refuse => 6
  | .hangup => 7
  | .incident => 8
  | .clear => 9
  | .reading => 10
  | .speed => 11
  | .page => 12
  | .toll => 13
  | .tollAck => 14
  | .epoch => 15

/-- The assigned kinds by code (R3). -/
def kindOf (code : Nat) : Option FrameKind :=
  [.probe, .voice, .claim, .release, .offer, .take, .refuse, .hangup, .incident, .clear, .reading, .speed, .page, .toll,
    .tollAck, .epoch][code]?

/-- The class of a kind; unassigned kinds are bulk (R3, R29). -/
def classOf (code : Nat) : FrameClass :=
  match kindOf code with
  | some .voice => .voice
  | some .reading | some .page | some .toll | some .tollAck | some .epoch | none => .bulk
  | _ => .control

/-! ### Payloads of the line chapter (R24) -/

/-- What a probe says (R24). -/
structure ProbeFields where
  joined : Bool
  answering : Bool
  sink : Bool
  answeringBeyond : Option RoleEntry
  sinkBeyond : Option RoleEntry
deriving DecidableEq, Repr

/-- A beyond entry; none is station 0 at hops 0. -/
def roleBytes : Option RoleEntry → List Byte
  | none => [0, 0]
  | some r => [byteOf r.station, byteOf r.hops]

/-- A beyond entry, refused when it is neither 0 with 0 nor a station and hops each in 1..63. -/
def parseRole (st hops : Byte) : Option (Option RoleEntry) :=
  if st = 0 ∧ hops = 0 then some none
  else if isStation st.toNat && isStation hops.toNat then some (some ⟨st.toNat, hops.toNat⟩) else none

/-- The payload of a PROBE. -/
def ProbeFields.payload (p : ProbeFields) : List Byte :=
  [bitByte p.joined, byteOf ((if p.answering then 1 else 0) + (if p.sink then 2 else 0))] ++
    roleBytes p.answeringBeyond ++ roleBytes p.sinkBeyond

/-- The fields of a PROBE payload. -/
def parseProbe : List Byte → Option ProbeFields
  | st :: roles :: a1 :: a2 :: s1 :: s2 :: _ => do
    let joined ← parseBit st
    let a ← parseRole a1 a2
    let s ← parseRole s1 s2
    if roles.toNat ≤ 3 then some ⟨joined, roles.getLsbD 0, roles.getLsbD 1, a, s⟩ else none
  | _ => none

/-! ### Payloads of the circuit and call chapters (R47, R67, R68, R71, R89) -/

/-- A voice block's fields (R89). -/
structure Voice where
  circuit : Fin 16
  toward : Bool
  callId : Byte
  sequence : Byte
  samples : List Byte
deriving DecidableEq, Repr

/-- The payload of a VOICE frame. -/
def Voice.payload (v : Voice) : List Byte :=
  [circuitByte v.circuit ||| (if v.toward then 0x80 else 0), v.callId, v.sequence] ++ v.samples

/-- The circuit number and direction that the circuit unit reads from a VOICE payload (R54), if it names a circuit
(DEDUCED, assumption 14). -/
def parseVoiceShown (payload : List Byte) : Option (Fin 16 × Bool) :=
  if 163 ≤ payload.length then
    (parseCircuit (byteAt payload 0 &&& 0x1F)).map fun c => (c, (byteAt payload 0).getLsbD 7)
  else none

/-- The fields of a VOICE payload that is taken: bits 5 and 6 of the circuit field are zero as well (R89). -/
def parseVoice (payload : List Byte) : Option Voice :=
  match parseVoiceShown payload with
  | some (c, toward) =>
    if (byteAt payload 0).getLsbD 5 || (byteAt payload 0).getLsbD 6 then none
    else some ⟨c, toward, byteAt payload 1, byteAt payload 2, (payload.drop 3).take 160⟩
  | none => none

/-- The payload of a CLAIM (R47). -/
def claimPayload (c : Fin 16) (held : Bool) : List Byte := [circuitByte c, bitByte held]

/-- The circuit and held flag of a CLAIM. -/
def parseClaim : List Byte → Option (Fin 16 × Bool)
  | c :: h :: _ => do
    let c ← parseCircuit c
    let h ← parseBit h
    some (c, h)
  | _ => none

/-- The payload of a RELEASE (R47). -/
def releasePayload (c : Fin 16) : List Byte := [circuitByte c]

/-- The circuit of a RELEASE. -/
def parseRelease : List Byte → Option (Fin 16)
  | c :: _ => parseCircuit c
  | _ => none

/-- An OFFER's fields (R67). -/
structure OfferFields where
  callId : Byte
  box : Fin 4
  circuit : Fin 16
  count : Nat
deriving DecidableEq, Repr

/-- The payload of an OFFER. -/
def OfferFields.payload (o : OfferFields) : List Byte := [o.callId, byteOf o.box.val, circuitByte o.circuit, byteOf o.count]

/-- The fields of an OFFER. -/
def parseOffer : List Byte → Option OfferFields
  | i :: b :: c :: n :: _ => do
    let box ← parseFin 4 b.toNat
    let circuit ← parseCircuit c
    if n.toNat = 0 then none else some ⟨i, box, circuit, n.toNat⟩
  | _ => none

/-- The payload of a TAKE (R68). -/
def takePayload (callId : Byte) (l : Fin 2) : List Byte := [callId, byteOf l.val]

/-- The call id and lane of a TAKE. -/
def parseTake : List Byte → Option (Byte × Fin 2)
  | i :: l :: _ => (parseFin 2 l.toNat).map fun l => (i, l)
  | _ => none

/-- The payload of a REFUSE (R68); the reason is ENDED, else TAKEN_ELSEWHERE. -/
def refusePayload (callId : Byte) (ended : Bool) : List Byte := [callId, bitByte ended]

/-- The payload of a HANGUP (R71); the direction is toward the lane, else toward the call box. -/
def hangupPayload (callId : Byte) (towardLane : Bool) : List Byte := [callId, bitByte towardLane]

/-- The call id and the 0-or-1 field of a REFUSE or HANGUP. -/
def parseIdBit : List Byte → Option (Byte × Bool)
  | i :: b :: _ => (parseBit b).map fun b => (i, b)
  | _ => none

/-! ### Payloads of the road state chapters (R105, R109, R115, R136, R144) -/

/-- The payload of an INCIDENT (R105). -/
def incidentPayload (callId : Byte) (b : Fin 4) : List Byte := [callId, byteOf b.val]

/-- The call id and call box index of an INCIDENT. -/
def parseIncident : List Byte → Option (Byte × Fin 4)
  | i :: b :: _ => (parseFin 4 b.toNat).map fun b => (i, b)
  | _ => none

/-- The payload of a CLEAR (R109). -/
def clearPayload (origin : Nat) (callId : Byte) : List Byte := [byteOf origin, callId]

/-- The incident origin and call id of a CLEAR. -/
def parseClear : List Byte → Option (Nat × Byte)
  | o :: i :: _ => if isStation o.toNat then some (o.toNat, i) else none
  | _ => none

/-- The code of a reading kind, which is its place in the readings table (R112). -/
def readingCode : ReadingKind → Fin 4
  | .visibility => 0
  | .surfaceState => 1
  | .surfaceTemp => 2
  | .gust => 3

/-- The reading kind of a code. -/
def readingKindOf : Nat → Option ReadingKind
  | 0 => some .visibility
  | 1 => some .surfaceState
  | 2 => some .surfaceTemp
  | 3 => some .gust
  | _ => none

/-- The least value of a kind (R112). -/
def readingLow : ReadingKind → Int
  | .surfaceTemp => -400
  | _ => 0

/-- The greatest value of a kind (R112). -/
def readingHigh : ReadingKind → Int
  | .visibility => 2000
  | .surfaceState => 4
  | .surfaceTemp => 800
  | .gust => 250

/-- The value brought to the nearer end of its kind's range (R112). -/
def clampReading (k : ReadingKind) (v : Int) : Int := max (readingLow k) (min v (readingHigh k))

/-- The payload of a READING (R115). -/
def readingPayload (k : ReadingKind) (r : PendingReading) : List Byte :=
  [byteOf (readingCode k).val] ++ wordBytes (BitVec.ofInt 16 r.value) ++ [bitByte r.clamped, r.sequence]

/-- The fields of a READING. -/
def parseReading : List Byte → Option (ReadingKind × PendingReading)
  | kind :: v1 :: v2 :: flag :: seq :: _ => do
    let k ← readingKindOf kind.toNat
    let clamped ← parseBit flag
    let v := (wordOf v1 v2).toInt
    if readingLow k ≤ v ∧ v ≤ readingHigh k then some (k, ⟨v, clamped, seq⟩) else none
  | _ => none

/-- A SPEED frame's adverts and lit flags (R136). -/
structure SpeedFields where
  e : Int
  w : Int
  litE : Bool
  litW : Bool
deriving DecidableEq, Repr

/-- The payload of a SPEED. -/
def SpeedFields.payload (x : SpeedFields) : List Byte :=
  [BitVec.ofInt 8 x.e, BitVec.ofInt 8 x.w, byteOf ((if x.litE then 1 else 0) + (if x.litW then 2 else 0))]

/-- An advert is a multiple of 10 from 40 to 130 (R136). -/
def parseAdvert (b : Byte) : Option Int :=
  if 40 ≤ b.toNat ∧ b.toNat ≤ 130 ∧ b.toNat % 10 = 0 then some (b.toNat : Int) else none

/-- The fields of a SPEED (R138). -/
def parseSpeed : List Byte → Option SpeedFields
  | e :: w :: lit :: _ => do
    let e ← parseAdvert e
    let w ← parseAdvert w
    if lit.toNat ≤ 3 then some ⟨e, w, lit.getLsbD 0, lit.getLsbD 1⟩ else none
  | _ => none

/-- The flash codes (R144). -/
def Flash.code : Flash → Nat
  | .none => 0
  | .text => 1
  | .picto => 2
  | .all => 3

/-- The flash of a code. -/
def flashOf : Nat → Option Flash
  | 0 => some .none
  | 1 => some .text
  | 2 => some .picto
  | 3 => some .all
  | _ => none

/-- The bound warning codes (R144). -/
def boundCode : Option Warning → Nat
  | none => 0
  | some .fog => 1
  | some .ice => 2
  | some .wind => 3
  | some .incident => 4
  | some .closeAdvised => 5

/-- The bound warning of a code. -/
def boundOf : Nat → Option (Option Warning)
  | 0 => some none
  | 1 => some (some .fog)
  | 2 => some (some .ice)
  | 3 => some (some .wind)
  | 4 => some (some .incident)
  | 5 => some (some .closeAdvised)
  | _ => none

/-- The faces of a code: 1 E, 2 W, 3 both (R144). -/
def facesOf : Nat → Option (Bool × Bool)
  | 1 => some (true, false)
  | 2 => some (false, true)
  | 3 => some (true, true)
  | _ => none

/-- The faces code of a page. -/
def facesCode (e w : Bool) : Nat := (if e then 1 else 0) + (if w then 2 else 0)

/-- A scope whose fields lie in the ranges of R142. -/
def parseScope (m k h : Nat) : Option Scope :=
  if 1 ≤ m ∧ m ≤ 63 ∧ k ≤ 63 ∧ 1 ≤ h ∧ h ≤ 63 then some ⟨m, k, h⟩ else none

/-- The station lies within the scope (R142). -/
def Scope.takesIn (s : Scope) (station : Nat) : Bool := station &&& s.mask == s.matchBits &&& s.mask

/-- A length byte of at most `max` and that many bytes, with what follows. -/
def takeString (max : Nat) : List Byte → Option (List Byte × List Byte)
  | [] => none
  | n :: rest => if n.toNat ≤ max ∧ n.toNat ≤ rest.length then some (rest.take n.toNat, rest.drop n.toNat) else none

/-- A character of the sign set (R142). -/
def inSignSet (c : Byte) : Bool := 32 ≤ c.toNat && c.toNat ≤ 95

/-- A string behind its length byte. -/
def stringBytes (l : List Byte) : List Byte := byteOf l.length :: l

/-- A page's payload in a PAGE frame (R144). -/
def Page.payload (p : Page) : List Byte :=
  [byteOf p.number.val, p.version, byteOf p.priority, byteOf (facesCode p.faceE p.faceW), byteOf p.pictogram,
    byteOf p.flash.code] ++ nat16Bytes (p.validity.getD 0) ++
    [byteOf (boundCode p.bound), byteOf p.scope.matchBits, byteOf p.scope.mask, byteOf p.scope.hopLimit] ++
    stringBytes p.line1 ++ stringBytes p.line2 ++ stringBytes p.line3

/-- A withdrawal's payload (R144): priority 0, its other fields zero and its lines empty. -/
def withdrawalPayload (n : Fin 32) (version : Byte) (s : Scope) : List Byte :=
  [byteOf n.val, version, 0, 0, 0, 0, 0, 0, 0, byteOf s.matchBits, byteOf s.mask, byteOf s.hopLimit, 0, 0, 0]

/-- The payload of a PAGE frame. -/
def PageNotice.payload : PageNotice → List Byte
  | .publish p => p.payload
  | .withdraw n v s => withdrawalPayload n v s

/-- What a PAGE payload says; of a withdrawal only number, version and scope are read (R144; DEDUCED, assumption 16). -/
def parsePage (bs : List Byte) : Option PageNotice := do
  let n ← parseFin 32 (byteAt bs 0).toNat
  let scope ← parseScope (byteAt bs 9).toNat (byteAt bs 10).toNat (byteAt bs 11).toNat
  if bs.length < 15 ∨ 7 < (byteAt bs 2).toNat then none
  else if byteAt bs 2 = 0 then some (.withdraw n (byteAt bs 1) scope)
  else
    let (e, w) ← facesOf (byteAt bs 3).toNat
    let flash ← flashOf (byteAt bs 5).toNat
    let bound ← boundOf (byteAt bs 8).toNat
    let (l1, r1) ← takeString 18 (bs.drop 12)
    let (l2, r2) ← takeString 18 r1
    let (l3, _) ← takeString 18 r2
    let validity := (wordAt bs 6).toNat
    if (byteAt bs 4).toNat ≤ 31 ∧ validity ≤ 1440 ∧ (l1 ++ l2 ++ l3).all inSignSet = true then
      some (.publish ⟨n, byteAt bs 1, (byteAt bs 2).toNat, e, w, l1, l2, l3, (byteAt bs 4).toNat, flash,
        if validity = 0 then none else some validity, bound, scope⟩)
    else none

/-! ### Payloads of the toll chapters (R171, R174, R186, R192) -/

/-- An optional sequence behind its presence byte (R192). -/
def presenceBytes : Option Word → List Byte
  | none => [0, 0, 0]
  | some w => 1 :: wordBytes w

/-- An optional sequence at a place. -/
def parsePresence (bs : List Byte) (i : Nat) : Option (Option Word) :=
  (parseBit (byteAt bs i)).map fun p => if p then some (wordAt bs (i + 1)) else none

/-- A lane set in a report (R192). -/
def LaneCount.bytes (l : LaneCount) : List Byte :=
  l.classes.toList.flatMap nat16Bytes ++ nat32Bytes l.sum ++ [bitByte l.saturated]

/-- The lane set at a place; `parseReport` has judged the saturated flag. -/
def laneCountAt (bs : List Byte) (i : Nat) : LaneCount :=
  { classes := Vector.ofFn fun j : Fin 5 => (wordAt bs (i + 2 * j.val)).toNat
    sum := (wordAt bs (i + 10)).toNat * 65536 + (wordAt bs (i + 12)).toNat
    saturated := byteAt bs (i + 14) == 1 }

/-- The content of a REPORT (R192). -/
def Report.bytes (r : Report) : List Byte :=
  presenceBytes r.firstEpoch ++ wordBytes r.lastEpoch ++ presenceBytes r.lastSequence ++
    r.lanes.toList.flatMap LaneCount.bytes

/-- The content of a REPORT: 128 bytes, with presence bytes and saturated flags of 0 or 1 (R192). -/
def parseReport (bs : List Byte) : Option Report := do
  let first ← parsePresence bs 0
  let last ← parsePresence bs 5
  if 128 ≤ bs.length ∧ (List.range 8).all (fun i => (parseBit (byteAt bs (8 + 15 * i + 14))).isSome) = true then
    some ⟨first, wordAt bs 3, last, Vector.ofFn fun i : Fin 8 => laneCountAt bs (8 + 15 * i.val)⟩
  else none

/-- The content of a RECORD (R171). -/
def TollRecord.bytes (r : TollRecord) : List Byte :=
  [byteOf (r.lane.val + 1), byteOf (r.vehicleClass.val + 1)] ++ nat16Bytes r.amount ++ r.timestamp ++
    stringBytes r.tag ++ (match r.plate with | none => [0] | some p => 1 :: p)

/-- The content of a RECORD: lane 1..8, class 1..5, a tag of 4..12 bytes, a plate that is absent or of 8 bytes. -/
def parseRecord (bs : List Byte) : Option TollRecord := do
  let lane ← if (byteAt bs 0).toNat = 0 then none else parseFin 8 ((byteAt bs 0).toNat - 1)
  let cls ← if (byteAt bs 1).toNat = 0 then none else parseFin 5 ((byteAt bs 1).toNat - 1)
  let (tag, rest) ← takeString 12 (bs.drop 10)
  if tag.length < 4 then none
  else
    let present ← match rest with | b :: _ => parseBit b | [] => none
    let r : TollRecord := ⟨lane, cls, (wordAt bs 2).toNat, (bs.drop 4).take 6, tag, none⟩
    if present then
      if 9 ≤ rest.length then some { r with plate := some ((rest.drop 1).take 8) } else none
    else some r

/-- The payload of a TOLL (R171). -/
def TollFrame.payload (t : TollFrame) : List Byte :=
  wordBytes t.sequence ++ wordBytes t.base ++ [bitByte t.fresh] ++
    match t.content with
    | .record r => 0 :: r.bytes
    | .report r => 1 :: r.bytes

/-- The fields of a TOLL. -/
def parseToll (bs : List Byte) : Option TollFrame := do
  let fresh ← parseBit (byteAt bs 4)
  let isReport ← parseBit (byteAt bs 5)
  if bs.length < 6 then none
  else
    let content ← if isReport then (parseReport (bs.drop 6)).map .report else (parseRecord (bs.drop 6)).map .record
    some ⟨wordAt bs 0, wordAt bs 2, fresh, content⟩

/-- The two-byte field of a TOLLACK or EPOCH (R174, R186). -/
def parseWord : List Byte → Option Word
  | hi :: lo :: _ => some (wordOf hi lo)
  | _ => none

/-! ### Command codes and cabinet frames (R195, R196, section 11.4) -/

/-- The code of a command (section 11.4). -/
def Command.code : Command → Nat
  | .fetch => 0
  | .configure => 1
  | .join => 2
  | .restart => 3
  | .readLine => 4
  | .readMap => 5
  | .readCircuits => 8
  | .readCalls => 9
  | .readOffers => 10
  | .takeCall => 11
  | .endCall => 12
  | .readIncidents => 16
  | .clearIncident => 17
  | .submitReading => 18
  | .readReadings => 19
  | .fetchReading => 20
  | .readSpeed => 24
  | .publishPage => 25
  | .withdrawPage => 26
  | .readPage => 27
  | .readSign => 28
  | .setFaceDark => 29
  | .submitToll => 32
  | .readTollStore => 33
  | .fetchDelivery => 34
  | .issueEpoch => 35
  | .readCounters => 36
  | .readFaults => 40
  | .clearFaults => 41

/-- The commands, in code order. -/
def allCommands : List Command :=
  [.fetch, .configure, .join, .restart, .readLine, .readMap, .readCircuits, .readCalls, .readOffers, .takeCall, .endCall,
    .readIncidents, .clearIncident, .submitReading, .readReadings, .fetchReading, .readSpeed, .publishPage, .withdrawPage,
    .readPage, .readSign, .setFaceDark, .submitToll, .readTollStore, .fetchDelivery, .issueEpoch, .readCounters,
    .readFaults, .clearFaults]

/-- The command of a code; codes not listed have none. -/
def commandOf (code : Nat) : Option Command := allCommands.find? fun c => c.code == code

/-- The station states that accept a command (section 11.4). -/
def Command.acceptedIn (c : Command) (joined : Bool) : Bool :=
  match c with
  | .fetch | .readLine | .readMap | .readFaults | .clearFaults => true
  | .configure | .join => !joined
  | _ => joined

/-- Whether the configuration holds the role a command belongs to, for the commands that belong to one (section 11.4). -/
def Command.roleHeld (c : Command) (cfg : StationConfig) : Bool :=
  match c with
  | .readOffers | .takeCall | .endCall | .clearIncident => cfg.answering
  | .fetchReading => cfg.collector
  | .fetchDelivery | .issueEpoch => cfg.sink
  | _ => true

/-- The argument counts a command takes (section 11.4); a count that must match lengths within the arguments is judged
with them. -/
def Command.takesCount (c : Command) (n : Nat) : Bool :=
  match c with
  | .configure | .withdrawPage => n == 4
  | .takeCall | .clearIncident | .submitReading | .setFaceDark => n == 2
  | .readMap | .endCall | .readPage | .readTollStore | .issueEpoch | .clearFaults => n == 1
  | .publishPage => 8 ≤ n && n ≤ 64
  | .submitToll => 9 ≤ n && n ≤ 17
  | _ => n == 0

/-- The check over words, each fed high byte first (R195). -/
def crcWords (ws : List Word) : Word := crc (bytesOfWords ws)

/-- The frame fault of a cabinet frame's input, if any, by the tests of R196 in their order. -/
def frameFault (words : List Word) : Option ResponseCode :=
  match words with
  | [] => some .frameShort
  | w :: _ =>
    let n := (loByte w).toNat
    if words.length < n + 2 then some .frameShort
    else if crcWords (words.take (n + 1)) ≠ words.getD (n + 1) 0 then some .crcFault
    else if (commandOf (hiByte w).toNat).isNone then some .unknownCommand
    else none

/-! ### Arguments of the commands. Layouts that the manual does not give are those of assumptions 7 and 8. -/

/-- CONFIGURE's four words (R205). -/
def configWords (c : StationConfig) : List Word :=
  [wordOf (byteOf ((if c.faceE then 1 else 0) + (if c.faceW then 2 else 0)))
      (byteOf ((if c.answering then 1 else 0) + (if c.sink then 2 else 0) + (if c.collector then 4 else 0))),
    wordOf (byteOf c.boxes) (byteOf c.lanes), wordOf (byteOf c.vmax) (byteOf c.vmin), wordOf 0 (byteOf c.incidentReach)]

/-- A configuration in force (R123, R205). -/
def StationConfig.valid (c : StationConfig) : Bool :=
  c.boxes ≤ 4 && c.lanes ≤ 2 && (c.lanes == 0 || c.answering) &&
    (60 ≤ c.vmax && c.vmax ≤ 130 && c.vmax % 10 == 0) && (40 ≤ c.vmin && c.vmin ≤ 80 && c.vmin % 10 == 0) &&
    c.vmin + 20 ≤ c.vmax && 1 ≤ c.incidentReach && c.incidentReach ≤ 7

/-- The configuration of CONFIGURE's words, unless R205 refuses them. -/
def parseConfig : List Word → Option StationConfig
  | [w1, w2, w3, w4] =>
    let c : StationConfig :=
      { faceE := (hiByte w1).getLsbD 0, faceW := (hiByte w1).getLsbD 1, answering := (loByte w1).getLsbD 0,
        sink := (loByte w1).getLsbD 1, collector := (loByte w1).getLsbD 2, boxes := (hiByte w2).toNat,
        lanes := (loByte w2).toNat, vmax := (hiByte w3).toNat, vmin := (loByte w3).toNat,
        incidentReach := (loByte w4).toNat }
    if (hiByte w1).toNat ≤ 3 ∧ (loByte w1).toNat ≤ 7 ∧ hiByte w4 = 0 ∧ c.valid = true then some c else none
  | _ => none

/-- An origin 1..63 and a call id, packed in one word (TAKE_CALL has three fields in two words). -/
def parseKeyWord (w : Word) : Option (Nat × Byte) :=
  if isStation (hiByte w).toNat then some ((hiByte w).toNat, loByte w) else none

/-- TAKE_CALL's arguments (R77): the offer's key and the lane (DESIGN CHOICE, assumption 8). -/
def parseTakeCall : List Word → Option (Nat × Byte × Fin 2)
  | [w, l] => do
    let (o, i) ← parseKeyWord w
    let l ← parseFin 2 l.toNat
    some (o, i, l)
  | _ => none

/-- CLEAR_INCIDENT's arguments (R110): an origin 1..63 and a call id 0..255, one word each. -/
def parseClearIncident : List Word → Option (Nat × Byte)
  | [o, i] => if isStation o.toNat ∧ i.toNat ≤ 255 then some (o.toNat, byteOf i.toNat) else none
  | _ => none

/-- SUBMIT_READING's arguments (R112): a kind code and a signed value. A SURFACE_STATE outside 0..4 is refused. -/
def parseSubmitReading : List Word → Option (ReadingKind × Int)
  | [k, v] => do
    let k ← readingKindOf k.toNat
    if k = .surfaceState ∧ ¬(0 ≤ v.toInt ∧ v.toInt ≤ 4) then none else some (k, v.toInt)
  | _ => none

/-- WITHDRAW_PAGE's arguments (R148). -/
def parseWithdraw : List Word → Option (Fin 32 × Scope)
  | [n, m, k, h] => do
    let n ← parseFin 32 n.toNat
    let s ← parseScope m.toNat k.toNat h.toNat
    some (n, s)
  | _ => none

/-- SET_FACE_DARK's arguments (R157): the face, 1 E or 2 W, and the setting, 0 lit or 1 dark
(DESIGN CHOICE, assumption 8). -/
def parseSetDark : List Word → Option (Face × Bool)
  | [f, d] => do
    let f ← if f = 1 then some Side.east else if f = 2 then some Side.west else none
    let d ← if d = 0 then some false else if d = 1 then some true else none
    some (f, d)
  | _ => none

/-- PUBLISH_PAGE's arguments (R146) before adjustment; `version = none` is auto. -/
structure PublishArgs where
  number : Fin 32
  version : Option Byte
  priority : Nat
  faceE : Bool
  faceW : Bool
  line1 : List Byte
  line2 : List Byte
  line3 : List Byte
  pictogram : Nat
  flash : Flash
  validity : Nat
  bound : Option Warning
  scope : Scope
deriving DecidableEq, Repr

/-- A byte string of at most `max` bytes behind its length word, two bytes to a word, with the words that follow (R195). The
lower half after an odd last byte is not judged (DESIGN CHOICE, assumption 46). -/
def takePacked (max : Nat) : List Word → Option (List Byte × List Word)
  | [] => none
  | w :: ws =>
    let n := (w.toNat + 1) / 2
    if w.toNat ≤ max ∧ n ≤ ws.length then some ((bytesOfWords (ws.take n)).take w.toNat, ws.drop n) else none

/-- PUBLISH_PAGE's arguments from its words: the number, the version, with 256 for auto, priority and faces in one word, the
three lines, and then pictogram and flash, the validity, bound warning and match, mask and hop limit (DEDUCED, assumption
7). `none` where R146 refuses them or the count does not match the three line lengths. -/
def parsePublish : List Word → Option PublishArgs
  | n :: v :: pf :: rest => do
    let n ← parseFin 32 n.toNat
    let (e, w) ← facesOf (loByte pf).toNat
    let (l1, r1) ← takePacked 36 rest
    let (l2, r2) ← takePacked 36 r1
    let (l3, r3) ← takePacked 36 r2
    match r3 with
    | [pictFlash, validity, boundMatch, maskHops] =>
      let flash ← flashOf (loByte pictFlash).toNat
      let bound ← boundOf (hiByte boundMatch).toNat
      let scope ← parseScope (loByte boundMatch).toNat (hiByte maskHops).toNat (loByte maskHops).toNat
      if 1 ≤ (hiByte pf).toNat ∧ v.toNat ≤ 256 ∧ (hiByte pictFlash).toNat ≤ 31 then
        some ⟨n, if v.toNat = 256 then none else some (loByte v), (hiByte pf).toNat, e, w, l1, l2, l3,
          (hiByte pictFlash).toNat, flash, validity.toNat, bound, scope⟩
      else none
    | _ => none
  | _ => none

/-- A given line as it is kept: its first 18 characters, each outside the sign set made a space (R146). -/
def signLine (l : List Byte) : List Byte := (l.take 18).map fun c => if inSignSet c then c else 32

/-- The page of accepted arguments, with the adjustments of R146 made, under a version. -/
def PublishArgs.page (a : PublishArgs) (version : Byte) : Page :=
  { number := a.number, version := version, priority := min a.priority 7, faceE := a.faceE, faceW := a.faceW,
    line1 := signLine a.line1, line2 := signLine a.line2, line3 := signLine a.line3, pictogram := a.pictogram,
    flash := a.flash, validity := if a.validity = 0 then none else some (min a.validity 1440), bound := a.bound,
    scope := a.scope }

/-- Whether an adjustment was made (R146). -/
def PublishArgs.adjusted (a : PublishArgs) : Bool :=
  7 < a.priority || 1440 < a.validity || signLine a.line1 != a.line1 || signLine a.line2 != a.line2 ||
    signLine a.line3 != a.line3

/-- SUBMIT_TOLL's record from its words (R165): lane and class in one word, the amount, three words of timestamp, the tag
behind its length, the presence flag and the plate (DEDUCED, assumption 7). -/
def parseSubmitToll : List Word → Option TollRecord
  | lc :: amount :: t1 :: t2 :: t3 :: rest => do
    let lane ← if (hiByte lc).toNat = 0 then none else parseFin 8 ((hiByte lc).toNat - 1)
    let cls ← if (loByte lc).toNat = 0 then none else parseFin 5 ((loByte lc).toNat - 1)
    let (tag, rest) ← takePacked 12 rest
    if tag.length < 4 then none
    else
      let r : TollRecord := ⟨lane, cls, amount.toNat, bytesOfWords [t1, t2, t3], tag, none⟩
      match rest with
      | [p] => if p = 0 then some r else none
      | [p, a, b, c, d] => if p = 1 then some { r with plate := some (bytesOfWords [a, b, c, d]) } else none
      | _ => none
  | _ => none

end Sys2Proof.Machine
end

