-- ==== Sys2Proof/Decode.lean ====
section
/-! DEFINITION. From words to commands: the table's words, and the frames of the cabinet port (R195, R196) with their
encoder. -/

namespace Sys2Proof

open Sys2Proof.Machine

/-- The command a table word spells: no row of spec/opcode_table.json gives bits, so none does (assumption 10). -/
def decodeTableWord (_nbits _w : Nat) : Option Instr := none

/-- The row of a command with the argument words that came with it. -/
def commandRow (c : Command) (args : List Word) : Instr :=
  match c with
  | .fetch => .fetch args
  | .configure => .configure args
  | .join => .join args
  | .restart => .restart args
  | .readLine => .readLine args
  | .readMap => .readMap args
  | .readCircuits => .readCircuits args
  | .readCalls => .readCalls args
  | .readOffers => .readOffers args
  | .takeCall => .takeCall args
  | .endCall => .endCall args
  | .readIncidents => .readIncidents args
  | .clearIncident => .clearIncident args
  | .submitReading => .submitReading args
  | .readReadings => .readReadings args
  | .fetchReading => .fetchReading args
  | .readSpeed => .readSpeed args
  | .publishPage => .publishPage args
  | .withdrawPage => .withdrawPage args
  | .readPage => .readPage args
  | .readSign => .readSign args
  | .setFaceDark => .setFaceDark args
  | .submitToll => .submitToll args
  | .readTollStore => .readTollStore args
  | .fetchDelivery => .fetchDelivery args
  | .issueEpoch => .issueEpoch args
  | .readCounters => .readCounters args
  | .readFaults => .readFaults args
  | .clearFaults => .clearFaults args

/-- The event at the end of a cabinet frame whose whole words were these (R196). -/
def decodeCabinetFrame (words : List Word) : Instr :=
  match words with
  | [] => .cabinetFrameFault words
  | w :: rest =>
    if (frameFault words).isSome then .cabinetFrameFault words
    else
      match commandOf (hiByte w).toNat with
      | none => .cabinetFrameFault words
      | some c => commandRow c (rest.take (loByte w).toNat)

/-- The input words of a cabinet frame that carries a command (R195). -/
def encodeCabinetFrame (c : Command) (args : List Word) : List Word :=
  let words := wordOf (byteOf c.code) (byteOf args.length) :: args
  words ++ [crcWords words]

end Sys2Proof
end

