-- ==== Sys2Proof/Machine/Responses.lean ====
section
/-! DEFINITION. The response words of the cabinet port's answers (R195). Their fields come in the order their owning rules list
them and byte strings and 32-bit values as R195 says. Section 11.4 gives the word counts: they say which fields share a word,
and where a flag stands before a value that may be absent (DEDUCED, assumption 9). Codes that the manual does not assign and the words
of absent values are the free values of Config.lean. A flag is 1 for yes and 0 for no. -/

namespace Sys2Proof.Machine

open Sys2Proof

/-! ### Parts of a response -/

/-- A flag as a word. -/
def bitWord (b : Bool) : Word := if b then 1 else 0

/-- A number as a word. -/
def natWord (n : Nat) : Word := BitVec.ofNat 16 n

/-- A signed number as a word, in two's complement. -/
def intWord (v : Int) : Word := BitVec.ofInt 16 v

/-- Two numbers below 256 in one word, the first in the upper half. -/
def pairWord (hi lo : Nat) : Word := wordOf (byteOf hi) (byteOf lo)

/-- Flags as the bits of a word, lowest bit first, as R201 packs its latched flags. -/
def flagsWord (bs : List Bool) : Word := natWord (bs.foldr (fun b n => (if b then 1 else 0) + 2 * n) 0)

/-- A byte string, two bytes to a word, the first in the upper half; an odd last byte leaves the lower half zero (R195). -/
def packBytes : List Byte → List Word
  | [] => []
  | [a] => [wordOf a 0]
  | a :: b :: rest => wordOf a b :: packBytes rest

/-- A 32-bit value in two words, the upper half first (R195). -/
def wordsOf32 (n : Nat) : List Word := [natWord (n / 65536), natWord (n % 65536)]

/-- A byte string of varying length behind its length. -/
def stringWords (l : List Byte) : List Word := natWord l.length :: packBytes l

/-- A sequence that may be absent, behind a presence word; none is carried as zero, as R192 carries it. -/
def optionWords (x : Option Word) : List Word := [bitWord x.isSome, x.getD 0]

/-- A station and its hops in one word, or the word of none. -/
def roleWord (c : Command) (place : Nat) (r : Option RoleEntry) : Word :=
  match r with
  | none => Config.absentWord c place
  | some r => pairWord r.station r.hops

/-! ### The line (R27, R28) -/

/-- A port of READ_LINE, in five words. -/
def PortReport.words (p : PortReport) : List Word :=
  [wordOf 0 (Config.portStateCode p.state), bitWord p.signal, natWord p.failures, natWord p.historyLength,
    natWord p.probes]

/-- READ_LINE, in 18 words (R27). Of each pair, the end straps, the ports and the sides of the reach view, East stands
before West: the manual gives no order (DESIGN CHOICE, assumption 47). -/
def LineReport.words (r : LineReport) : List Word :=
  [bitWord r.joined, natWord r.number, bitWord r.eastEnd, bitWord r.westEnd] ++ r.ports.east.words ++
    r.ports.west.words ++
    [roleWord .readLine 14 r.reach.east.answering, roleWord .readLine 15 r.reach.east.sink,
      roleWord .readLine 16 r.reach.west.answering, roleWord .readLine 17 r.reach.west.sink]

/-- An entry of READ_MAP, in two words (R28). -/
def MapReport.words (e : MapReport) : List Word :=
  [wordOf (byteOf e.station) (Config.sideCode e.port), pairWord e.distance e.ageTenths]

/-! ### Circuits and calls (R62, R85, R86) -/

/-- A circuit of READ_CIRCUITS, in three words (R62): the age and the time left share the third. -/
def CircuitReport.words (e : CircuitReport) : List Word :=
  [wordOf (byteOf e.circuit) (Config.circuitCode e.state),
    wordOf (byteOf e.holder) (e.bound.elim (loByte (Config.absentWord .readCircuits 1)) fun b => byteOf b.val),
    wordOf (e.ageTenths.elim (hiByte (Config.absentWord .readCircuits 2)) byteOf)
      (e.leftMs.elim (loByte (Config.absentWord .readCircuits 2)) byteOf)]

/-- A claim record of READ_CIRCUITS, in two words (R62). -/
def ClaimReport.words (c : ClaimReport) : List Word := [wordOf (bitByte c.wanted) (byteOf c.yields), natWord c.waitTenths]

/-- A call box entry of READ_CALLS, in eight words (R85). -/
def CallReport.words (e : CallReport) : List Word :=
  [natWord e.index.val, bitWord e.offHook, wordOf 0 (Config.callStateCode e.state),
    e.callId.elim (Config.absentWord .readCalls 3) (wordOf 0),
    e.circuit.elim (Config.absentWord .readCalls 4) fun c => natWord (c.val + 1),
    e.partner.elim (Config.absentWord .readCalls 5) fun p => pairWord p.1 p.2.val,
    natWord e.offerCount, natWord e.seconds]

/-- A lane entry of READ_CALLS, in eight words (R85): origin and call id share the third. -/
def LaneReport.words (e : LaneReport) : List Word :=
  [natWord e.lane.val, wordOf 0 (Config.laneStateCode e.state),
    e.call.elim (Config.absentWord .readCalls 10) fun c => wordOf (byteOf c.origin) c.callId,
    e.call.elim (Config.absentWord .readCalls 11) fun c => natWord (c.circuit.val + 1),
    e.call.elim (Config.absentWord .readCalls 12) fun c => wordOf 0 (Config.sideCode c.port),
    natWord e.takeSends, wordOf 0 (Config.laneOutcomeCode e.outcome), natWord e.seconds]

/-- An entry of READ_OFFERS, in five words (R86). -/
def OfferReport.words (e : OfferReport) : List Word :=
  [wordOf (byteOf e.origin) e.callId, wordOf (byteOf e.box.val) (circuitByte e.circuit),
    wordOf (byteOf e.count) (Config.sideCode e.port), natWord e.waitingSeconds, natWord e.lastHeardTenths]

/-! ### Incidents and readings (R111, R116, R117) -/

/-- An entry of READ_INCIDENTS, in four words (R111). -/
def IncidentReport.words (e : IncidentReport) : List Word :=
  [wordOf (byteOf e.origin) e.callId, wordOf (byteOf e.box.val) (Config.incidentSideCode e.side), natWord e.distance,
    natWord e.ageSeconds]

/-- A kind of READ_READINGS, in six words (R117). -/
def ReadingReport.words (e : ReadingReport) : List Word :=
  optionWords (e.value.map intWord) ++
    [bitWord e.clamped, wordOf (bitByte e.lastSequence.isSome) (e.lastSequence.getD 0), natWord e.ageSeconds,
      bitWord e.pending]

/-- The flags of a warning set, in the order of section 6.3. -/
def WarningSet.flags (w : WarningSet) : List Bool := [w.fog, w.ice, w.wind, w.incident, w.closeAdvised]

/-- READ_READINGS, in 29 words, and 30 at a collector (R117). -/
def ReadingsReport.words (r : ReadingsReport) : List Word :=
  r.kinds.flatMap ReadingReport.words ++ optionWords (r.vs.map intWord) ++
    [pairWord r.icyRun r.thawRun, natWord r.calmCount,
      wordOf (loByte (flagsWord r.sets.east.flags)) (loByte (flagsWord r.sets.west.flags))] ++
    (r.delivery.map natWord).toList

/-- FETCH_READING, in four words (R116). -/
def fetchedWords (e : HeardReading) (left : Nat) : List Word :=
  [wordOf (byteOf e.origin) (byteOf (readingCode e.kind).val), intWord e.value, wordOf (bitByte e.clamped) e.sequence,
    natWord left]

/-! ### Speed (R140) -/

/-- The seven values of an evaluation, or the words of none. -/
def evaluationWords : Option EvaluationReport → List Word
  | none => (List.range 7).map fun i => Config.absentWord .readSpeed (3 + i)
  | some e => [e.capVis, e.capGrip, e.capWind, e.capInc, e.aRaw, e.a, e.t].map intWord

/-- A held advert with its origin, the neighbour's two lit flags and its age, or the words of none. -/
def advertWords : Option AdvertReport → List Word
  | none => (List.range 4).map fun i => Config.absentWord .readSpeed (12 + i)
  | some h => [intWord h.n, natWord h.origin, wordOf (bitByte h.litE) (bitByte h.litW), natWord h.ageTenths]

/-- A face of READ_SPEED, in 15 words. -/
def FaceSpeedReport.words (x : FaceSpeedReport) : List Word :=
  [intWord x.d, natWord x.raiseCount] ++ evaluationWords x.last ++ [bitWord x.closeAdvised, intWord x.advert] ++
    advertWords x.held

/-- READ_SPEED, in 32 words (R140). -/
def SpeedReport.words (r : SpeedReport) : List Word :=
  [pairWord r.vmax r.vmin] ++ r.faces.east.words ++ r.faces.west.words ++ [natWord r.nextTenths]

/-! ### Pages and signs (R161, R162) -/

/-- A page's fields in the order of R142, with its publisher and remaining validity. -/
def pageWords (p : Page) (publisher : Nat) (remaining : Option Nat) : List Word :=
  [wordOf (byteOf p.number.val) p.version, pairWord p.priority (facesCode p.faceE p.faceW)] ++ stringWords p.line1 ++
    stringWords p.line2 ++ stringWords p.line3 ++
    [pairWord p.pictogram p.flash.code, natWord (p.validity.getD 0), pairWord (boundCode p.bound) p.scope.matchBits,
      pairWord p.scope.mask p.scope.hopLimit, natWord publisher, natWord (remaining.getD 0)]

/-- READ_PAGE, in two words and up to 38 more for the content (R161). A validity of 0 is until withdrawn, as in R144. -/
def PageReport.words (r : PageReport) : List Word :=
  [r.mark.elim (Config.absentWord .readPage 0) (wordOf 0), bitWord r.content.isSome] ++
    r.content.elim [] fun c => pageWords c.1 c.2.1 c.2.2

/-- An item of a face in one byte. -/
def Item.byte : Item → Byte
  | .page n => byteOf n.val
  | .builtIn w => Config.builtInCode w

/-- A place of the rotation. -/
def rotationWord (items : List Item) (i : Nat) : Word :=
  items[i]?.elim (Config.absentWord .readSign (3 + i)) fun x => wordOf 0 x.byte

/-- A fitted face of READ_SIGN, in 14 words. -/
def SignReport.words (r : SignReport) : List Word :=
  [flagsWord [true, r.dark, r.faulted, r.lit], r.roundel.elim (Config.absentWord .readSign 1) intWord,
    r.shown.elim (Config.absentWord .readSign 2) fun x => wordOf x.1.byte (byteOf x.2), rotationWord r.rotation 0,
    rotationWord r.rotation 1, rotationWord r.rotation 2, r.top.elim (Config.absentWord .readSign 6) natWord,
    natWord r.dwellTenths, wordOf (byteOf r.flashed.code) (bitByte r.phaseOn),
    r.lastImage.elim (Config.absentWord .readSign 9) (wordOf 0), natWord r.awaited, natWord r.missing,
    r.lastAnswer.elim (Config.absentWord .readSign 12) Config.signReplyCode,
    match r.lastAnswer with
    | some (.pixelFault n) => natWord n
    | _ => Config.absentWord .readSign 13]

/-- A face of READ_SIGN: unfitted, the flag says so and the remaining fields are none (R162). -/
def signWords : Option SignReport → List Word
  | none => (List.range 14).map fun i =>
      if i = 0 then Config.absentWord .readSign 0 &&& 0xFFFE else Config.absentWord .readSign i
  | some r => r.words

/-! ### Toll records and counters (R165, R181, R182, R193) -/

/-- The chosen sink of READ_TOLL_STORE, in two words. -/
def SinkReport.words : SinkReport → List Word
  | .none => [Config.absentWord .readTollStore 7, Config.absentWord .readTollStore 8]
  | .own => [Config.ownSinkWord, Config.absentWord .readTollStore 8]
  | .via d station hops =>
    [wordOf (byteOf station) (Config.sideCode d), hops.elim (Config.absentWord .readTollStore 8) natWord]

/-- An entry of READ_TOLL_STORE, in two words: type, state and send count share the second. The type is in bit 8, by its
code of R171, and the state's free code in the bits above it. -/
def TollEntryReport.words (e : TollEntryReport) : List Word :=
  [e.sequence, wordOf (bitByte e.isReport ||| (Config.entryStateCode e.sent <<< 1)) (byteOf e.sendCount)]

/-- A station's origin table entry, or the words of none. -/
def originWords : Option OriginEntry → List Word
  | none => (List.range 3).map fun i => Config.absentWord .readTollStore (45 + i)
  | some o => [o.expected, bitWord o.deliveredBefore, bitWord o.fresh]

/-- What READ_TOLL_STORE adds at a toll sink. -/
def SinkTablesReport.words (t : SinkTablesReport) : List Word :=
  [natWord t.delivery, natWord t.origins] ++ t.named.elim [] originWords

/-- READ_TOLL_STORE, in 11 words, two for each entry and up to five at a toll sink (R182). -/
def TollReport.words (r : TollReport) : List Word :=
  [r.nextSequence, natWord r.records, bitWord r.report.isSome, r.report.getD (Config.absentWord .readTollStore 3),
    natWord r.queued, natWord r.sent, r.base.getD (Config.absentWord .readTollStore 6)] ++ r.sink.words ++
    [natWord r.resendTenths, bitWord r.fresh] ++ r.entries.flatMap TollEntryReport.words ++
    r.tables.elim [] SinkTablesReport.words

/-- A record's content, laid out as SUBMIT_TOLL's arguments are (R165). -/
def TollRecord.words (r : TollRecord) : List Word :=
  [pairWord (r.lane.val + 1) (r.vehicleClass.val + 1), natWord r.amount] ++ packBytes r.timestamp ++
    stringWords r.tag ++ [bitWord r.plate.isSome] ++ r.plate.elim [] packBytes

/-- A lane's counters: five counts, the sum and the saturated flag, in eight words. -/
def LaneCount.words (l : LaneCount) : List Word :=
  l.classes.toList.map natWord ++ wordsOf32 l.sum ++ [bitWord l.saturated]

/-- A delivered entry's type and content. A report's first presence flag shares the type's word (R192). -/
def TollContent.words : TollContent → List Word
  | .record r => 0 :: r.words
  | .report r =>
    [pairWord 1 (if r.firstEpoch.isSome then 1 else 0), r.firstEpoch.getD 0, r.lastEpoch] ++
      optionWords r.lastSequence ++ r.lanes.toList.flatMap LaneCount.words

/-- FETCH_DELIVERY, in up to 72 words (R181). -/
def deliveryWords (e : Delivery) (left : Nat) : List Word :=
  [natWord e.origin, e.sequence] ++ e.content.words ++ [natWord left]

/-- The three marks of a report: first epoch, last epoch and last sequence. -/
def marksWords (first : Option Word) (last : Word) (lastSequence : Option Word) : List Word :=
  optionWords first ++ [last] ++ optionWords lastSequence

/-- The report entry in READ_COUNTERS: whether one is held and, if so, its fields, its state by a free code (R193). -/
def reportEntryWords : Option ReportEntryReport → List Word
  | none => [0]
  | some r =>
    [1, r.sequence, wordOf (Config.entryStateCode r.sent) (byteOf r.sendCount)] ++
      marksWords r.firstEpoch r.lastEpoch r.lastSequence

/-- The held snapshot in READ_COUNTERS. -/
def heldWords : Option (Option Word × Word × Option Word) → List Word
  | none => [0]
  | some h => 1 :: marksWords h.1 h.2.1 h.2.2

/-- READ_COUNTERS, in 68 to 80 words (R193). -/
def CountersReport.words (r : CountersReport) : List Word :=
  optionWords r.epoch ++ r.lanes.toList.flatMap LaneCount.words ++ reportEntryWords r.report ++ heldWords r.held

/-! ### Faults and the whole (R195, R201, R202) -/

/-- The set of latched flags, lowest bit first in the order of R201. -/
def latchedWord (fs : Vector FaultLatch 5) : Word := flagsWord (fs.toList.map (·.latched))

/-- The response words of an answer (R195, section 11.4). -/
def Answer.words : Answer → List Word
  | .none => []
  | .config c => configWords c
  | .line r => r.words
  | .map es => natWord es.length :: es.flatMap MapReport.words
  | .circuits es cs => es.flatMap CircuitReport.words ++ cs.flatMap ClaimReport.words
  | .calls bs ls => bs.flatMap CallReport.words ++ ls.flatMap LaneReport.words
  | .offers es => natWord es.length :: es.flatMap OfferReport.words
  | .incidents es n =>
    natWord es.length :: es.flatMap IncidentReport.words ++
      [n.east.elim (Config.absentWord .readIncidents 0) natWord, n.west.elim (Config.absentWord .readIncidents 1) natWord]
  | .readings r => r.words
  | .fetchedReading e left => fetchedWords e left
  | .speed r => r.words
  | .published v o => [wordOf 0 v, wordOf 0 (Config.publishCode o)]
  | .withdrawn v => [wordOf 0 v]
  | .page r => r.words
  | .sign fs => signWords fs.east ++ signWords fs.west
  | .submittedToll q n straight => [q, natWord n, straight.elim (Config.absentWord .submitToll 2) bitWord]
  | .tollStore r => r.words
  | .delivery e left => deliveryWords e left
  | .epoch n => [n]
  | .counters r => r.words
  | .faults fs => latchedWord fs :: fs.toList.map fun l => natWord l.count
  | .cleared fs => [latchedWord fs]

end Sys2Proof.Machine
end

