-- ==== Sys2Proof/Machine/Flags.lean ====
section
/-! DEFINITION. The cabinet port's flags and outputs: latched faults (R201), attention flags and ATTN (R200), the status word
(R198), the output frame (R195), BYPASS (R43). -/

namespace Sys2Proof.Machine

open Sys2Proof

/-- The place of a fault in the order of R201. -/
def FaultName.index : FaultName → Fin 5
  | .numberClash => 0
  | .transitDrop => 1
  | .signFaultE => 2
  | .signFaultW => 3
  | .readingsStale => 4

/-- The sign fault of a face (R160). -/
def signFault : Face → FaultName
  | .east => .signFaultE
  | .west => .signFaultW

/-- One occurrence: the latched flag is set and the count goes up, saturating at 255 (R201). -/
def FaultLatch.occur (l : FaultLatch) : FaultLatch := { latched := true, count := min 255 (l.count + 1) }

/-- A fault latches (R201). -/
def State.latch (f : FaultName) (s : State) : State :=
  { s with faults := s.faults.set f.index s.faults[f.index].occur }

/-- The CALLS attention flag (R84). -/
def State.callsFlag (s : State) : Bool := s.callUnit.callsChanged || s.callUnit.offersChanged

/-- The TOLL attention flag (R181). -/
def State.tollFlag (s : State) : Bool := !s.toll.delivery.isEmpty

/-- The READINGS attention flag (R116). -/
def State.readingsFlag (s : State) : Bool := !s.readings.delivery.isEmpty

/-- The FAULT attention flag (R201). -/
def State.faultFlag (s : State) : Bool := s.faults.toList.any fun l => l.latched

/-- The ATTN output, asserted while a flag is set (R200). -/
def State.attn (s : State) : Bool := s.callsFlag || s.tollFlag || s.readingsFlag || s.lineFlag || s.faultFlag

/-- BYPASS keeps the optical bypass closed exactly while pin reset is held (R43). -/
def State.bypassClosed (s : State) : Bool := s.resetHeld

/-- The value of a response code (R198). -/
def ResponseCode.value : ResponseCode → Nat
  | .ok => 0
  | .okAdjusted => 1
  | .crcFault => 2
  | .frameShort => 3
  | .unknownCommand => 4
  | .badArgument => 5
  | .wrongState => 6
  | .wrongRole => 7
  | .storeFull => 8
  | .notFound => 9
  | .busy => 10
  | .empty => 11

/-- A bit of a word as a number. -/
def bitAt (b : Bool) (i : Nat) : Nat := if b then 2 ^ i else 0

/-- The status word (R198) as it stands now. -/
def State.statusWord (s : State) : Word :=
  BitVec.ofNat 16
    (bitAt s.joined 15 + s.response.code.value * 2 ^ 11 + bitAt s.callsFlag 10 + bitAt s.tollFlag 9 +
      bitAt s.readingsFlag 8 + bitAt s.lineFlag 7 + bitAt s.faultFlag 6 + s.response.answered.code)

/-- What the part clocks out in a frame that begins now: status word, response words and output check (R195). While pin
reset is held the data output carries none of it (R203). -/
def State.outputFrame (s : State) : List Word :=
  if s.resetHeld then []
  else
    let words := s.statusWord :: s.response.answer.words
    words ++ [crcWords words]

/-- The first `n` words clocked out in a frame that begins now: after the output check, and while pin reset is held, the
data output is zero (R195, R203). -/
def State.clockedOut (n : Nat) (s : State) : List Word := (s.outputFrame ++ List.replicate n 0).take n

/-- The pending response after a command (R197). -/
def State.answered (c : Command) (code : ResponseCode) (a : Answer) (s : State) : State :=
  { s with response := { code := code, answered := c, answer := a } }

/-- Why a command is refused before its own tests (R199): state, then role, then argument count. -/
def State.refusal (c : Command) (n : Nat) (s : State) : Option ResponseCode :=
  if c.acceptedIn s.joined = false then some .wrongState
  else if c.roleHeld s.config = false then some .wrongRole
  else if c.takesCount n = false then some .badArgument
  else none

/-- A command whose frame passed R196 is executed as one event: judged by R199, then by its own body, which answers a
response code, an answer and the state left. While pin reset is held the port ignores chip select (R203). -/
def State.command (c : Command) (args : List Word) (body : State → ResponseCode × Answer × State) (s : State) : State :=
  if s.resetHeld then s
  else
    match s.refusal c args.length with
    | some code => s.answered c code .none
    | none =>
      let r := body s
      r.2.2.answered c r.1 r.2.1

end Sys2Proof.Machine
end

