-- ==== Sys2Proof/Machine/Ops.lean ====
section
/-! DEFINITION. The operations that every block shares: the clock, one-field updates of the state, the transmit queues and the
transmitter (R29 to R35), steering (R23), the deferred list (R38 to R40), the sending of toll entries (R171, R172), and what
follows the taking of a frame (R39, R41). -/

namespace Sys2Proof.Machine

open Sys2Proof

/-! ### The clock (section 5.4, assumption 1) -/

/-- A timer that has `period` ms to run from now. -/
def State.startTimer (s : State) (period : Nat) : Timer := some (s.now + period)

/-- An expiry says that its moment has come: the clock has reached at least the moment due
(DESIGN CHOICE, assumption 1). -/
def State.clockTo (due : Nat) (s : State) : State := { s with now := max s.now due }

/-- An event of a timer: nothing while the timer is stopped or pin reset is held; else the clock reaches the moment due
and the event acts (DESIGN CHOICE, assumption 4). -/
def State.onTimer (t : Timer) (act : State → State) (s : State) : State :=
  if s.resetHeld then s
  else
    match t with
    | none => s
    | some due => act (s.clockTo due)

/-- An event that acts unless pin reset is held (R203). -/
def State.unlessHeld (act : State → State) (s : State) : State := if s.resetHeld then s else act s

/-- The time left on a timer, 0 when stopped. -/
def State.timeLeft (s : State) (t : Timer) : Nat := (t.getD 0) - s.now

/-! ### One-field updates -/

def State.modPort (p : Side) (f : Port → Port) (s : State) : State :=
  { s with ports := s.ports.set p (f (s.ports.get p)) }

def State.modCircuit (c : Fin 16) (f : Circuit → Circuit) (s : State) : State :=
  { s with circuits := s.circuits.set c (f s.circuits[c]) }

def State.modClaim (b : Fin 4) (f : ClaimRecord → ClaimRecord) (s : State) : State :=
  { s with claims := s.claims.set b (f s.claims[b]) }

def State.modCall (b : Fin 4) (f : CallRecord → CallRecord) (s : State) : State :=
  { s with calls := s.calls.set b (f s.calls[b]) }

def State.modCallUnit (f : CallUnit → CallUnit) (s : State) : State := { s with callUnit := f s.callUnit }

def State.modPlayout (f : Playout → Playout) (s : State) : State := { s with playout := f s.playout }

def State.modIncidents (f : Incidents → Incidents) (s : State) : State := { s with incidents := f s.incidents }

def State.modReadings (f : Readings → Readings) (s : State) : State := { s with readings := f s.readings }

def State.modWarnings (f : Warnings → Warnings) (s : State) : State := { s with warnings := f s.warnings }

def State.modSpeed (f : Speed → Speed) (s : State) : State := { s with speed := f s.speed }

def State.modSlot (n : Fin 32) (f : Slot → Slot) (s : State) : State := { s with pages := s.pages.set n (f s.pages[n]) }

def State.modFace (f : Face) (g : FaceUnit → FaceUnit) (s : State) : State :=
  { s with faces := s.faces.set f (g (s.faces.get f)) }

def State.modToll (f : Toll → Toll) (s : State) : State := { s with toll := f s.toll }

def State.modCounts (f : Counts → Counts) (s : State) : State := { s with counts := f s.counts }

/-! ### Queues and the transmitter (chapter 2) -/

/-- The frames in a queue. -/
def Queues.get (q : Queues) : QueueName → List Frame
  | .vt => q.vt
  | .vl => q.vl
  | .ct => q.ct
  | .cl => q.cl
  | .bt => q.bt
  | .bl => q.bl

/-- The queues with one of them replaced. -/
def Queues.set (q : Queues) (n : QueueName) (fs : List Frame) : Queues :=
  match n with
  | .vt => { q with vt := fs }
  | .vl => { q with vl := fs }
  | .ct => { q with ct := fs }
  | .cl => { q with cl := fs }
  | .bt => { q with bt := fs }
  | .bl => { q with bl := fs }

/-- The capacity of a queue (R29). -/
def QueueName.capacity : QueueName → Nat
  | .vt => 8
  | .vl => 4
  | .ct => 8
  | .cl => 16
  | .bt => 16
  | .bl => 16

/-- A full voice queue drops its oldest frame; the others do not take the offered one (R29). -/
def QueueName.dropsOldest : QueueName → Bool
  | .vt | .vl => true
  | _ => false

/-- The transit queue of a class (R9). -/
def FrameClass.transitQueue : FrameClass → QueueName
  | .voice => .vt
  | .control => .ct
  | .bulk => .bt

/-- The local queue of a class (R31). -/
def FrameClass.localQueue : FrameClass → QueueName
  | .voice => .vl
  | .control => .cl
  | .bulk => .bl

/-- The port carries every kind of frame: UP or DEGRADED. -/
def Port.isUp (p : Port) : Bool := p.state == .up || p.state == .degraded

/-- The frames of a queue that the port's state allows it to send (R20): all of them while UP or DEGRADED, else probes. -/
def Port.sendable (p : Port) (q : QueueName) : List Frame :=
  if p.isUp then p.queues.get q else (p.queues.get q).filter fun f => f.kind == FrameKind.probe.code

/-- The queue that the transmitter takes from next: the insertion guarantee (R34), else the order of R33. -/
def Port.pick (p : Port) : Option QueueName :=
  if p.waitCL = 4 ∧ p.sendable .cl ≠ [] then some .cl
  else if p.waitBL = 4 ∧ p.sendable .bl ≠ [] then some .bl
  else [QueueName.vt, .vl, .ct, .cl, .bt, .bl].find? fun q => !(p.sendable q).isEmpty

/-- A wait count after a frame is taken from queue `q`, for the local queue `mine` (R33). -/
def waitAfter (q mine : QueueName) (waiting : Bool) (count : Nat) : Nat :=
  if q = mine then 0 else if (q = .ct ∨ q = .bt) ∧ waiting = true then min 4 (count + 1) else count

/-- A free transmitter takes its next frame, if its queues hold one it may send, and else is IDLE (R32, R33). -/
def Port.takeNext (p : Port) : Port × Option QueueName :=
  match p.pick with
  | none => ({ p with sending := none }, none)
  | some q =>
    match p.sendable q with
    | [] => ({ p with sending := none }, none)
    | f :: _ =>
      ({ p with
          queues := p.queues.set q ((p.queues.get q).erase f)
          sending := some f
          waitCL := waitAfter q .cl (!p.queues.cl.isEmpty) p.waitCL
          waitBL := waitAfter q .bl (!p.queues.bl.isEmpty) p.waitBL }, some q)

/-- What became of a frame offered to a port. -/
structure Offering where
  port : Port
  queued : Bool
  took : Option QueueName
deriving DecidableEq, Repr

/-- A frame is offered to a queue of the port (R29 to R31); if it joins while the transmitter is IDLE, the transmitter takes
the next frame at once (R32). -/
def Port.offer (p : Port) (q : QueueName) (f : Frame) : Offering :=
  let held := p.queues.get q
  if q.capacity ≤ held.length ∧ q.dropsOldest = false then ⟨p, false, none⟩
  else
    let room := if q.capacity ≤ held.length then held.drop 1 else held
    let joined := { p with queues := p.queues.set q (room ++ [f]) }
    if joined.sending.isNone then
      let t := joined.takeNext
      ⟨t.1, true, t.2⟩
    else ⟨joined, true, none⟩

/-- A take that may have consequences: the port and the queue taken from. -/
abbrev Take := Side × QueueName

/-- The takes of an offering at port `p`. -/
def takesOf (p : Side) : Option QueueName → List Take
  | none => []
  | some q => [(p, q)]

/-- A producer's or the list's offer to one or more ports. -/
structure Sent where
  state : State
  sent : Bool
  takes : List Take

/-- A frame is offered to one queue of port `p`, whatever the port's state. -/
def State.offerQueue (p : Side) (q : QueueName) (f : Frame) (s : State) : Sent :=
  let o := (s.ports.get p).offer q f
  ⟨s.modPort p fun _ => o.port, o.queued, takesOf p o.took⟩

/-- A local frame is offered to port `p` alone, which refuses it unless UP or DEGRADED (R31). -/
def State.offerPort (p : Side) (f : Frame) (s : State) : Sent :=
  if (s.ports.get p).isUp then s.offerQueue p (classOf f.kind).localQueue f else ⟨s, false, []⟩

/-! ### Steering (R23) -/

/-- The station map's entry for a station. -/
def State.mapEntry (t : Nat) (s : State) : Option MapEntry := s.map.find? fun e => e.station == t

/-- The ports that are UP or DEGRADED. -/
def State.upPorts (s : State) : List Side := [Side.east, Side.west].filter fun p => (s.ports.get p).isUp

/-- The ports a frame for target `t` is offered to: a broadcast (target 0) to every usable port; a steered frame to the
port of its map entry when that is usable, and else to every usable port. -/
def State.routes (t : Nat) (s : State) : List Side :=
  match if t = 0 then none else s.mapEntry t with
  | some e => if (s.ports.get e.port).isUp then [e.port] else s.upPorts
  | none => s.upPorts

/-- A frame is offered to each of these ports; it is "sent" when at least one queued it. -/
def State.offerTo (ps : List Side) (f : Frame) (s : State) : Sent :=
  ps.foldl
    (fun r p =>
      let o := r.state.offerPort p f
      ⟨o.state, r.sent || o.sent, r.takes ++ o.takes⟩)
    ⟨s, false, []⟩

/-- A local frame is offered through steering. -/
def State.offerRoutes (f : Frame) (s : State) : Sent := s.offerTo (s.routes f.target) f

/-! ### The deferred list (R38 to R40) -/

/-- The later frame replaces the earlier: CLAIM and RELEASE of one circuit, TAKE of one lane (R38). -/
def DeferTag.replaces : DeferTag → DeferTag → Bool
  | .claim c, .claim c' | .claim c, .release c' | .release c, .claim c' | .release c, .release c' => c == c'
  | .take l, .take l' => l == l'
  | _, _ => false

/-- A refused one-off frame enters the list, unless 16 others stand there (R38). -/
def State.defer (tag : DeferTag) (f : Frame) (s : State) : State :=
  let kept := s.deferred.filter fun d => !tag.replaces d.tag
  { s with deferred := if kept.length < 16 then kept ++ [⟨tag, f⟩] else kept }

/-- The frames of a tag are withdrawn without being sent (R40). -/
def State.withdraw (tag : DeferTag) (s : State) : State :=
  { s with deferred := s.deferred.filter fun d => d.tag != tag }

/-- The frames of one class are re-offered in order; at the first "not sent" the re-offering stops (R39). Answers the
frames that stay in the list. -/
def reofferGo (cls : FrameClass) : List Deferred → State → List Deferred × State × List Take
  | [], s => ([], s, [])
  | d :: ds, s =>
    if classOf d.frame.kind = cls then
      let o := s.offerRoutes d.frame
      if o.sent then
        let r := reofferGo cls ds o.state
        (r.1, r.2.1, o.takes ++ r.2.2)
      else (d :: ds, o.state, o.takes)
    else
      let r := reofferGo cls ds s
      (d :: r.1, r.2.1, r.2.2)

/-- The deferred list re-offers its frames of one class (R39). -/
def State.reoffer (cls : FrameClass) (s : State) : State × List Take :=
  let r := reofferGo cls s.deferred s
  ({ r.2.1 with deferred := r.1 }, r.2.2)

/-! ### Sending toll entries (R171, R172) -/

/-- A frame this station originates (R1). -/
def State.newFrame (kind : FrameKind) (target hopLimit : Nat) (payload : List Byte) (s : State) : Frame :=
  { kind := kind.code, origin := s.number, target := target, hops := 0, hopLimit := hopLimit, payload := payload }

/-- A broadcast frame of hop limit 63. -/
def State.broadcast63 (kind : FrameKind) (payload : List Byte) (s : State) : Frame := s.newFrame kind 0 63 payload

/-- The window base: the sequence of the oldest entry held (R171). -/
def Toll.base (t : Toll) : Option Word := t.store.head?.map (·.sequence)

/-- The TOLL frame built from an entry now for sink `sink` (R171). -/
def State.tollFrame (sink : Nat) (e : TollEntry) (s : State) : Frame :=
  s.newFrame .toll sink 63
    (TollFrame.payload ⟨e.sequence, s.toll.base.getD e.sequence, s.toll.fresh, e.content⟩)

/-- An entry after a TOLL frame built from it was answered "sent" (R172). -/
def TollEntry.nowSent (e : TollEntry) : TollEntry := { e with sent := true, sendCount := min 255 (e.sendCount + 1) }

/-- The store with the entry of a sequence changed. -/
def Toll.modEntry (q : Word) (f : TollEntry → TollEntry) (t : Toll) : Toll :=
  { t with store := t.store.map fun e => if e.sequence = q then f e else e }

/-- The number of SENT entries. -/
def Toll.sentCount (t : Toll) : Nat := (t.store.filter (·.sent)).length

/-- The oldest QUEUED entry. -/
def Toll.oldestQueued (t : Toll) : Option TollEntry := t.store.find? fun e => !e.sent

/-- An entry is built into a TOLL frame and offered to the BL of the chosen sink's port; "sent" makes it SENT, counts the
send and restarts the resend timer at 2 s (R172, R173). -/
def State.offerToll (d : Side) (sink : Nat) (e : TollEntry) (s : State) : Sent :=
  let o := s.offerPort d (s.tollFrame sink e)
  if o.sent then
    ⟨o.state.modToll fun t =>
      { t.modEntry e.sequence TollEntry.nowSent with resendTimer := o.state.startTimer 2000 }, true, o.takes⟩
  else ⟨o.state, false, o.takes⟩

/-- At most `n` rounds of a try (R172). -/
def tollTryGo : Nat → State → State × List Take
  | 0, s => (s, [])
  | n + 1, s =>
    match s.toll.sink, s.toll.oldestQueued with
    | .via d sink, some e =>
      if s.toll.sentCount < 8 then
        let o := s.offerToll d sink e
        if o.sent then
          let r := tollTryGo n o.state
          (r.1, o.takes ++ r.2)
        else (o.state, o.takes)
      else (s, [])
    | _, _ => (s, [])

/-- Sending is tried (R172): the oldest QUEUED entries are sent while fewer than 8 are SENT. -/
def State.tollTryTakes (s : State) : State × List Take := tollTryGo 8 s

/-! ### What follows a take (R39, R41) -/

/-- The chosen sink lies on the side of this port. -/
def State.sinkOn (p : Side) (s : State) : Bool :=
  match s.toll.sink with
  | .via d _ => d == p
  | _ => false

/-- What the taking of one frame sets off: from a CL, the deferred frames of the control class are re-offered; from a BL,
those of the bulk class, and then a try of the toll unit when the port is the chosen sink's
(DESIGN CHOICE, assumption 36). -/
def State.onTake (t : Take) (s : State) : State × List Take :=
  match t.2 with
  | .cl => s.reoffer .control
  | .bl =>
    let r := s.reoffer .bulk
    if r.1.sinkOn t.1 then
      let u := r.1.tollTryTakes
      (u.1, r.2 ++ u.2)
    else r
  | _ => (s, [])

/-- The takes of an event are followed up one after another. A take needs a transmitter that was free, so an event brings
at most three; the bound of 8 is never met (DEDUCED, assumption 28). -/
def settleGo : Nat → List Take → State → State
  | 0, _, s => s
  | _, [], s => s
  | n + 1, t :: ts, s =>
    let r := s.onTake t
    settleGo n (ts ++ r.2) r.1

/-- Follows up the takes of an event. -/
def State.settle (ts : List Take) (s : State) : State := settleGo 8 ts s

/-! ### What producers use -/

/-- A local frame is offered through steering; the producer is told "sent" or "not sent" and keeps no copy. -/
def State.sendTold (f : Frame) (s : State) : Bool × State :=
  let o := s.offerRoutes f
  (o.sent, o.state.settle o.takes)

/-- A local frame whose producer offers afresh at its next period (R37). -/
def State.send (f : Frame) (s : State) : State := (s.sendTold f).2

/-- A one-off local frame: refused, it enters the deferred list (R38). -/
def State.sendOneOff (tag : DeferTag) (f : Frame) (s : State) : State :=
  let r := s.sendTold f
  if r.1 then r.2 else r.2.defer tag f

/-- A frame offered to one port only, as a voice block is (R90, R91). -/
def State.sendOn (p : Side) (f : Frame) (s : State) : State :=
  let o := s.offerPort p f
  o.state.settle o.takes

/-- The toll unit tries to send (R172). -/
def State.tollTry (s : State) : State :=
  let r := s.tollTryTakes
  r.1.settle r.2

end Sys2Proof.Machine
end

