-- ==== Sys2Proof/Machine/Signs.lean ====
section
/-! DEFINITION. Sign pages and faces (chapter 8): candidates and rotation, selection events, images and answers, the page store,
and the meanings of the sign unit's commands and events. -/

namespace Sys2Proof.Machine

open Sys2Proof

/-! ### Items (R151, R152) -/

/-- The face is fitted (R205). -/
def StationConfig.fitted (c : StationConfig) : Face → Bool
  | .east => c.faceE
  | .west => c.faceW

/-- The face is selecting (R150): JOINED, fitted and not dark. -/
def State.selecting (f : Face) (s : State) : Bool := s.joined && s.config.fitted f && !(s.faces.get f).dark

/-- The face is lit (R160): fitted, not dark and not faulted. -/
def State.lit (f : Face) (s : State) : Bool :=
  s.config.fitted f && !(s.faces.get f).dark && !(s.faces.get f).faulted

/-- A warning is on in a face's warning set (section 6.3). -/
def Warnings.isOn (w : Warnings) (f : Face) : Warning → Bool
  | .fog => w.fog
  | .ice => w.ice
  | .wind => w.wind
  | .incident => w.incident.get f
  | .closeAdvised => w.closeAdvised.get f

/-- The page's faces include this face. -/
def Page.onFace (p : Page) : Face → Bool
  | .east => p.faceE
  | .west => p.faceW

/-- The built-in items in the order of the table of R151. -/
def builtIns : List Warning := [.incident, .closeAdvised, .ice, .fog, .wind]

/-- The priority of a built-in item (R151). -/
def builtInPriority : Warning → Nat
  | .incident => 6
  | .closeAdvised => 6
  | .ice => 5
  | .fog => 4
  | .wind => 4

/-- The pictogram of a built-in item (R151). -/
def builtInPictogram : Warning → Nat
  | .incident => 1
  | .closeAdvised => 2
  | .ice => 3
  | .fog => 4
  | .wind => 5

/-- The page numbers in ascending order. -/
def pageNumbers : List (Fin 32) := (List.range 32).filterMap (parseFin 32)

/-- The page a slot holds. -/
def State.pageAt (n : Fin 32) (s : State) : Option Page := s.pages[n].content.map (·.page)

/-- A stored page is a candidate of the face (R151). -/
def State.pageIsCandidate (f : Face) (n : Fin 32) (s : State) : Bool :=
  match s.pageAt n with
  | none => false
  | some p => p.onFace f && (match p.bound with | none => true | some w => s.warnings.isOn f w)

/-- The store holds a page bound to this warning whose faces include the face (R151). -/
def State.replaced (f : Face) (w : Warning) (s : State) : Bool :=
  pageNumbers.any fun n => match s.pageAt n with | none => false | some p => p.bound == some w && p.onFace f

/-- The candidates of a face (R151): pages by number, then built-in items in table order, which is the order of R152. -/
def State.candidates (f : Face) (s : State) : List Item :=
  (pageNumbers.filter fun n => s.pageIsCandidate f n).map .page ++
    (builtIns.filter fun w => s.warnings.isOn f w && !s.replaced f w).map .builtIn

/-- The priority of an item as it now stands. -/
def State.itemPriority (i : Item) (s : State) : Nat :=
  match i with
  | .page n => (s.pageAt n).elim 0 (·.priority)
  | .builtIn w => builtInPriority w

/-- The flash of an item; built-in items flash their pictogram (R151). -/
def State.itemFlash (i : Item) (s : State) : Flash :=
  match i with
  | .page n => (s.pageAt n).elim .none (·.flash)
  | .builtIn _ => .picto

/-- The top priority P (R152). -/
def State.topPriority (items : List Item) (s : State) : Option Nat :=
  items.foldl (fun acc i => some (max (acc.getD 0) (s.itemPriority i))) none

/-- The rotation: the first three candidates of the top priority (R152). -/
def State.rotationOf (items : List Item) (s : State) : List Item :=
  match s.topPriority items with
  | none => []
  | some p => (items.filter fun i => s.itemPriority i == p).take 3

/-- The item after the shown one, wrapping to the first, or the first if the shown one is not there (R153, R154). -/
def nextItem (rotation : List Item) (shown : Item) : Option Item :=
  match rotation.findIdx? (· == shown) with
  | some i => rotation[(i + 1) % rotation.length]?
  | none => rotation.head?

/-! ### The selector (R153 to R155) -/

/-- The length of a flash phase at a priority (R155). -/
def flashLength (priority : Nat) : Nat := if 4 ≤ priority then 500 else 1000

/-- The face shows an item: its dwell starts at 3 s and its flash begins with an on-phase (R153, R155). -/
def State.showItem (i : Item) (s : State) (x : Selector) : Selector :=
  { x with
    shown := some i
    dwellTimer := s.startTimer 3000
    flashOn := true
    flashTimer := if s.itemFlash i = .none then none else s.startTimer (flashLength (s.itemPriority i)) }

/-- The shown item stays: a new version of its page may start or stop its flash (R155). -/
def State.keepItem (i : Item) (s : State) (x : Selector) : Selector :=
  if s.itemFlash i = .none then { x with flashOn := true, flashTimer := none }
  else if x.flashTimer.isNone then
    { x with flashOn := true, flashTimer := s.startTimer (flashLength (s.itemPriority i)) }
  else x

/-- The selector after a selection event, by the first case of R153 that applies. -/
def State.selected (f : Face) (s : State) (x : Selector) : Selector :=
  let items := s.candidates f
  let top := s.topPriority items
  let rotation := s.rotationOf items
  let y := { x with rotation := rotation, top := top }
  match rotation.head? with
  | none => { y with shown := none, dwellTimer := none, flashOn := true, flashTimer := none }
  | some first =>
    match x.shown with
    | none => s.showItem first y
    | some i =>
      if items.contains i = false then s.showItem first y
      else if s.itemPriority i < top.getD 0 then s.showItem first y
      else if x.dwellTimer.isSome then s.keepItem i y
      else
        match nextItem rotation i with
        | none => s.keepItem i y
        | some j => if j = i then s.keepItem i y else s.showItem j y

/-- A selection event of a face: nothing unless it is selecting (R150, R153). -/
def State.select (f : Face) (s : State) : State :=
  if s.selecting f then s.modFace f fun u => { u with selector := s.selected f u.selector } else s

/-- A selection event of both faces, E first. -/
def State.selectBoth (s : State) : State := (s.select .east).select .west

/-- Selection starts on the empty selector (R150). -/
def State.startSelection (f : Face) (s : State) : State :=
  (s.modFace f fun u => { u with selector := emptySelector }).select f

/-! ### Images (R158 to R160) -/

/-- The value of the roundel: blank when D equals Vmax (R156). -/
def State.roundel (f : Face) (s : State) : Option Int :=
  if (s.speed.faces.get f).d = (s.config.vmax : Int) then none else some (s.speed.faces.get f).d

/-- What the face's image holds now (R158). -/
def State.imageNow (f : Face) (s : State) : Image :=
  let u := s.faces.get f
  let blank : Image :=
    { sequence := u.sequence, roundel := s.roundel f, line1 := [], line2 := [], line3 := [], pictogram := 0,
      flashed := .none, phaseOn := u.selector.flashOn }
  match u.selector.shown with
  | none => blank
  | some (.builtIn w) => { blank with pictogram := builtInPictogram w, flashed := .picto }
  | some (.page n) =>
    match s.pageAt n with
    | none => blank
    | some p =>
      { blank with line1 := p.line1, line2 := p.line2, line3 := p.line3, pictogram := p.pictogram, flashed := p.flash }

/-- An image counts as missing; the third puts the face in its faulted state and latches its fault (R160). -/
def State.countMissing (f : Face) (s : State) : State :=
  if 3 ≤ (s.faces.get f).missing + 1 then
    (s.modFace f fun u => { u with missing := 0, faulted := true }).latch (signFault f)
  else s.modFace f fun u => { u with missing := u.missing + 1 }

/-- An image is sent to a selecting face: a fifth awaited image first counts the oldest as missing; the new one joins the
awaited list with a window of 150 ms, and the refresh timer restarts at 200 ms (R158, R159; DEDUCED, assumption 30). -/
def State.sendImage (f : Face) (s : State) : State :=
  let s :=
    if 4 ≤ (s.faces.get f).awaited.length then
      (s.modFace f fun u => { u with awaited := u.awaited.drop 1 }).countMissing f
    else s
  s.modFace f fun u =>
    { u with
      image := some (s.imageNow f)
      sequence := u.sequence + 1
      awaited := u.awaited ++ [⟨u.sequence, s.startTimer 150⟩]
      refreshTimer := s.startTimer 200 }

/-- What an image of the face would change with: the shown item, its page, the flash phase and D (R158). -/
def State.imageKey (f : Face) (s : State) : Option (Option Item × Option Page × Bool × Int) :=
  if s.selecting f then
    let u := (s.faces.get f).selector
    some (u.shown, (match u.shown with | some (.page n) => s.pageAt n | _ => none), u.flashOn,
      (s.speed.faces.get f).d)
  else none

/-- A selecting face is sent one image when an event changed what its image would hold (R158). -/
def State.imageIfChanged (f : Face) (s before : State) : State :=
  match before.imageKey f, s.imageKey f with
  | some a, some b => if a = b then s else s.sendImage f
  | _, _ => s

/-- An event, and then the one image it makes due for each face (R158; DEDUCED, assumption 31). -/
def State.withImages (act : State → State) (s : State) : State :=
  let t := act s
  (t.imageIfChanged .east s).imageIfChanged .west s

/-- The meaning of an event of a timer of the sign unit. -/
def State.onSignTimer (t : Timer) (act : State → State) (s : State) : State := s.onTimer t fun s => s.withImages act

/-- DWELL_TIMER_EXPIRY (R154): the next item of the rotation is shown, or the face settles. -/
def State.dwellEnds (f : Face) (s : State) : State :=
  s.modFace f fun u =>
    match u.selector.shown with
    | none => { u with selector := { u.selector with dwellTimer := none } }
    | some i =>
      match nextItem u.selector.rotation i with
      | none => { u with selector := { u.selector with dwellTimer := none } }
      | some j =>
        if j = i then { u with selector := { u.selector with dwellTimer := none } }
        else { u with selector := s.showItem j u.selector }

def execDwellTimerExpiry (f : Face) (s : State) : Result :=
  .next (s.onSignTimer (s.faces.get f).selector.dwellTimer fun s => s.dwellEnds f)

/-- FLASH_TIMER_EXPIRY (R155): the phase changes and lasts as the shown item's priority gives. -/
def State.flashEnds (f : Face) (s : State) : State :=
  s.modFace f fun u =>
    { u with
      selector :=
        { u.selector with
          flashOn := !u.selector.flashOn
          flashTimer := s.startTimer (flashLength (u.selector.shown.elim 0 fun i => s.itemPriority i)) } }

def execFlashTimerExpiry (f : Face) (s : State) : Result :=
  .next (s.onSignTimer (s.faces.get f).selector.flashTimer fun s => s.flashEnds f)

/-- IMAGE_REFRESH_TIMER_EXPIRY (R158). -/
def execImageRefreshTimerExpiry (f : Face) (s : State) : Result :=
  .next (s.onTimer (s.faces.get f).refreshTimer fun s => s.sendImage f)

/-- ANSWER_WINDOW_EXPIRY (R159): the image leaves the awaited list and counts as missing. -/
def execAnswerWindowExpiry (f : Face) (sequence : Byte) (s : State) : Result :=
  .next
    (match (s.faces.get f).awaited.find? fun a => a.sequence == sequence with
    | none => s
    | some a =>
      s.onTimer a.window fun s =>
        (s.modFace f fun u => { u with awaited := u.awaited.filter fun a => a.sequence != sequence }).countMissing f)

/-- An answer record whose fields lie in their ranges (R159). -/
def replyInRange : SignReply → Bool
  | .pixelFault n => 1 ≤ n && n ≤ 65535
  | _ => true

/-- The awaited images newer than the one named, which an answer leaves in the list (R159). -/
def awaitedAfter (sequence : Byte) : List Awaited → List Awaited
  | [] => []
  | a :: as => if a.sequence = sequence then as else awaitedAfter sequence as

/-- An answer naming an awaited image is taken (R159, R160). -/
def State.takeAnswer (f : Face) (r : SignRecord) (s : State) : State :=
  let s :=
    s.modFace f fun u =>
      { u with
        awaited := awaitedAfter r.sequence u.awaited
        missing := 0
        lastAnswer := some r.reply
        faulted := match r.reply with | .ok => false | .pixelFault _ => u.faulted | .dark => true }
  if r.reply = .dark then s.latch (signFault f) else s

/-- SIGN_ANSWER (R159): taken when its record is good and names an awaited image, else ignored
(DESIGN CHOICE, assumption 25). -/
def execSignAnswer (f : Face) (r : SignRecord) (s : State) : Result :=
  .next
    (s.unlessHeld fun s =>
      if r.checkGood = true ∧ replyInRange r.reply = true ∧
          ((s.faces.get f).awaited.any fun a => a.sequence == r.sequence) = true then s.takeAnswer f r
      else s)

/-! ### The page store (R145 to R149) -/

/-- The number, version and scope of a notice. -/
def PageNotice.head : PageNotice → Fin 32 × Byte × Scope
  | .publish p => (p.number, p.version, p.scope)
  | .withdraw n v c => (n, v, c)

/-- The slot content that an in-scope notice from `origin` leaves (R145, R149). -/
def State.contentOf (origin : Nat) (notice : PageNotice) (s : State) : Option StoredPage :=
  match notice with
  | .publish p => some ⟨p, origin, p.validity, if p.validity.isSome then s.startTimer 60000 else none⟩
  | .withdraw _ _ _ => none

/-- A PAGE notice is judged against its slot's version mark (R145). A change of content is a selection event of both
faces (R150). -/
def State.applyPage (origin : Nat) (notice : PageNotice) (s : State) : PublishOutcome × State :=
  let n := notice.head.1
  let v := notice.head.2.1
  let slot := s.pages[n]
  if (match slot.mark with | none => true | some m => newer v m) then
    if notice.head.2.2.takesIn s.number then
      let content := s.contentOf origin notice
      let t := s.modSlot n fun _ => { content := content, mark := some v }
      (.stored, if slot.content.isNone && content.isNone then t else t.selectBoth)
    else (.outsideScope, s.modSlot n fun x => { x with mark := some v })
  else (.notNewer, s)

/-- The version that auto takes: one step after the mark, or 0 (R147, R148). -/
def Slot.autoVersion (x : Slot) : Byte := x.mark.elim 0 (· + 1)

/-- The PAGE frame of a notice (R144). -/
def State.pageFrame (notice : PageNotice) (s : State) : Frame :=
  s.newFrame .page 0 notice.head.2.2.hopLimit notice.payload

/-- PUBLISH_PAGE (R146, R147). -/
def publishBody (args : List Word) (s : State) : ResponseCode × Answer × State :=
  match parsePublish args with
  | none => (.badArgument, .none, s)
  | some a =>
    let version := a.version.getD (s.pages[a.number]).autoVersion
    let notice := PageNotice.publish (a.page version)
    let r := s.applyPage s.number notice
    (if a.adjusted then .okAdjusted else .ok, .published version r.1, r.2.sendOneOff .plain (s.pageFrame notice))

def execPublishPage (args : List Word) (s : State) : Result :=
  .next (s.withImages fun s => s.command .publishPage args (publishBody args))

/-- WITHDRAW_PAGE (R148). -/
def withdrawBody (args : List Word) (s : State) : ResponseCode × Answer × State :=
  match parseWithdraw args with
  | none => (.badArgument, .none, s)
  | some (n, scope) =>
    let version := (s.pages[n]).autoVersion
    let notice := PageNotice.withdraw n version scope
    let r := s.applyPage s.number notice
    (.ok, .withdrawn version, r.2.sendOneOff .plain (s.pageFrame notice))

def execWithdrawPage (args : List Word) (s : State) : Result :=
  .next (s.withImages fun s => s.command .withdrawPage args (withdrawBody args))

/-- PAGE_MINUTE_TIMER_EXPIRY (R149): a minute less, and at 0 the slot is emptied with its mark kept. -/
def State.minuteEnds (n : Fin 32) (s : State) : State :=
  match s.pages[n].content with
  | none => s
  | some c =>
    let left := c.remaining.getD 0 - 1
    if left = 0 then (s.modSlot n fun x => { x with content := none }).selectBoth
    else
      s.modSlot n fun x => { x with content := some { c with remaining := some left, minuteTimer := s.startTimer 60000 } }

def execPageMinuteTimerExpiry (n : Fin 32) (s : State) : Result :=
  .next (s.onSignTimer (s.pages[n].content.elim none (·.minuteTimer)) fun s => s.minuteEnds n)

/-- READ_PAGE (R161). -/
def readPageBody (args : List Word) (s : State) : ResponseCode × Answer × State :=
  match args with
  | [w] =>
    match parseFin 32 w.toNat with
    | none => (.badArgument, .none, s)
    | some n =>
      let x := s.pages[n]
      (.ok, .page ⟨x.mark, x.content.map fun c => (c.page, c.publisher, c.remaining)⟩, s)
  | _ => (.badArgument, .none, s)

def execReadPage (args : List Word) (s : State) : Result := .next (s.command .readPage args (readPageBody args))

/-- READ_SIGN's report of one face; an unfitted face gives none (R162). The dwell time left is rounded down to tenths
(DESIGN CHOICE, assumption 43). -/
def State.signReport (f : Face) (s : State) : Option SignReport :=
  if s.config.fitted f then
    let u := s.faces.get f
    some
      { dark := u.dark
        faulted := u.faulted
        lit := s.lit f
        roundel := if u.dark then none else s.roundel f
        shown := u.selector.shown.map fun i => (i, s.itemPriority i)
        rotation := u.selector.rotation
        top := u.selector.top
        dwellTenths := min 30 (s.timeLeft u.selector.dwellTimer / 100)
        flashed := u.selector.shown.elim .none fun i => s.itemFlash i
        phaseOn := u.selector.flashOn
        lastImage := u.image.map (·.sequence)
        awaited := u.awaited.length
        missing := u.missing
        lastAnswer := u.lastAnswer }
  else none

/-- READ_SIGN (R162). -/
def execReadSign (args : List Word) (s : State) : Result :=
  .next (s.command .readSign args fun s => (.ok, .sign ⟨s.signReport .east, s.signReport .west⟩, s))

/-- A lit face is set dark (R157): selection stops, one blank image is sent, and the awaited images are given up. -/
def State.darken (f : Face) (s : State) : State :=
  s.modFace f fun u =>
    { u with
      dark := true
      selector := emptySelector
      image :=
        some { sequence := u.sequence, roundel := none, line1 := [], line2 := [], line3 := [], pictogram := 0,
               flashed := .none, phaseOn := true }
      sequence := u.sequence + 1
      awaited := []
      missing := 0
      refreshTimer := none }

/-- A dark face is set lit (R157): selection starts and an image is sent at once. -/
def State.lighten (f : Face) (s : State) : State :=
  ((s.modFace f fun u => { u with dark := false }).startSelection f).sendImage f

/-- SET_FACE_DARK (R157). -/
def setFaceDarkBody (args : List Word) (s : State) : ResponseCode × Answer × State :=
  match parseSetDark args with
  | none => (.badArgument, .none, s)
  | some (f, dark) =>
    if s.config.fitted f = false then (.badArgument, .none, s)
    else if (s.faces.get f).dark = dark then (.ok, .none, s)
    else (.ok, .none, if dark then s.darken f else s.lighten f)

def execSetFaceDark (args : List Word) (s : State) : Result :=
  .next (s.command .setFaceDark args (setFaceDarkBody args))

end Sys2Proof.Machine
end

