-- ==== Sys2Proof/Machine/Speed.lean ====
section
/-! DEFINITION. Advisory speed (chapter 7): the caps, the local advisory, the cascade, the shown value, adverts, and the meanings
of the speed unit's events and commands. -/

namespace Sys2Proof.Machine

open Sys2Proof

/-! ### The computation (R126 to R131) -/

/-- The smoothed visibility after a submission of `v` (R126). -/
def smooth (vs : Option Int) (v : Int) : Int :=
  match vs with
  | none => v
  | some old => if -3 ≤ v - old ∧ v - old ≤ 3 then v else old + Int.tdiv (v - old) 4

/-- The latest value of a kind. -/
def State.readingValue (k : ReadingKind) (s : State) : Option Int := s.readings.kinds[readingCode k].value

/-- The grip factor of a surface state, in hundredths (R127). -/
def gripFactor : Option Int → Int
  | some 1 => 95
  | some 2 => 85
  | some 3 => 65
  | some 4 => 45
  | _ => 100

/-- An incident on this side lies ahead of the face (R104). -/
def IncidentSide.isAhead (x : IncidentSide) (f : Face) : Bool :=
  match x with
  | .own => true
  | .ahead d => d == f

/-- The nearest distance ahead of a face in a table, or none. -/
def nearestAhead (f : Face) (table : List Incident) : Option Nat :=
  table.foldl
    (fun acc e => if e.side.isAhead f then some (match acc with | none => e.distance | some d => min d e.distance) else acc)
    none

/-- The visibility cap (R127); Vs is not negative, so floor and truncation agree. -/
def capVis (vmax : Int) (vs : Option Int) : Int := match vs with | none => vmax | some v => 20 + v / 4

/-- The grip cap (R127), floored. -/
def capGrip (vmax : Int) (surface : Option Int) : Int := vmax * gripFactor surface / 100

/-- The wind cap (R128). -/
def capWind (vmax : Int) (gust : Option Int) : Int :=
  match gust with
  | none => vmax
  | some g => if g < 60 then vmax else vmax - (g - 60)

/-- The incident cap (R128). -/
def capInc (vmax : Int) (nearest : Option Nat) : Int :=
  match nearest with
  | none => vmax
  | some d => 40 + 20 * (d : Int)

/-- a_q, the largest multiple of 10 not above a_raw, rounded toward minus infinity (R129). -/
def quantised (aRaw : Int) : Int := aRaw / 10 * 10

/-- The local advisory (R129): a_q brought between Vmin and Vmax. -/
def localAdvisory (vmin vmax aQ : Int) : Int := min vmax (max vmin aQ)

/-- The cascade (R130). -/
def cascade (a : Int) (n : Option Int) : Int := match n with | none => a | some n => min a (n + 20)

/-- The values an evaluation of a face uses and finds now (R124, R127 to R130); all are kept as its last evaluation. -/
def State.evaluation (f : Face) (s : State) : Evaluation :=
  let vmax : Int := s.config.vmax
  let v := capVis vmax s.readings.vs
  let g := capGrip vmax (s.readingValue .surfaceState)
  let w := capWind vmax (s.readingValue .gust)
  let i := capInc vmax (nearestAhead f s.incidents.table)
  let raw := min vmax (min v (min g (min w i)))
  let q := quantised raw
  let a := localAdvisory s.config.vmin vmax q
  { capVis := v, capGrip := g, capWind := w, capInc := i, aRaw := raw, aQ := q, a := a,
    t := cascade a ((s.speed.faces.get f).advert.map (·.n)) }

/-- The shown value and raise count after an evaluation that found target `t` (R131). -/
def shownValue (timer : Bool) (t : Int) (d : Int) (raiseCount : Nat) : Int × Nat :=
  if t < d then (t, 0)
  else if t = d then (d, 0)
  else if timer then if 3 ≤ raiseCount + 1 then (min t (d + 20), 0) else (d, raiseCount + 1)
  else (d, raiseCount)

/-- A face's record after an evaluation (R131, R134). -/
def State.evaluatedFace (timer : Bool) (f : Face) (s : State) : FaceSpeed :=
  let x := s.speed.faces.get f
  let e := s.evaluation f
  let r := shownValue timer e.t x.d x.raiseCount
  { x with d := r.1, raiseCount := r.2, last := some e, nearestUsed := nearestAhead f s.incidents.table }

/-! ### Adverts (R136, R137) -/

/-- The advert carried for a face now (R137). -/
def State.advertNow (f : Face) (s : State) : Int :=
  let x := s.speed.faces.get f
  if s.lit f then x.d
  else
    match x.advert with
    | none => x.d
    | some h => min x.d h.n

/-- A SPEED frame is built and offered, and the advert timer restarts at 5 s (R136). -/
def State.buildSpeed (s : State) : State :=
  let f := s.newFrame .speed 0 1
    (SpeedFields.payload ⟨s.advertNow .east, s.advertNow .west, s.lit .east, s.lit .west⟩)
  (s.send f).modSpeed fun x => { x with advertTimer := s.startTimer 5000 }

/-! ### Evaluations (R132 to R135) -/

/-- CLOSE_ADVISED of a face is set by its evaluation; a change reselects the face (R129, R135). -/
def State.setCloseAdvised (f : Face) (on : Bool) (s : State) : State :=
  if s.warnings.closeAdvised.get f = on then s
  else (s.modWarnings fun w => { w with closeAdvised := w.closeAdvised.set f on }).select f

/-- The evaluation of a face advises its closing: a_raw is below Vmin (R129). -/
def State.advisesClosing (f : Face) (s : State) : Bool := (s.evaluation f).aRaw < (s.config.vmin : Int)

/-- One evaluation of both faces with the values that stand now; one SPEED frame when D of a face changed (R131, R135). -/
def State.evaluate (timer : Bool) (s : State) : State :=
  let faces : PerSide FaceSpeed := ⟨s.evaluatedFace timer .east, s.evaluatedFace timer .west⟩
  let t := s.modSpeed fun x => { x with faces := faces }
  let t := (t.setCloseAdvised .east (s.advisesClosing .east)).setCloseAdvised .west (s.advisesClosing .west)
  if faces.east.d = s.speed.faces.east.d ∧ faces.west.d = s.speed.faces.west.d then t else t.buildSpeed

/-- EVALUATION_TIMER_EXPIRY (R132). -/
def execEvaluationTimerExpiry (s : State) : Result :=
  .next
    (s.onSignTimer s.speed.evaluationTimer fun s =>
      (s.evaluate true).modSpeed fun x => { x with evaluationTimer := s.startTimer 10000 })

/-- ADVERT_TIMER_EXPIRY (R136). -/
def execAdvertTimerExpiry (s : State) : Result := .next (s.onTimer s.speed.advertTimer fun s => s.buildSpeed)

/-- The advert held for a face is set or becomes absent. -/
def State.setAdvert (f : Face) (a : Option HeldAdvert) (s : State) : State :=
  s.modSpeed fun x => { x with faces := x.faces.set f { x.faces.get f with advert := a } }

/-- HELD_ADVERT_AGE_OUT (R139): 15 s without a SPEED on the face's side. -/
def execHeldAdvertAgeOut (f : Face) (s : State) : Result :=
  .next
    (s.onTimer ((s.speed.faces.get f).advert.map fun h => h.setAt + 15000) fun s => s.setAdvert f none)

/-- A SPEED taken at port `p` (R138): held when it comes from the adjacent station; an N plus 20 below D causes an
immediate evaluation. -/
def State.takeSpeed (p : Side) (f : Frame) (x : SpeedFields) (s : State) : State :=
  if f.hops = 1 then
    let n := match p with | .east => x.e | .west => x.w
    let t := s.setAdvert p (some ⟨n, f.origin, x.litE, x.litW, s.now⟩)
    if n + 20 < (s.speed.faces.get p).d then t.evaluate false else t
  else s

/-- What READ_SPEED gives of an evaluation (R140). -/
def Evaluation.report (e : Evaluation) : EvaluationReport :=
  { capVis := e.capVis, capGrip := e.capGrip, capWind := e.capWind, capInc := e.capInc, aRaw := e.aRaw, a := e.a,
    t := e.t }

/-- READ_SPEED's report of one face (R140); the advert's age is rounded down (DESIGN CHOICE, assumption 43). -/
def State.faceSpeedReport (f : Face) (s : State) : FaceSpeedReport :=
  let x := s.speed.faces.get f
  { d := x.d
    raiseCount := x.raiseCount
    last := x.last.map Evaluation.report
    closeAdvised := s.warnings.closeAdvised.get f
    advert := s.advertNow f
    held := x.advert.map fun h => ⟨h.n, h.origin, h.litE, h.litW, min 150 ((s.now - h.setAt) / 100)⟩ }

/-- READ_SPEED (R140); the time to the next evaluation is rounded down (DESIGN CHOICE, assumption 43). -/
def execReadSpeed (args : List Word) (s : State) : Result :=
  .next
    (s.command .readSpeed args fun s =>
      (.ok,
        .speed
          { vmax := s.config.vmax, vmin := s.config.vmin, faces := ⟨s.faceSpeedReport .east, s.faceSpeedReport .west⟩,
            nextTenths := min 100 (s.timeLeft s.speed.evaluationTimer / 100) }, s))

/-- The speed unit's JOIN values (R125), to which RESTART returns it (R141). -/
def State.startSpeed (s : State) : State :=
  s.modSpeed fun x =>
    { x with faces := ⟨startFaceSpeed s.config.vmax, startFaceSpeed s.config.vmax⟩,
             evaluationTimer := s.startTimer 10000 }

end Sys2Proof.Machine
end

