-- ==== Sys2Proof/Machine/Readings.lean ====
section
/-! DEFINITION. The readings unit and the warning evaluator (sections 6.2 and 6.3), and the meanings of their events and
commands. -/

namespace Sys2Proof.Machine

open Sys2Proof

/-! ### The warning evaluator (R118 to R121) -/

/-- The face's warning set differs between two states of the evaluator. -/
def Warnings.differ (a b : Warnings) (f : Face) : Bool :=
  [Warning.fog, .ice, .wind, .incident, .closeAdvised].any fun w => a.isOn f w != b.isOn f w

/-- The evaluator's new state is taken; each face whose set changed is reselected (R118). -/
def State.setWarnings (w : Warnings) (s : State) : State :=
  let t := s.modWarnings fun _ => w
  let t := if s.warnings.differ w .east then t.select .east else t
  if s.warnings.differ w .west then t.select .west else t

/-- FOG after Vs was updated or became absent (R119). -/
def Warnings.fogBy (vs : Option Int) (w : Warnings) : Warnings :=
  match vs with
  | none => { w with fog := false }
  | some v => if v < 150 then { w with fog := true } else if 250 ≤ v then { w with fog := false } else w

/-- A submission qualifies for ICE with the table's latest values (R120). -/
def icy (surface temp : Option Int) : Bool :=
  match surface with
  | none => false
  | some st =>
    if st = 4 then true
    else if 1 ≤ st ∧ st ≤ 3 then (match temp with | none => false | some t => t ≤ 0)
    else false

/-- ICE and its counts after a surface submission (R120). -/
def Warnings.iceBy (qualifies : Bool) (w : Warnings) : Warnings :=
  if qualifies then
    let run := min 2 (w.icyRun + 1)
    { w with thawRun := 0, icyRun := run, ice := w.ice || run == 2 }
  else
    let run := min 3 (w.thawRun + 1)
    { w with icyRun := 0, thawRun := run, ice := w.ice && run != 3 }

/-- WIND and its calm count after a gust submission (R121). -/
def Warnings.windBy (gust : Int) (w : Warnings) : Warnings :=
  if 80 ≤ gust then { w with calmCount := 0, wind := true }
  else if gust < 60 then
    let run := min 3 (w.calmCount + 1)
    { w with calmCount := run, wind := w.wind && run != 3 }
  else { w with calmCount := 0 }

/-- The evaluator after a submission of a kind, with the readings as they stand after it (R119 to R121). -/
def State.warningsAfterSubmission (k : ReadingKind) (v : Int) (s : State) : Warnings :=
  match k with
  | .visibility => s.warnings.fogBy s.readings.vs
  | .surfaceState | .surfaceTemp => s.warnings.iceBy (icy (s.readingValue .surfaceState) (s.readingValue .surfaceTemp))
  | .gust => s.warnings.windBy v

/-- The evaluator after a kind has become absent (R119 to R121). -/
def State.warningsAfterAbsence (k : ReadingKind) (s : State) : Warnings :=
  match k with
  | .visibility => s.warnings.fogBy none
  | .surfaceState | .surfaceTemp =>
    if (s.readingValue .surfaceState).isNone && (s.readingValue .surfaceTemp).isNone then
      { s.warnings with ice := false, icyRun := 0, thawRun := 0 }
    else s.warnings
  | .gust => { s.warnings with wind := false, calmCount := 0 }

/-! ### The readings unit (R112 to R116) -/

/-- The record of a kind. -/
def State.reading (k : ReadingKind) (s : State) : Reading := s.readings.kinds[readingCode k]

/-- The record of a kind changed. -/
def State.modReading (k : ReadingKind) (f : Reading → Reading) (s : State) : State :=
  s.modReadings fun r => { r with kinds := r.kinds.set (readingCode k) (f r.kinds[readingCode k]) }

/-- The READING frame of a reading (R115). -/
def State.readingFrame (k : ReadingKind) (r : PendingReading) (s : State) : Frame :=
  s.broadcast63 .reading (readingPayload k r)

/-- A READING is built and offered and the rate timer starts at 10 s; answered "not sent", the reading is kept pending
(R115). -/
def State.broadcastReading (k : ReadingKind) (r : PendingReading) (s : State) : State :=
  let o := s.sendTold (s.readingFrame k r)
  o.2.modReading k fun x =>
    { x with pending := if o.1 then none else some r, rateTimer := s.startTimer 10000 }

/-- The readings table and Vs take an accepted submission (R113, R114). -/
def State.storeReading (k : ReadingKind) (v : Int) (clamped : Bool) (s : State) : State :=
  let t :=
    s.modReading k fun x =>
      { x with value := some v, clamped := clamped, lastSequence := some x.counter, counter := x.counter + 1,
               submittedAt := some s.now }
  if k = .visibility then t.modReadings fun r => { r with vs := some (smooth r.vs v) } else t

/-- The broadcast record of the kind takes the reading (R115). -/
def State.broadcastOrKeep (k : ReadingKind) (r : PendingReading) (s : State) : State :=
  if (s.reading k).rateTimer.isSome then s.modReading k fun x => { x with pending := some r }
  else s.broadcastReading k r

/-- An accepted submission, carried out in the order of R112. -/
def State.submitReading (k : ReadingKind) (given : Int) (s : State) : State :=
  let v := clampReading k given
  let clamped := v != given
  let seq := (s.reading k).counter
  let t := (s.storeReading k v clamped).broadcastOrKeep k ⟨v, clamped, seq⟩
  (t.setWarnings (t.warningsAfterSubmission k v)).evaluate false

/-- SUBMIT_READING (R112). -/
def submitReadingBody (args : List Word) (s : State) : ResponseCode × Answer × State :=
  match parseSubmitReading args with
  | none => (.badArgument, .none, s)
  | some (k, v) => (if clampReading k v = v then .ok else .okAdjusted, .none, s.submitReading k v)

def execSubmitReading (args : List Word) (s : State) : Result :=
  .next (s.withImages fun s => s.command .submitReading args (submitReadingBody args))

/-- A kind reaches 15 min of age (R113): it becomes absent with its pending broadcast, READINGS_STALE latches, and the
warnings that read it are evaluated. -/
def State.readingGone (k : ReadingKind) (s : State) : State :=
  let t :=
    s.modReading k fun x =>
      { x with value := none, clamped := false, lastSequence := none, submittedAt := none, pending := none }
  let t := if k = .visibility then t.modReadings fun r => { r with vs := none } else t
  let t := t.latch .readingsStale
  t.setWarnings (t.warningsAfterAbsence k)

/-- READING_AGE_OUT (R113). -/
def execReadingAgeOut (k : ReadingKind) (s : State) : Result :=
  .next (s.onSignTimer ((s.reading k).submittedAt.map (· + 900000)) fun s => s.readingGone k)

/-- RATE_TIMER_EXPIRY (R115): the pending reading is broadcast and the timer restarts, or the timer stops. -/
def execRateTimerExpiry (k : ReadingKind) (s : State) : Result :=
  .next
    (s.onTimer (s.reading k).rateTimer fun s =>
      match (s.reading k).pending with
      | some r => s.broadcastReading k r
      | none => s.modReading k fun x => { x with rateTimer := none })

/-- A READING taken at a collector joins the delivery queue; a full queue first loses its oldest (R116). -/
def State.takeReading (f : Frame) (k : ReadingKind) (r : PendingReading) (s : State) : State :=
  s.modReadings fun x =>
    let room := if 32 ≤ x.delivery.length then x.delivery.drop 1 else x.delivery
    { x with delivery := room ++ [⟨f.origin, k, r.value, r.clamped, r.sequence⟩] }

/-- FETCH_READING (R116). -/
def fetchReadingBody (s : State) : ResponseCode × Answer × State :=
  match s.readings.delivery with
  | [] => (.empty, .none, s)
  | e :: es => (.ok, .fetchedReading e es.length, s.modReadings fun x => { x with delivery := es })

def execFetchReading (args : List Word) (s : State) : Result := .next (s.command .fetchReading args fetchReadingBody)

/-- A kind in READ_READINGS's answer (R117). Its age is rounded down (DESIGN CHOICE, assumption 43), and an age that is
stopped is given as 0 (DESIGN CHOICE, assumption 45). -/
def State.readingReport (k : ReadingKind) (s : State) : ReadingReport :=
  let x := s.reading k
  { value := x.value, clamped := x.clamped, lastSequence := x.lastSequence,
    ageSeconds := x.submittedAt.elim 0 fun at' => min 900 ((s.now - at') / 1000), pending := x.pending.isSome }

/-- The warning set of a face (section 6.3). -/
def Warnings.setOf (w : Warnings) (f : Face) : WarningSet :=
  ⟨w.fog, w.ice, w.wind, w.incident.get f, w.closeAdvised.get f⟩

/-- READ_READINGS (R117). -/
def execReadReadings (args : List Word) (s : State) : Result :=
  .next
    (s.command .readReadings args fun s =>
      (.ok,
        .readings
          { kinds := [ReadingKind.visibility, .surfaceState, .surfaceTemp, .gust].map fun k => s.readingReport k
            vs := s.readings.vs
            icyRun := s.warnings.icyRun
            thawRun := s.warnings.thawRun
            calmCount := s.warnings.calmCount
            sets := ⟨s.warnings.setOf .east, s.warnings.setOf .west⟩
            delivery := if s.config.collector then some s.readings.delivery.length else none }, s))

/-- The readings unit at RESTART (R113 to R116): values, Vs and broadcast records cleared; the sequence counters and the
delivery queue kept. -/
def State.clearReadings (s : State) : State :=
  s.modReadings fun r =>
    { r with kinds := Vector.ofFn fun i => { resetReading with counter := r.kinds[i].counter }, vs := none }

end Sys2Proof.Machine
end

