-- ==== Sys2Proof/Machine/Incidents.lean ====
section
/-! DEFINITION. The incident table (section 6.1, R134) and the meanings of its events and commands. -/

namespace Sys2Proof.Machine

open Sys2Proof

/-- The INCIDENT warnings that the table gives (R122). -/
def State.incidentWarnings (s : State) : Warnings :=
  { s.warnings with
    incident :=
      ⟨s.incidents.table.any fun e => e.side.isAhead .east, s.incidents.table.any fun e => e.side.isAhead .west⟩ }

/-- An incident now stands nearer to the face than its last evaluation used (R134). -/
def State.nearerThanUsed (f : Face) (s : State) : Bool :=
  match nearestAhead f s.incidents.table, (s.speed.faces.get f).nearestUsed with
  | none, _ => false
  | some _, none => true
  | some d, some u => d < u

/-- INCIDENT of a face turns on between two states of the evaluator. -/
def Warnings.incidentTurnsOn (a b : Warnings) (f : Face) : Bool := !a.incident.get f && b.incident.get f

/-- A change of the table is handed on (R108, R118, R134): the INCIDENT warnings are evaluated, and then at most one
immediate evaluation is made, for the table's own cause, a warning turned on, or an entry nearer than a face last used. -/
def State.incidentsChanged (cause : Bool) (s : State) : State :=
  let w := s.incidentWarnings
  let t := s.setWarnings w
  if cause || s.warnings.incidentTurnsOn w .east || s.warnings.incidentTurnsOn w .west || t.nearerThanUsed .east ||
      t.nearerThanUsed .west then t.evaluate false else t

/-- The key names this entry (R104). -/
def Incident.hasKey (e : Incident) (origin : Nat) (callId : Byte) : Bool := e.origin == origin && e.callId == callId

/-- The entry that the replacement rule removes: the greatest distance, then the greatest age, then the front (R107). -/
def replacementVictim : List Incident → Option Incident
  | [] => none
  | e :: es =>
    match replacementVictim es with
    | none => some e
    | some v =>
      if e.distance < v.distance then some v
      else if v.distance < e.distance then some e
      else if v.touchedAt < e.touchedAt then some v
      else some e

/-- The key stands in the recently-cleared list (R105). -/
def Incidents.wasCleared (x : Incidents) (origin : Nat) (callId : Byte) : Bool :=
  x.cleared.any fun k => k.origin == origin && k.callId == callId

/-- An INCIDENT or a notice (R105 to R107): ignored, a refresh, a creation, or the replacement rule. -/
def State.enterIncident (e : Incident) (s : State) : State :=
  let table := s.incidents.table
  if s.incidents.wasCleared e.origin e.callId then s
  else
    match table.find? fun x => x.hasKey e.origin e.callId with
    | some x =>
      let t := s.modIncidents fun i =>
        { i with table := table.map fun y => if y.hasKey e.origin e.callId then e else y }
      if x.side = e.side ∧ x.distance = e.distance then t else t.incidentsChanged (e.distance < x.distance)
    | none =>
      if table.length < 8 then
        (s.modIncidents fun i => { i with table := table ++ [e] }).incidentsChanged true
      else
        match replacementVictim table with
        | none => s
        | some v =>
          if e.distance < v.distance then
            (s.modIncidents fun i => { i with table := (table.filter fun y => !y.hasKey v.origin v.callId) ++ [e] })
              |>.incidentsChanged true
          else s

/-- A taken INCIDENT (R105); hops above 7 are not taken. -/
def State.takeIncident (p : Side) (f : Frame) (callId : Byte) (b : Fin 4) (s : State) : State :=
  if f.hops ≤ 7 then s.enterIncident ⟨f.origin, callId, b, .ahead p, f.hops, s.now⟩ else s

/-- A new-call or refresh notice of the station's own call (R106). -/
def State.ownNotice (callId : Byte) (b : Fin 4) (s : State) : State :=
  s.enterIncident ⟨s.number, callId, b, .own, 0, s.now⟩

/-- The recently-cleared list with a key's timer at 60 s: restarted in place, or added at the end of a list that first
loses its oldest when it is full (R104, R109; DEDUCED, assumption 27). -/
def addCleared (key : ClearedKey) (keys : List ClearedKey) : List ClearedKey :=
  if keys.any fun k => k.origin == key.origin && k.callId == key.callId then
    keys.map fun k => if k.origin == key.origin && k.callId == key.callId then key else k
  else (if 8 ≤ keys.length then keys.drop 1 else keys) ++ [key]

/-- The entry of a key leaves the table, and the change is handed on if there was one. -/
def State.removeIncident (origin : Nat) (callId : Byte) (s : State) : State :=
  if s.incidents.table.any fun e => e.hasKey origin callId then
    (s.modIncidents fun i => { i with table := i.table.filter fun e => !e.hasKey origin callId }).incidentsChanged false
  else s

/-- The call unit takes a CLEAR of an own call: the current call with that id sends no more refreshes (R66).
A first INCIDENT of the call that still waits in the deferred list is left there to be sent, as R40 withdraws it only at
IDLE or CLEARED (DESIGN CHOICE, assumption 44). -/
def State.stopRefreshes (callId : Byte) (s : State) : State :=
  { s with
    calls :=
      Vector.ofFn fun i =>
        let r := s.calls[i]
        if r.state != .idle && r.callId == some callId then { r with incidentTimer := none } else r }

/-- A CLEAR, taken or given by CLEAR_INCIDENT (R109, R110). -/
def State.clearIncident (origin : Nat) (callId : Byte) (s : State) : State :=
  let t := s.modIncidents fun i => { i with cleared := addCleared ⟨origin, callId, s.startTimer 60000⟩ i.cleared }
  let t := t.removeIncident origin callId
  if origin = s.number then t.stopRefreshes callId else t

/-- INCIDENT_AGE_OUT (R108): 30 min of age. -/
def execIncidentAgeOut (origin : Nat) (callId : Byte) (s : State) : Result :=
  .next
    (s.onSignTimer ((s.incidents.table.find? fun e => e.hasKey origin callId).map fun e => e.touchedAt + 1800000)
      fun s => s.removeIncident origin callId)

/-- CLEARANCE_TIMER_EXPIRY (R104): the key leaves the recently-cleared list. -/
def execClearanceTimerExpiry (origin : Nat) (callId : Byte) (s : State) : Result :=
  .next
    (s.onTimer
      ((s.incidents.cleared.find? fun k => k.origin == origin && k.callId == callId).elim none (·.timer)) fun s =>
      s.modIncidents fun i => { i with cleared := i.cleared.filter fun k => !(k.origin == origin && k.callId == callId) })

/-- CLEAR_INCIDENT (R110). -/
def clearIncidentBody (args : List Word) (s : State) : ResponseCode × Answer × State :=
  match parseClearIncident args with
  | none => (.badArgument, .none, s)
  | some (origin, callId) =>
    let t := s.clearIncident origin callId
    (.ok, .none, t.sendOneOff .plain (t.broadcast63 .clear (clearPayload origin callId)))

def execClearIncident (args : List Word) (s : State) : Result :=
  .next (s.withImages fun s => s.command .clearIncident args (clearIncidentBody args))

/-- READ_INCIDENTS (R111); ages are rounded down (DESIGN CHOICE, assumption 43). -/
def execReadIncidents (args : List Word) (s : State) : Result :=
  .next
    (s.command .readIncidents args fun s =>
      (.ok,
        .incidents
          (s.incidents.table.map fun e =>
            ⟨e.origin, e.callId, e.box, e.side, e.distance, min 1800 ((s.now - e.touchedAt) / 1000)⟩)
          ⟨nearestAhead .east s.incidents.table, nearestAhead .west s.incidents.table⟩, s))

end Sys2Proof.Machine
end

