-- ==== Sys2Proof/Machine/Circuits.lean ====
section
/-! DEFINITION. Voice circuits (chapter 3): choosing, yielding, asserting, re-homing and releasing, what arriving CLAIM, RELEASE
and VOICE frames do to the table, and the meanings of the circuit unit's events and commands. -/

namespace Sys2Proof.Machine

open Sys2Proof

/-- The circuits in number order. -/
def circuitIndices : List (Fin 16) := (List.range 16).filterMap (parseFin 16)

/-- The call box ports in index order. -/
def boxIndices : List (Fin 4) := [0, 1, 2, 3]

/-- The operator lanes in number order. -/
def laneIndices : List (Fin 2) := [0, 1]

/-- The entry is the station's own: CLAIMING or HELD_OWN, bound to this call box port. -/
def Circuit.boundTo (x : Circuit) (b : Fin 4) : Bool :=
  match x with
  | .claiming b' _ => b' == b
  | .heldOwn b' _ _ => b' == b
  | _ => false

/-- The call's circuit field is set (R45). -/
def State.setCallCircuit (b : Fin 4) (c : Option (Fin 16)) (s : State) : State :=
  s.modCall b fun r => { r with circuit := c }

/-- The lowest FREE circuit (R47). -/
def State.lowestFree (s : State) : Option (Fin 16) := circuitIndices.find? fun c => s.circuits[c] == .free

/-- The CLAIM frame of a circuit (R47). -/
def State.claimFrame (c : Fin 16) (held : Bool) (s : State) : Frame := s.broadcast63 .claim (claimPayload c held)

/-- A wanted call chooses a circuit and claims it, or waits 1 s when none is FREE (R47). -/
def State.chooseCircuit (b : Fin 4) (s : State) : State :=
  match s.lowestFree with
  | none => s.modClaim b fun r => { r with wait := s.startTimer 1000 }
  | some c =>
    let t := (s.modCircuit c fun _ => .claiming b (s.startTimer 40)).setCallCircuit b (some c)
    t.sendOneOff (.claim c) (t.claimFrame c false)

/-- The call asks for a circuit (R46, R65). -/
def State.wantCircuit (b : Fin 4) (s : State) : State :=
  (s.modClaim b fun _ => { wanted := true, yields := 0, wait := none }).chooseCircuit b

/-- A CLAIMING entry is given up to station `rival` (R49): the call chooses again, or waits after its third yield in a row
(R50). -/
def State.yieldCircuit (c : Fin 16) (b : Fin 4) (rival : Nat) (s : State) : State :=
  let t := ((s.modCircuit c fun _ => .heldOther rival s.now).setCallCircuit b none).withdraw (.claim c)
  let yields := min 3 (t.claims[b].yields + 1)
  let t := t.modClaim b fun r => { r with yields := yields }
  if yields < 3 then t.chooseCircuit b else t.modClaim b fun r => { r with wait := t.startTimer 1000 }

/-- An assert is offered: the hold refresh timer restarts at 1 s and the hold-off at 100 ms, however it is answered
(R51). -/
def State.sendAssert (c : Fin 16) (b : Fin 4) (s : State) : State :=
  (s.sendOneOff (.claim c) (s.claimFrame c true)).modCircuit c fun _ =>
    .heldOwn b (s.startTimer 1000) (s.startTimer 100)

/-- A rival is met: the assert is offered unless the hold-off runs (R51). -/
def State.meetRival (c : Fin 16) (b : Fin 4) (holdOff : Timer) (s : State) : State :=
  if holdOff.isSome then s else s.sendAssert c b

/-- The call bound to circuit `c` gives it up to a lower-numbered holder and claims another (R55). -/
def State.rehome (c : Fin 16) (b : Fin 4) (rival : Nat) (s : State) : State :=
  (((s.modCircuit c fun _ => .heldOther rival s.now).setCallCircuit b none).withdraw (.claim c)).wantCircuit b

/-- A taken CLAIM (R49, R52, R53). -/
def State.takeClaim (rival : Nat) (c : Fin 16) (held : Bool) (s : State) : State :=
  match s.circuits[c] with
  | .free => s.modCircuit c fun _ => .heldOther rival s.now
  | .heldOther holder _ =>
    if rival ≤ holder then s.modCircuit c fun _ => .heldOther rival s.now else s
  | .claiming b _ =>
    if held = true ∨ rival < s.number then s.yieldCircuit c b rival
    else s.sendOneOff (.claim c) (s.claimFrame c false)
  | .heldOwn b _ holdOff =>
    if held = true ∧ rival < s.number then s.rehome c b rival else s.meetRival c b holdOff

/-- A VOICE frame shown to the circuit unit (R12, R54): a block from the call box acts as a held-set CLAIM of its origin. -/
def State.showVoice (f : Frame) (s : State) : State :=
  match parseVoiceShown f.payload with
  | some (c, false) => s.takeClaim f.origin c true
  | _ => s

/-- A taken RELEASE frees a HELD_OTHER entry of its origin (R57). -/
def State.takeRelease (origin : Nat) (c : Fin 16) (s : State) : State :=
  match s.circuits[c] with
  | .heldOther holder _ => if holder = origin then s.modCircuit c fun _ => .free else s
  | _ => s

/-- The call's circuit is CLAIMING or HELD_OWN and bound to it. -/
def State.boundCircuit (b : Fin 4) (s : State) : Option (Fin 16) :=
  match s.calls[b].circuit with
  | none => none
  | some c => if s.circuits[c].boundTo b then some c else none

/-- The circuit that the call holds (HELD_OWN), if any. -/
def State.heldCircuit (b : Fin 4) (s : State) : Option (Fin 16) :=
  match s.calls[b].circuit with
  | none => none
  | some c =>
    match s.circuits[c] with
    | .heldOwn b' _ _ => if b' = b then some c else none
    | _ => none

/-- A call that ends releases what it has bound (R56). -/
def State.releaseCall (b : Fin 4) (s : State) : State :=
  let t := s.modClaim b fun _ => resetClaim
  match s.boundCircuit b with
  | none => t.setCallCircuit b none
  | some c =>
    let t := ((t.modCircuit c fun _ => .free).setCallCircuit b none).withdraw (.claim c)
    t.sendOneOff (.release c) (t.broadcast63 .release (releasePayload c))

/-- HOLD_REFRESH_TIMER_EXPIRY (R51): the entry asserts. -/
def execHoldRefreshTimerExpiry (c : Fin 16) (s : State) : Result :=
  .next
    (match s.circuits[c] with
    | .heldOwn b refresh _ => s.onTimer refresh fun s => s.sendAssert c b
    | _ => s)

/-- ASSERT_HOLD_OFF_EXPIRY (R51): the next rival met draws an assert. -/
def execAssertHoldOffExpiry (c : Fin 16) (s : State) : Result :=
  .next
    (match s.circuits[c] with
    | .heldOwn b refresh holdOff => s.onTimer holdOff fun s => s.modCircuit c fun _ => .heldOwn b refresh none
    | _ => s)

/-- CLAIM_WAIT_TIMER_EXPIRY (R50): a call still wanted chooses again, its third yield forgotten. After a wait for want of a
FREE circuit, R46 counts yields afresh and R50 leaves a count of 1 or 2 as it stands: R50 is followed (DESIGN CHOICE,
assumption 42). -/
def State.waitEnds (b : Fin 4) (s : State) : State :=
  let t := s.modClaim b fun r => { r with wait := none, yields := if r.wanted && r.yields == 3 then 0 else r.yields }
  if s.claims[b].wanted then t.chooseCircuit b else t

def execClaimWaitTimerExpiry (b : Fin 4) (s : State) : Result :=
  .next (s.onTimer s.claims[b].wait fun s => s.waitEnds b)

/-- HELD_OTHER_AGE_OUT (R58): 2 s without a refresh. -/
def execHeldOtherAgeOut (c : Fin 16) (s : State) : Result :=
  .next
    (match s.circuits[c] with
    | .heldOther _ heardAt => s.onTimer (some (heardAt + 2000)) fun s => s.modCircuit c fun _ => .free
    | _ => s)

/-- A circuit in READ_CIRCUITS's answer (R62); its age is rounded down to tenths (DESIGN CHOICE, assumption 43). -/
def State.circuitReport (c : Fin 16) (s : State) : CircuitReport :=
  match s.circuits[c] with
  | .free => ⟨c.val + 1, .free, 0, none, none, none⟩
  | .claiming b t => ⟨c.val + 1, .claiming, s.number, some b, none, some (min 40 (s.timeLeft t))⟩
  | .heldOwn b _ _ => ⟨c.val + 1, .heldOwn, s.number, some b, none, none⟩
  | .heldOther h at' => ⟨c.val + 1, .heldOther, h, none, some (min 20 ((s.now - at') / 100)), none⟩

/-- The fitted call box ports (R63). -/
def State.fittedBoxes (s : State) : List (Fin 4) := boxIndices.filter fun b => b.val < s.config.boxes

/-- READ_CIRCUITS (R62); the wait time left is rounded down to tenths (DESIGN CHOICE, assumption 43). -/
def execReadCircuits (args : List Word) (s : State) : Result :=
  .next
    (s.command .readCircuits args fun s =>
      (.ok,
        .circuits (circuitIndices.map fun c => s.circuitReport c)
          (s.fittedBoxes.map fun b =>
            ⟨s.claims[b].wanted, s.claims[b].yields, min 10 (s.timeLeft s.claims[b].wait / 100)⟩), s))

end Sys2Proof.Machine
end

