-- ==== Sys2Proof/Machine/Playout.lean ====
section
/-! DEFINITION. Voice blocks, playout and tones (chapter 5): the jitter store, the audio delivered, the cadences, and the
meanings of the playout unit's events. -/

namespace Sys2Proof.Machine

open Sys2Proof

/-! ### The jitter store (R94 to R98) -/

/-- How far a block's sequence lies ahead of the expected one; blocks behind it come out as 128 and more. -/
def aheadOf (expected sequence : Byte) : Nat := (sequence - expected).toNat

/-- A block in its sequence place among blocks at or after `expected` (R96). -/
def insertBlock (expected : Byte) (x : Block) : List Block → List Block
  | [] => [x]
  | y :: ys =>
    if aheadOf expected x.sequence < aheadOf expected y.sequence then x :: y :: ys
    else y :: insertBlock expected x ys

/-- A block handed to a store in PREFILL (R95). -/
def JitterStore.arrivePrefill (st : JitterStore) (x : Block) : JitterStore :=
  match st.blocks with
  | [] => { st with blocks := [x] }
  | b :: _ =>
    if x.sequence = b.sequence then st
    else if newer x.sequence b.sequence then { st with blocks := [b, x], phase := .playing b.sequence }
    else if older x.sequence b.sequence then { st with blocks := [x, b], phase := .playing x.sequence }
    else { st with blocks := [x] }

/-- A block handed to a store in PLAYING (R96). -/
def JitterStore.arrivePlaying (st : JitterStore) (expected : Byte) (x : Block) : JitterStore :=
  if 128 ≤ aheadOf expected x.sequence then st
  else if st.blocks.any fun y => y.sequence == x.sequence then st
  else
    let all := insertBlock expected x st.blocks
    if st.blocks.length < 4 then { st with blocks := all }
    else
      match all with
      | [] => st
      | y :: ys => { st with blocks := ys, phase := .playing (y.sequence + 1) }

/-- A block handed to a store. -/
def JitterStore.arrive (st : JitterStore) (x : Block) : JitterStore :=
  match st.phase with
  | .prefill => st.arrivePrefill x
  | .playing expected => st.arrivePlaying expected x

/-- 20 ms of silence: the A-law code 213 (R89). -/
def silence : List Byte := List.replicate 160 213

/-- One playout tick: the audio played and the store after it (R97, R98). -/
def JitterStore.tick (st : JitterStore) : List Byte × JitterStore :=
  match st.phase with
  | .prefill => (silence, st)
  | .playing expected =>
    match st.blocks.find? fun x => x.sequence == expected with
    | some x =>
      (x.samples,
        { phase := .playing (expected + 1)
          blocks := st.blocks.filter fun y => y.sequence != expected && !older y.sequence (expected + 1)
          lastPlayed := some x.samples
          misses := 0 })
    | none =>
      let misses := st.misses + 1
      let played := if misses = 1 then st.lastPlayed.getD silence else silence
      if 3 ≤ misses then (played, emptyStore)
      else
        (played,
          { st with
            phase := .playing (expected + 1)
            blocks := st.blocks.filter fun y => !older y.sequence (expected + 1)
            misses := misses })

/-! ### Audio out (R99, R100) -/

/-- The linear value of an A-law code on the 16-bit scale (assumption 5); code 213 stands for zero amplitude (R89). -/
def alawLinear (code : Byte) : Int :=
  if code = 213 then 0
  else
    let x := (code ^^^ 0x55).toNat
    let segment := x / 16 % 8
    let base := x % 16 * 16
    let magnitude : Nat := if segment = 0 then base + 8 else (base + 264) * 2 ^ (segment - 1)
    if 128 ≤ x then (magnitude : Int) else -(magnitude : Int)

/-- The largest amplitude the A-law can carry, on the scale of `alawLinear`. -/
def alawPeak : Int := 32256

/-- The A-law segment of a 13-bit magnitude (assumption 5). -/
def alawSegment (magnitude : Nat) : Nat :=
  ([31, 63, 127, 255, 511, 1023, 2047].filter fun top => top < magnitude).length

/-- The A-law code of a linear value (assumption 5). -/
def alawCode (v : Int) : Byte :=
  let positive := 0 ≤ v
  let magnitude := (if positive then v else -v - 1).toNat / 8
  let segment := alawSegment magnitude
  let mantissa := (if segment < 2 then magnitude / 2 else magnitude / 2 ^ segment) % 16
  byteOf (segment * 16 + mantissa) ^^^ (if positive then 0xD5 else 0x55)

/-- The scale of `sineAt`: 1 stands as this number. -/
def unity : Int := 1000000000000

/-- The units of a quarter of a cycle in which the tone's phase is counted. -/
def quarterCycle : Nat := 100000000

/-- The sine of the angle that is `x` units from the start of a quarter cycle, on the scale of `unity`: the power series
through the thirteenth power, whose error is below one part in 10^8 of `unity`. -/
def quarterSine (x : Nat) : Int :=
  let angle : Int := (x : Int) * 1570796326795 / quarterCycle
  let square := angle * angle / unity
  let term (rest : Int) (d : Int) : Int := unity - square * rest / (unity * d)
  min unity (angle * ([156, 110, 72, 42, 20, 6].foldl term unity) / unity)

/-- The sine of an angle in units of a quarter cycle, on the scale of `unity`. -/
def sineAt (units : Nat) : Int :=
  let x := units % quarterCycle
  match units / quarterCycle % 4 with
  | 0 => quarterSine x
  | 1 => quarterSine (quarterCycle - x)
  | 2 => -quarterSine x
  | _ => -quarterSine (quarterCycle - x)

/-- How far the 420 Hz sine goes on in one sample of 8000 to the second (R89, R100), in units of a quarter cycle:
420 / 8000 of a cycle. -/
def toneStep : Nat := 4 * quarterCycle * 420 / 8000

/-- The sample at a position of the part's time of the tone of a call box port, in an on-phase that ends at `due`: a sine of
420 Hz whose peak is a quarter of the largest amplitude (R100). Its starting phase, and whether a sample between two
numbers is rounded up or down, are free (DESIGN CHOICE, assumption 6). -/
def toneAt (b : Fin 4) (due position : Nat) : Int :=
  let exact := alawPeak / 4 * sineAt (Config.tonePhase b due + position * toneStep)
  if Config.toneRoundsUp b due position then -(-exact / unity) else exact / unity

/-- One earpiece sample: the played sample and the tone added, limited and companded again (R99). -/
def mixSample (played : Byte) (tone : Int) : Byte :=
  alawCode (max (-alawPeak) (min alawPeak (alawLinear played + tone)))

/-- The earpiece's 20 ms: the played audio alone while no cadence sounds, else with the tone added (R99;
DESIGN CHOICE, assumption 18). -/
def Tone.mix (t : Tone) (b : Fin 4) (now : Nat) (played : List Byte) : List Byte :=
  if t.cadence ≠ .none ∧ t.on = true then
    played.mapIdx fun i x => mixSample x (toneAt b (t.phaseTimer.getD 0) (8 * now + i))
  else played

/-! ### Stores and cadences in the state -/

def State.modBoxAudio (b : Fin 4) (f : Audio → Audio) (s : State) : State :=
  s.modPlayout fun p => { p with boxes := p.boxes.set b (f p.boxes[b]) }

def State.modLaneAudio (l : Fin 2) (f : Audio → Audio) (s : State) : State :=
  s.modPlayout fun p => { p with lanes := p.lanes.set l (f p.lanes[l]) }

def State.modTone (b : Fin 4) (f : Tone → Tone) (s : State) : State :=
  s.modPlayout fun p => { p with tones := p.tones.set b (f p.tones[b]) }

/-- A cadence begins with an on-phase (R100). -/
def State.beginCadence (c : Cadence) (length : Nat) (s : State) : Tone :=
  { cadence := c, on := true, phaseTimer := s.startTimer length, halfRate := false }

/-- The tone generator after a change of the call record's state (R100). -/
def State.toneAfter (old new : CallState) (s : State) (t : Tone) : Tone :=
  match new with
  | .seizing => s.beginCadence .progress 400
  | .offering => if old = .seizing then t else s.beginCadence .progress 400
  | .connected => s.beginCadence .answered 200
  | .cleared => s.beginCadence .cleared 1000
  | .idle => silentTone

/-- The playout unit is told of a change of a call record's state: the store is emptied (R94), the cadence follows (R100),
the send timer runs in CONNECTED (R90), and a new call's send sequence is 0. -/
def State.playCallChange (b : Fin 4) (old new : CallState) (s : State) : State :=
  (s.modBoxAudio b fun a =>
      { a with
        store := emptyStore
        sendSeq := if new = .seizing then 0 else a.sendSeq
        sendTimer := if new = .connected then s.startTimer 20 else none }).modTone b (s.toneAfter old new)

/-- The playout unit is told of a change of a lane (R94, R91): the send timer runs in TALKING, which begins at send
sequence 0. -/
def State.playLaneChange (l : Fin 2) (old new : LaneState) (s : State) : State :=
  s.modLaneAudio l fun a =>
    { a with
      store := emptyStore
      sendSeq := if new = .talking ∧ old ≠ .talking then 0 else a.sendSeq
      sendTimer := if new = .talking then (if old = .talking then a.sendTimer else s.startTimer 20) else none }

/-! ### Sending (R90, R91) -/

/-- The voice block that a CONNECTED call's port sends now, and toward which port, if its circuit is HELD_OWN (R90). -/
def State.boxVoice (b : Fin 4) (samples : Vector Byte 160) (s : State) : Option (Side × Frame) := do
  let r := s.calls[b]
  let partner ← r.partner
  let c ← s.heldCircuit b
  let callId ← r.callId
  some (partner.port,
    s.newFrame .voice partner.station 63
      (Voice.payload ⟨c, false, callId, s.playout.boxes[b].sendSeq, samples.toList⟩))

/-- CALL_BOX_SEND_TIMER_EXPIRY (R90): the sequence advances whether or not a block was built and queued. -/
def execCallBoxSendTimerExpiry (b : Fin 4) (samples : Vector Byte 160) (s : State) : Result :=
  .next
    (s.onTimer s.playout.boxes[b].sendTimer fun s =>
      (match s.boxVoice b samples with
        | some (p, f) => s.sendOn p f
        | none => s).modBoxAudio b fun a =>
          { a with sendSeq := a.sendSeq + 1, sendTimer := s.startTimer 20 })

/-- The voice block that a TALKING lane sends now, and toward which port (R91). -/
def State.laneVoice (l : Fin 2) (samples : Vector Byte 160) (s : State) : Option (Side × Frame) :=
  s.callUnit.lanes[l].call.map fun c =>
    (c.port,
      s.newFrame .voice c.origin 63
        (Voice.payload ⟨c.circuit, true, c.callId, s.playout.lanes[l].sendSeq, samples.toList⟩))

/-- LANE_SEND_TIMER_EXPIRY (R91). -/
def execLaneSendTimerExpiry (l : Fin 2) (samples : Vector Byte 160) (s : State) : Result :=
  .next
    (s.onTimer s.playout.lanes[l].sendTimer fun s =>
      (match s.laneVoice l samples with
        | some (p, f) => s.sendOn p f
        | none => s).modLaneAudio l fun a =>
          { a with sendSeq := a.sendSeq + 1, sendTimer := s.startTimer 20 })

/-! ### Playout ticks and cadences (R97, R99 to R102) -/

/-- A call box port is served: the station has joined and the port is fitted (R205; DEDUCED, assumption 19). -/
def State.servesBox (b : Fin 4) (s : State) : Bool := s.joined && b.val < s.config.boxes

/-- An operator lane is served: the station has joined and the lane is fitted (R205; DEDUCED, assumption 19). -/
def State.servesLane (l : Fin 2) (s : State) : Bool := s.joined && l.val < s.config.lanes

/-- A tick of a call box port's store: its earpiece gets the played audio with the tone added, when the port is served
(DEDUCED, assumption 19). -/
def State.tickBox (b : Fin 4) (s : State) : State :=
  s.modBoxAudio b fun a =>
    let r := a.store.tick
    { a with
      store := r.2
      playoutTimer := s.startTimer 20
      out := if s.servesBox b then some (s.playout.tones[b].mix b s.now r.1) else a.out }

/-- A tick of a lane's store: the operator audio lane gets the played audio, when the lane is served
(DEDUCED, assumption 19). -/
def State.tickLane (l : Fin 2) (s : State) : State :=
  s.modLaneAudio l fun a =>
    let r := a.store.tick
    { a with
      store := r.2
      playoutTimer := s.startTimer 20
      out := if s.servesLane l then some r.1 else a.out }

/-- PLAYOUT_TICK (R97). -/
def execPlayoutTick (st : StoreId) (s : State) : Result :=
  .next
    (match st with
    | .box b => s.onTimer s.playout.boxes[b].playoutTimer fun s => s.tickBox b
    | .lane l => s.onTimer s.playout.lanes[l].playoutTimer fun s => s.tickLane l)

/-- The length of a PROGRESS phase (R101). -/
def progressLength (on halfRate : Bool) : Nat := (if on then 400 else 200) * (if halfRate then 2 else 1)

/-- The call has been OFFERING for 60 s (R101; DEDUCED, assumption 17). -/
def State.offeredMinute (b : Fin 4) (s : State) : Bool :=
  match s.calls[b].offeringSince with
  | none => false
  | some since => since + 60000 ≤ s.now

/-- The tone generator at the end of a phase (R100 to R102). -/
def State.phaseEnds (b : Fin 4) (s : State) (t : Tone) : Tone :=
  match t.cadence with
  | .none => { t with phaseTimer := none }
  | .answered => silentTone
  | .cleared => { t with on := !t.on, phaseTimer := s.startTimer 1000 }
  | .progress =>
    let half := t.halfRate || s.offeredMinute b
    { t with on := !t.on, halfRate := half, phaseTimer := s.startTimer (progressLength (!t.on) half) }

/-- CADENCE_PHASE_END (R100 to R102). -/
def execCadencePhaseEnd (b : Fin 4) (s : State) : Result :=
  .next (s.onTimer s.playout.tones[b].phaseTimer fun s => s.modTone b (s.phaseEnds b))

end Sys2Proof.Machine
end

