-- ==== Sys2Proof/Machine/Calls.lean ====
section
/-! DEFINITION. Emergency calls (chapter 4): call records, the offer list, operator lanes, and the meanings of the call unit's
events and commands. -/

namespace Sys2Proof.Machine

open Sys2Proof

/-! ### Records and marks (R63, R76, R84) -/

/-- The calls-changed mark is set (R84). -/
def State.markCalls (s : State) : State := s.modCallUnit fun u => { u with callsChanged := true }

/-- The offer list changes, which sets the offers-changed mark (R75, R84). -/
def State.setOffers (offers : List Offer) (s : State) : State :=
  s.modCallUnit fun u => { u with offers := offers, offersChanged := true }

/-- A call record changes. A change of its state or partner sets the calls-changed mark (R84); a change of its state is
told to the playout unit (R94, R100), and a deferred first INCIDENT is withdrawn from a call that is IDLE or CLEARED
(R40). -/
def State.putCall (b : Fin 4) (r : CallRecord) (s : State) : State :=
  let old := s.calls[b]
  if r.state = old.state then
    let t := s.modCall b fun _ => r
    if r.partner = old.partner then t else t.markCalls
  else
    let t := (s.modCall b fun _ => { r with changedAt := s.now }).markCalls.playCallChange b old.state r.state
    if r.state = .idle ∨ r.state = .cleared then t.withdraw (.firstIncident b) else t

/-- A lane record changes (R76): every change of state or outcome sets the calls-changed mark and empties the lane's
jitter store, and a deferred TAKE is withdrawn from a lane that is IDLE or LOST (R40). -/
def State.putLane (l : Fin 2) (r : OpLane) (s : State) : State :=
  let old := s.callUnit.lanes[l]
  let r := if r.state = old.state then r else { r with changedAt := s.now }
  let t := s.modCallUnit fun u => { u with lanes := u.lanes.set l r }
  if r.state = old.state ∧ r.outcome = old.outcome then t
  else
    let t := t.markCalls.playLaneChange l old.state r.state
    if r.state = .idle ∨ r.state = .lost then t.withdraw (.take l) else t

/-- The lane goes to IDLE (R76). -/
def State.laneToIdle (l : Fin 2) (outcome : LaneOutcome) (s : State) : State :=
  s.putLane l { resetLane with outcome := outcome, changedAt := s.callUnit.lanes[l].changedAt }

/-- The lane goes to LOST, holding its call for the operator to see (R82). -/
def State.laneToLost (l : Fin 2) (outcome : LaneOutcome) (s : State) : State :=
  let r := s.callUnit.lanes[l]
  s.putLane l { r with state := .lost, takeSends := none, takeTimer := none, silenceTimer := none, outcome := outcome }

/-- The fitted call box port of a call (R63). -/
def State.boxFitted (b : Fin 4) (s : State) : Bool := b.val < s.config.boxes

/-- The call of this port is current and carries this id (R64). -/
def State.isCurrent (callId : Byte) (s : State) (b : Fin 4) : Bool :=
  s.calls[b].state != .idle && s.calls[b].callId == some callId

/-- The port of the current call with an id (R64). -/
def State.currentCall (callId : Byte) (s : State) : Option (Fin 4) := boxIndices.find? fun b => s.isCurrent callId b

/-- The lane's call is this one. -/
def OpLane.hasCall (r : OpLane) (origin : Nat) (callId : Byte) : Bool :=
  match r.call with
  | none => false
  | some c => c.origin == origin && c.callId == callId

/-! ### Call box calls (R65 to R72) -/

/-- An OFFER is built and offered for a call whose circuit is held; the offer count goes up and the offer timer starts at
5 s (R67). -/
def State.sendOffer (b : Fin 4) (c : Fin 16) (s : State) : State :=
  let r := s.calls[b]
  let count := min 255 (r.offerCount.getD 0 + 1)
  let t := s.modCall b fun r => { r with offerCount := some count, offerTimer := s.startTimer 5000 }
  t.send (t.broadcast63 .offer (OfferFields.payload ⟨r.callId.getD 0, b, c, count⟩))

/-- An OFFER if the call's circuit is HELD_OWN; else the offer timer is left stopped (R67). -/
def State.offerIfHeld (b : Fin 4) (s : State) : State :=
  match s.heldCircuit b with
  | some c => s.sendOffer b c
  | none => s.modCall b fun r => { r with offerTimer := none }

/-- The call enters OFFERING (R67, R70): offering since is now, its partner is gone, and an OFFER follows. -/
def State.enterOffering (b : Fin 4) (s : State) : State :=
  (s.putCall b
    { s.calls[b] with
      state := .offering, partner := none, silenceTimer := none, offeringSince := some s.now, offerTimer := none })
    |>.offerIfHeld b

/-- The circuit unit tells the call unit that a call's circuit is held (R67). -/
def State.circuitHeld (b : Fin 4) (s : State) : State :=
  match s.calls[b].state with
  | .seizing => s.enterOffering b
  | .offering => if s.calls[b].offerTimer.isNone then s.offerIfHeld b else s
  | _ => s

/-- CLAIM_TIMER_EXPIRY (R48): the entry becomes HELD_OWN and the call unit is told. -/
def State.claimStands (c : Fin 16) (b : Fin 4) (s : State) : State :=
  ((s.modCircuit c fun _ => .heldOwn b (s.startTimer 1000) none).modClaim b fun _ => resetClaim).circuitHeld b

def execClaimTimerExpiry (c : Fin 16) (s : State) : Result :=
  .next
    (match s.circuits[c] with
    | .claiming b t => s.onTimer t fun s => s.claimStands c b
    | _ => s)

/-- The INCIDENT frame of a call (R65). -/
def State.incidentFrame (callId : Byte) (b : Fin 4) (s : State) : Frame :=
  s.newFrame .incident 0 s.config.incidentReach (incidentPayload callId b)

/-- The call begins (R65): it takes the next call id and enters SEIZING; its INCIDENT is offered, the incident table gets
its notice, and the circuit unit is asked for a circuit. -/
def State.beginCall (b : Fin 4) (s : State) : State :=
  let callId := s.callUnit.nextCallId
  let t := s.modCallUnit fun u => { u with nextCallId := u.nextCallId + 1 }
  let t :=
    t.putCall b
      { s.calls[b] with
        state := .seizing, callId := some callId, circuit := none, partner := none, offerCount := none,
        offeringSince := none, offerTimer := none, incidentTimer := s.startTimer 10000, silenceTimer := none }
  let t := t.sendOneOff (.firstIncident b) (t.incidentFrame callId b)
  (t.ownNotice callId b).wantCircuit b

/-- A call begins at a fitted port whose record is IDLE and whose handset is off-hook (R65). -/
def State.beginIfOffHook (b : Fin 4) (s : State) : State :=
  if s.joined && s.boxFitted b && s.calls[b].offHook && s.calls[b].state == .idle then s.beginCall b else s

/-- Calls begin at every such port, in ascending index (R65). -/
def State.beginCalls (s : State) : State := boxIndices.foldl (fun s b => s.beginIfOffHook b) s

/-- A HANGUP from the call box toward the partner's lane (R72). -/
def State.hangupPartner (b : Fin 4) (s : State) : State :=
  let r := s.calls[b]
  match r.state, r.partner with
  | .connected, some p =>
    s.sendOneOff .plain (s.newFrame .hangup p.station 63 (hangupPayload (r.callId.getD 0) true))
  | _, _ => s

/-- The call ends (R72): a CONNECTED one hangs up on its partner, its circuit is released, and its record becomes IDLE. The
frames are offered before a deferred first INCIDENT is withdrawn (DESIGN CHOICE, assumption 48). -/
def State.endCall (b : Fin 4) (s : State) : State :=
  let t := (s.hangupPartner b).releaseCall b
  t.putCall b
    { t.calls[b] with
      state := .idle, circuit := none, partner := none, offerCount := none, offeringSince := none, offerTimer := none,
      incidentTimer := none, silenceTimer := none }

/-- The hook level follows the filtered input of a port that is read: any port in STARTING, a fitted one in JOINED (R63;
DESIGN CHOICE, assumption 35). -/
def State.hookRead (b : Fin 4) (s : State) : Bool := !s.joined || s.boxFitted b

/-- HOOK_OFF_HOOK (R63, R65). -/
def execHookOffHook (b : Fin 4) (s : State) : Result :=
  .next
    (if s.hookRead b then
      let t := s.modCall b fun r => { r with offHook := true }
      t.unlessHeld fun t => t.withImages fun t => t.beginIfOffHook b
    else s)

/-- HOOK_ON_HOOK (R63, R72). -/
def execHookOnHook (b : Fin 4) (s : State) : Result :=
  .next
    (if s.hookRead b then
      let t := s.modCall b fun r => { r with offHook := false }
      t.unlessHeld fun t => if t.joined = true ∧ t.calls[b].state ≠ .idle then t.endCall b else t
    else s)

/-- OFFER_TIMER_EXPIRY (R67): an OFFER while the circuit is held, else the timer is left stopped. -/
def execOfferTimerExpiry (b : Fin 4) (s : State) : Result :=
  .next (s.onTimer s.calls[b].offerTimer fun s => s.offerIfHeld b)

/-- INCIDENT_REFRESH_TIMER_EXPIRY (R66). -/
def State.refreshIncident (b : Fin 4) (s : State) : State :=
  let callId := s.calls[b].callId.getD 0
  let t := s.modCall b fun r => { r with incidentTimer := s.startTimer 10000 }
  (t.send (t.incidentFrame callId b)).ownNotice callId b

def execIncidentRefreshTimerExpiry (b : Fin 4) (s : State) : Result :=
  .next (s.onSignTimer s.calls[b].incidentTimer fun s => s.refreshIncident b)

/-- A CONNECTED call loses its partner and returns to OFFERING, keeping its circuit (R70). -/
def State.losePartner (b : Fin 4) (s : State) : State :=
  if s.calls[b].state = .connected then s.enterOffering b else s

/-- PARTNER_SILENCE_TIMER_EXPIRY (R70). -/
def execPartnerSilenceTimerExpiry (b : Fin 4) (s : State) : Result :=
  .next (s.onTimer s.calls[b].silenceTimer fun s => s.losePartner b)

/-- A REFUSE is steered to an answering station (R68). -/
def State.sendRefuse (station : Nat) (callId : Byte) (ended : Bool) (s : State) : State :=
  s.sendOneOff .plain (s.newFrame .refuse station 63 (refusePayload callId ended))

/-- The call enters CONNECTED (R69). -/
def State.connect (b : Fin 4) (partner : Partner) (s : State) : State :=
  s.putCall b
    { s.calls[b] with
      state := .connected, partner := some partner, offerTimer := none, offeringSince := none,
      silenceTimer := s.startTimer 2000 }

/-- A taken TAKE (R68). -/
def State.takeTake (p : Side) (origin : Nat) (callId : Byte) (lane : Fin 2) (s : State) : State :=
  match s.currentCall callId with
  | none => s.sendRefuse origin callId true
  | some b =>
    match s.calls[b].state with
    | .offering => s.connect b ⟨origin, lane, p⟩
    | .connected =>
      if s.calls[b].partner.elim false fun q => q.station == origin then s else s.sendRefuse origin callId false
    | .cleared => s.sendRefuse origin callId true
    | _ => s

/-- A HANGUP toward the call box (R71): the current call it names is CLEARED when it is CONNECTED with the sender
(DEDUCED, assumption 34). The RELEASE is offered before a deferred first INCIDENT is withdrawn: R40 and R71 give no order
(DESIGN CHOICE, assumption 48). -/
def State.takeHangupToBox (origin : Nat) (callId : Byte) (s : State) : State :=
  match s.currentCall callId with
  | none => s
  | some b =>
    if s.calls[b].state = .connected ∧ (s.calls[b].partner.elim false fun q => q.station == origin) = true then
      let t := s.releaseCall b
      t.putCall b
        { t.calls[b] with
          state := .cleared, partner := none, offerTimer := none, incidentTimer := none, silenceTimer := none }
    else s

/-! ### The offer list (R73 to R75) -/

/-- The entry has this key (R73). -/
def Offer.hasKey (o : Offer) (origin : Nat) (callId : Byte) : Bool := o.origin == origin && o.callId == callId

/-- The entry with the oldest last heard, the one nearer the front among equals (R74). -/
def oldestOffer : List Offer → Option Offer
  | [] => none
  | o :: os =>
    match oldestOffer os with
    | none => some o
    | some p => if p.lastHeard < o.lastHeard then some p else some o

/-- A TAKE of a lane is steered to its call's origin (R77, R78, R80). -/
def State.sendTake (l : Fin 2) (origin : Nat) (callId : Byte) (s : State) : State :=
  s.sendOneOff (.take l) (s.newFrame .take origin 63 (takePayload callId l))

/-- A taken OFFER (R74, R80). -/
def State.takeOffer (p : Side) (origin : Nat) (o : OfferFields) (s : State) : State :=
  let offers := s.callUnit.offers
  let lane (st : LaneState) : Option (Fin 2) := laneIndices.find? fun l =>
    s.callUnit.lanes[l].state == st && s.callUnit.lanes[l].hasCall origin o.callId
  if offers.any fun x => x.hasKey origin o.callId then
    s.setOffers (offers.map fun x =>
      if x.hasKey origin o.callId then
        { x with circuit := o.circuit, count := o.count, port := p, lastHeard := s.now }
      else x)
  else if (lane .taking).isSome then s
  else
    match lane .talking with
    | some l => s.sendTake l origin o.callId
    | none =>
      let room :=
        if offers.length < 16 then offers
        else match oldestOffer offers with | none => offers | some v => offers.erase v
      s.setOffers (room ++ [⟨origin, o.callId, o.box, o.circuit, o.count, p, s.now, s.now⟩])

/-- An entry leaves the offer list, if it is listed (R75). -/
def State.removeOffer (origin : Nat) (callId : Byte) (s : State) : State :=
  if s.callUnit.offers.any fun o => o.hasKey origin callId then
    s.setOffers (s.callUnit.offers.filter fun o => !o.hasKey origin callId)
  else s

/-- OFFER_ENTRY_AGE_OUT (R75): 12 s from last heard. -/
def execOfferEntryAgeOut (origin : Nat) (callId : Byte) (s : State) : Result :=
  .next
    (s.onTimer ((s.callUnit.offers.find? fun o => o.hasKey origin callId).map fun o => o.lastHeard + 12000) fun s =>
      s.removeOffer origin callId)

/-! ### Operator lanes (R77 to R82) -/

/-- The lane is fitted (R76). -/
def State.laneFitted (l : Fin 2) (s : State) : Bool := l.val < s.config.lanes

/-- TAKE_CALL (R77). -/
def takeCallBody (args : List Word) (s : State) : ResponseCode × Answer × State :=
  match parseTakeCall args with
  | none => (.badArgument, .none, s)
  | some (origin, callId, l) =>
    if s.laneFitted l = false then (.badArgument, .none, s)
    else if s.callUnit.lanes[l].state ≠ .idle then (.busy, .none, s)
    else
      match s.callUnit.offers.find? fun o => o.hasKey origin callId with
      | none => (.notFound, .none, s)
      | some o =>
        let t := (s.removeOffer origin callId).markCalls
        let t :=
          t.putLane l
            { t.callUnit.lanes[l] with
              state := .taking, call := some ⟨origin, callId, o.circuit, o.port⟩, takeSends := some 1,
              takeTimer := s.startTimer 2000, silenceTimer := none, outcome := .none }
        (.ok, .none, t.sendTake l origin callId)

def execTakeCall (args : List Word) (s : State) : Result := .next (s.command .takeCall args (takeCallBody args))

/-- TAKE_TIMER_EXPIRY (R78): the TAKE again, or LOST after three sends. -/
def State.takeTimerEnds (l : Fin 2) (s : State) : State :=
  let r := s.callUnit.lanes[l]
  match r.call with
  | none => s
  | some c =>
    let sends := r.takeSends.getD 0
    if sends < 3 then
      (s.putLane l { r with takeSends := some (sends + 1), takeTimer := s.startTimer 2000 }).sendTake l c.origin c.callId
    else s.laneToLost l .noAnswer

def execTakeTimerExpiry (l : Fin 2) (s : State) : Result :=
  .next (s.onTimer s.callUnit.lanes[l].takeTimer fun s => s.takeTimerEnds l)

/-- LANE_SILENCE_TIMER_EXPIRY (R79). -/
def execLaneSilenceTimerExpiry (l : Fin 2) (s : State) : Result :=
  .next (s.onTimer s.callUnit.lanes[l].silenceTimer fun s => s.laneToLost l .silence)

/-- A HANGUP from a lane toward its call box (R82, R88). -/
def State.hangupCaller (l : Fin 2) (s : State) : State :=
  let r := s.callUnit.lanes[l]
  match r.call with
  | none => s
  | some c =>
    if r.state = .taking ∨ r.state = .talking then
      s.sendOneOff .plain (s.newFrame .hangup c.origin 63 (hangupPayload c.callId false))
    else s

/-- END_CALL (R82). The HANGUP is offered before a deferred TAKE is withdrawn (DESIGN CHOICE, assumption 48). -/
def endCallBody (args : List Word) (s : State) : ResponseCode × Answer × State :=
  match args with
  | [w] =>
    match parseFin 2 w.toNat with
    | none => (.badArgument, .none, s)
    | some l =>
      if s.laneFitted l = false then (.badArgument, .none, s)
      else if s.callUnit.lanes[l].state = .idle then (.ok, .none, s.markCalls)
      else (.ok, .none, ((s.hangupCaller l).laneToIdle l .operatorEnded).markCalls)
  | _ => (.badArgument, .none, s)

def execEndCall (args : List Word) (s : State) : Result := .next (s.command .endCall args (endCallBody args))

/-- A REFUSE at one lane: TAKING and TALKING lanes of the call return to IDLE (R78, R79). -/
def State.refuseLane (origin : Nat) (callId : Byte) (ended : Bool) (s : State) (l : Fin 2) : State :=
  let r := s.callUnit.lanes[l]
  if (r.state = .taking ∨ r.state = .talking) ∧ r.hasCall origin callId = true then
    s.laneToIdle l (if ended then .ended else .takenElsewhere)
  else s

/-- A HANGUP toward the lane at one lane: TAKING, TALKING and LOST lanes of the call return to IDLE (R78, R79, R82). -/
def State.hangupLane (origin : Nat) (callId : Byte) (s : State) (l : Fin 2) : State :=
  let r := s.callUnit.lanes[l]
  if r.state ≠ .idle ∧ r.hasCall origin callId = true then s.laneToIdle l .callerHungUp else s

/-- A taken HANGUP, by its direction (R71, R75). -/
def State.takeHangup (origin : Nat) (callId : Byte) (towardLane : Bool) (s : State) : State :=
  if towardLane then
    laneIndices.foldl (fun s l => s.hangupLane origin callId l) (s.removeOffer origin callId)
  else s.takeHangupToBox origin callId

/-! ### Voice (R70, R78, R79, R81, R93) -/

/-- A block toward the call box at one port (R70): of its partner and call, it restarts the silence timer and is handed to
the store. -/
def State.voiceAtBox (origin : Nat) (v : Voice) (s : State) (b : Fin 4) : State :=
  let r := s.calls[b]
  if r.state = .connected ∧ (r.partner.elim false fun q => q.station == origin) = true ∧ r.callId = some v.callId then
    (s.modCall b fun r => { r with silenceTimer := s.startTimer 2000 }).modBoxAudio b fun a =>
      { a with store := a.store.arrive ⟨v.sequence, v.samples⟩ }
  else s

/-- A block from the call box at one lane (R78, R79, R81): a TAKING lane of the call enters TALKING, the lane follows the
block's circuit and port, and the block is handed to the store that the change has emptied. -/
def State.voiceAtLane (p : Side) (origin : Nat) (v : Voice) (s : State) (l : Fin 2) : State :=
  let r := s.callUnit.lanes[l]
  if (r.state = .taking ∨ r.state = .talking) ∧ r.hasCall origin v.callId = true then
    (s.putLane l
      { r with
        state := .talking, call := some ⟨origin, v.callId, v.circuit, p⟩, takeSends := none, takeTimer := none,
        silenceTimer := s.startTimer 2000 }).modLaneAudio l fun a =>
      { a with store := a.store.arrive ⟨v.sequence, v.samples⟩ }
  else s

/-- A taken VOICE block (R93). -/
def State.takeVoice (p : Side) (origin : Nat) (v : Voice) (s : State) : State :=
  if v.toward then boxIndices.foldl (fun s b => s.voiceAtBox origin v b) s
  else laneIndices.foldl (fun s l => s.voiceAtLane p origin v l) s

/-! ### Losses by the line (R21, R22) -/

/-- The station map has removed a station (R22): calls lose it as partner (R70), TALKING lanes lose its calls (R79). -/
def State.stationGone (station : Nat) (s : State) : State :=
  let t :=
    boxIndices.foldl
      (fun (s : State) (b : Fin 4) => if s.calls[b].partner.elim false fun q => q.station == station then s.losePartner b else s) s
  laneIndices.foldl
    (fun (s : State) (l : Fin 2) =>
      let r := s.callUnit.lanes[l]
      if r.state = .talking ∧ (r.call.elim false fun c => c.origin == station) = true then s.laneToLost l .routeLost
      else s) t

/-- A port has entered DOWN (R21): calls whose partner port it is return to OFFERING (R70), TAKING and TALKING lanes reached
through it are LOST (R78, R79), and offers that arrived by it leave the list (R75). -/
def State.portGone (p : Side) (s : State) : State :=
  let t :=
    boxIndices.foldl
      (fun (s : State) (b : Fin 4) => if s.calls[b].partner.elim false fun q => q.port == p then s.losePartner b else s) s
  let t :=
    laneIndices.foldl
      (fun (s : State) (l : Fin 2) =>
        let r := s.callUnit.lanes[l]
        if (r.state = .taking ∨ r.state = .talking) ∧ (r.call.elim false fun c => c.port == p) = true then
          s.laneToLost l .routeLost
        else s) t
  if t.callUnit.offers.any fun o => o.port == p then t.setOffers (t.callUnit.offers.filter fun o => o.port != p) else t

/-! ### Reading the calls (R85, R86) -/

/-- The time since a moment, in seconds, rounded down and saturating at 65535 (R85; DESIGN CHOICE, assumption 43). -/
def State.secondsSince (at' : Nat) (s : State) : Nat := min 65535 ((s.now - at') / 1000)

/-- A call box entry of READ_CALLS (R85). -/
def State.callReport (b : Fin 4) (s : State) : CallReport :=
  let r := s.calls[b]
  ⟨b, r.offHook, r.state, r.callId, r.circuit, r.partner.map fun p => (p.station, p.lane), r.offerCount.getD 0,
    s.secondsSince r.changedAt⟩

/-- A lane entry of READ_CALLS (R85). -/
def State.laneReport (l : Fin 2) (s : State) : LaneReport :=
  let r := s.callUnit.lanes[l]
  ⟨l, r.state, r.call, r.takeSends.getD 0, r.outcome, s.secondsSince r.changedAt⟩

/-- The fitted operator lanes (R76). -/
def State.fittedLanes (s : State) : List (Fin 2) := laneIndices.filter fun l => s.laneFitted l

/-- READ_CALLS (R85): clears the calls-changed mark. -/
def execReadCalls (args : List Word) (s : State) : Result :=
  .next
    (s.command .readCalls args fun s =>
      (.ok, .calls (s.fittedBoxes.map fun b => s.callReport b) (s.fittedLanes.map fun l => s.laneReport l),
        s.modCallUnit fun u => { u with callsChanged := false }))

/-- READ_OFFERS (R86): clears the offers-changed mark. The time since last heard is rounded down (DESIGN CHOICE,
assumption 43). -/
def execReadOffers (args : List Word) (s : State) : Result :=
  .next
    (s.command .readOffers args fun s =>
      (.ok,
        .offers
          (s.callUnit.offers.map fun o =>
            ⟨o.origin, o.callId, o.box, o.circuit, o.count, o.port, s.secondsSince o.firstHeard,
              min 120 ((s.now - o.lastHeard) / 100)⟩),
        s.modCallUnit fun u => { u with offersChanged := false }))

end Sys2Proof.Machine
end

