-- ==== Sys2Proof/Machine/Counts.lean ====
section
/-! DEFINITION. Lane counts and epochs (chapter 10) beside the toll store's admissions and own-sink delivery (R166, R168, R176),
which reports and records share, and the meanings of the count unit's commands. -/

namespace Sys2Proof.Machine

open Sys2Proof

/-! ### The toll store's entries (R166 to R168) -/

/-- The content is a REPORT. -/
def TollContent.isReport : TollContent → Bool
  | .record _ => false
  | .report _ => true

/-- An entry is admitted at the tail with the next sequence, QUEUED and never sent (R166, R168). -/
def State.enterToll (content : TollContent) (s : State) : State :=
  s.modToll fun t =>
    { t with
      store := t.store ++ [{ sequence := t.counter, sent := false, sendCount := 0, content := content }]
      counter := t.counter + 1 }

/-- The number of entries of type RECORD. -/
def Toll.records (t : Toll) : Nat := (t.store.filter fun e => !e.content.isReport).length

/-- The REPORT entry of a store, if it holds one. -/
def reportIn : List TollEntry → Option (TollEntry × Report)
  | [] => none
  | e :: es => match e.content with | .report r => some (e, r) | .record _ => reportIn es

/-- The notice that the report has left the store admits the held snapshot, if present, as the new report (R191). -/
def State.reportRemoved (s : State) : State :=
  match s.counts.held with
  | none => s
  | some r => (s.modCounts fun c => { c with held := none }).enterToll (.report r)

/-! ### Own-sink delivery (R176) -/

/-- The oldest entry of the store goes to the delivery queue, which counts as its acknowledgement. -/
def State.deliverOwn (e : TollEntry) (rest : List TollEntry) (s : State) : State :=
  let t := s.modToll fun t =>
    { t with store := rest, delivery := t.delivery ++ [⟨s.number, e.sequence, e.content⟩] }
  if e.content.isReport then t.reportRemoved else t

/-- At most `n` own deliveries: the waiting entries go oldest first while the queue holds fewer than 64
(DEDUCED, assumption 28). -/
def ownDeliveryGo : Nat → State → State
  | 0, s => s
  | n + 1, s =>
    match s.toll.store with
    | [] => s
    | e :: rest => if s.toll.delivery.length < 64 then ownDeliveryGo n (s.deliverOwn e rest) else s

/-- Own-sink delivery. Each delivery fills one of the queue's 64 places, so 64 rounds are all there can be. -/
def State.ownDelivery (s : State) : State := ownDeliveryGo 64 s

/-- What follows an admission: own-sink delivery at a toll sink, a try of sending elsewhere (R166). -/
def State.afterEntry (s : State) : State := if s.config.sink then s.ownDelivery else s.tollTry

/-! ### Live counters and snapshots (R185, R187, R189, R190) -/

/-- A lane's counters after one more vehicle (R185). -/
def LaneCount.add (l : LaneCount) (c : Fin 5) (amount : Nat) : LaneCount :=
  { classes := l.classes.set c (min 65535 (l.classes[c] + 1))
    sum := min 4294967295 (l.sum + amount)
    saturated := l.saturated || 65535 < l.classes[c] + 1 || 4294967295 < l.sum + amount }

/-- The record admitted under a sequence is counted (R185), and its sequence is the last record's (R187). -/
def State.countRecord (sequence : Word) (r : TollRecord) (s : State) : State :=
  s.modCounts fun c =>
    { c with
      lanes := c.lanes.set r.lane (c.lanes[r.lane].add r.vehicleClass r.amount)
      lastRecord := some sequence }

/-- The snapshot that mark `e` takes (R187). -/
def Counts.snapshot (c : Counts) (e : Word) : Report :=
  { firstEpoch := c.epoch, lastEpoch := e, lastSequence := c.lastRecord, lanes := c.lanes }

/-- A later lane set merged into an earlier one (R190): the flag is set when an addition reached its top value
(DEDUCED, assumption 29). -/
def LaneCount.merge (a b : LaneCount) : LaneCount :=
  { classes := Vector.ofFn fun i : Fin 5 => min 65535 (a.classes[i] + b.classes[i])
    sum := min 4294967295 (a.sum + b.sum)
    saturated := a.saturated || b.saturated || (List.range 5).any (fun i => 65535 ≤ a.classes.toList.getD i 0 + b.classes.toList.getD i 0) ||
      4294967295 ≤ a.sum + b.sum }

/-- A later snapshot merged into an earlier one (R190). -/
def Report.merge (a b : Report) : Report :=
  { firstEpoch := a.firstEpoch
    lastEpoch := b.lastEpoch
    lastSequence := match b.lastSequence with | some q => some q | none => a.lastSequence
    lanes := Vector.ofFn fun i : Fin 8 => a.lanes[i].merge b.lanes[i] }

/-- A snapshot goes to the toll store or to the held snapshot (R189). -/
def State.placeReport (r : Report) (s : State) : State :=
  match reportIn s.toll.store with
  | none => (s.enterToll (.report r)).afterEntry
  | some (e, old) =>
    if e.sendCount = 0 then
      s.modToll fun t => t.modEntry e.sequence fun x => { x with content := .report (old.merge r) }
    else
      s.modCounts fun c => { c with held := some (match c.held with | none => r | some h => h.merge r) }

/-- A newer mark (R187): snapshot, zeroing, the new epoch, and the snapshot's place, in this order. -/
def State.applyMark (e : Word) (s : State) : State :=
  (s.modCounts fun c => { c with lanes := Vector.replicate 8 zeroLane, epoch := some e }).placeReport
    (s.counts.snapshot e)

/-- The mark is newer than the current epoch (R186). -/
def Counts.isNewer (c : Counts) (e : Word) : Bool := match c.epoch with | none => true | some x => newer e x

/-- A taken EPOCH (R186). -/
def State.takeEpoch (e : Word) (s : State) : State := if s.counts.isNewer e then s.applyMark e else s

/-- ISSUE_EPOCH (R188). -/
def issueEpochBody (args : List Word) (s : State) : ResponseCode × Answer × State :=
  match args with
  | [seed] =>
    let e := s.counts.epoch.elim seed (· + 1)
    let t := s.applyMark e
    (.ok, .epoch e, t.sendOneOff .plain (t.broadcast63 .epoch (wordBytes e)))
  | _ => (.badArgument, .none, s)

def execIssueEpoch (args : List Word) (s : State) : Result := .next (s.command .issueEpoch args (issueEpochBody args))

/-- READ_COUNTERS (R193). -/
def execReadCounters (args : List Word) (s : State) : Result :=
  .next
    (s.command .readCounters args fun s =>
      (.ok,
        .counters
          { epoch := s.counts.epoch
            lanes := s.counts.lanes
            report := (reportIn s.toll.store).map fun x =>
              ⟨x.1.sequence, x.1.sent, x.1.sendCount, x.2.firstEpoch, x.2.lastEpoch, x.2.lastSequence⟩
            held := s.counts.held.map fun r => (r.firstEpoch, r.lastEpoch, r.lastSequence) }, s))

end Sys2Proof.Machine
end

