-- ==== Sys2Proof/Machine/Toll.lean ====
section
/-! DEFINITION. The toll unit (chapter 9): the sink choice, resends, acknowledgements, what a toll sink does with TOLL frames,
and the meanings of the toll unit's events and commands. -/

namespace Sys2Proof.Machine

open Sys2Proof

/-! ### Choosing the sink (R169, R170) -/

/-- The sink entry of a side that is eligible (R169). -/
def State.eligible (d : Side) (s : State) : Option RoleEntry :=
  if (s.ports.get d).isUp then (s.reach.get d).sink else none

/-- The best eligible side's sink (R169): an UP port before a DEGRADED one, then fewer hops, then East. -/
def State.chooseSink (s : State) : SinkChoice :=
  match s.eligible .east, s.eligible .west with
  | none, none => .none
  | some e, none => .via .east e.station
  | none, some w => .via .west w.station
  | some e, some w =>
    let eastUp := s.ports.east.state == .up
    let westUp := s.ports.west.state == .up
    if eastUp && !westUp then .via .east e.station
    else if westUp && !eastUp then .via .west w.station
    else if w.hops < e.hops then .via .west w.station
    else .via .east e.station

/-- A chosen sink is kept (R170). -/
def State.keepsSink (d : Side) (station : Nat) (s : State) : Bool :=
  match s.eligible d with
  | none => false
  | some e =>
    e.station == station &&
      !((s.ports.get d).state == .degraded && (s.eligible d.other).isSome && (s.ports.get d.other).state == .up)

/-- The sink after a review (R170). -/
def State.reviewedSink (s : State) : SinkChoice :=
  match s.toll.sink with
  | .own => .own
  | .none => s.chooseSink
  | .via d station => if s.keepsSink d station then .via d station else s.chooseSink

/-- The sink becomes another: SENT entries return to QUEUED, the resend timer stops, and sending is tried (R170). -/
def State.changeSink (sink : SinkChoice) (s : State) : State :=
  (s.modToll fun t =>
    { t with sink := sink, store := t.store.map fun e => { e with sent := false }, resendTimer := none }).tollTry

/-- A JOINED station without the sink role reviews its sink (R170). -/
def State.reviewSink (s : State) : State :=
  if s.joined && !s.config.sink then
    if s.reviewedSink = s.toll.sink then s else s.changeSink s.reviewedSink
  else s

/-- The choice made at JOIN (R169). -/
def State.joinSink (s : State) : State := s.changeSink (if s.config.sink then .own else s.chooseSink)

/-! ### Resends and acknowledgements (R173, R174) -/

/-- The SENT entries are offered again, oldest first; at the first "not sent" it and the newer ones return to QUEUED. -/
def resendGo (d : Side) (sink : Nat) : List TollEntry → State → State × List Take
  | [], s => (s, [])
  | e :: es, s =>
    let o := s.offerToll d sink e
    if o.sent then
      let r := resendGo d sink es o.state
      (r.1, o.takes ++ r.2)
    else
      (o.state.modToll fun t =>
        { t with
          store := t.store.map fun x =>
            if (e :: es).any fun y => y.sequence == x.sequence then { x with sent := false } else x }, o.takes)

/-- The resend timer stops when no entry is SENT (R173). -/
def State.stopIfNoneSent (s : State) : State :=
  if s.toll.sentCount = 0 then s.modToll fun t => { t with resendTimer := none } else s

/-- RESEND_TIMER_EXPIRY (R173). -/
def State.resendEnds (s : State) : State :=
  match s.toll.sink with
  | .via d sink =>
    let r := resendGo d sink (s.toll.store.filter (·.sent)) s
    r.1.stopIfNoneSent.settle r.2
  | _ => s.modToll fun t => { t with resendTimer := none }

def execResendTimerExpiry (s : State) : Result := .next (s.onTimer s.toll.resendTimer fun s => s.resendEnds)

/-- A TOLLACK is acted on: the store holds an entry at or before `n`, and `n` is at or before its newest (R174). -/
def Toll.acknowledges (n : Word) (t : Toll) : Bool :=
  (t.store.any fun e => atOrBefore e.sequence n) && t.store.getLast?.elim false fun e => atOrBefore n e.sequence

/-- Every entry at or before `n` is removed and the fresh flag cleared (R174, R175). -/
def Toll.acknowledged (n : Word) (t : Toll) : Toll :=
  { t with store := t.store.filter fun e => !atOrBefore e.sequence n, fresh := false }

/-- A taken TOLLACK (R174). A toll sink ignores it. -/
def State.takeTollAck (n : Word) (s : State) : State :=
  if s.config.sink = false ∧ s.toll.acknowledges n = true then
    let t := s.modToll fun t => t.acknowledged n
    let t := if s.toll.store.any fun e => atOrBefore e.sequence n && e.content.isReport then t.reportRemoved else t
    let t := t.modToll fun x => { x with resendTimer := if x.sentCount = 0 then none else t.startTimer 2000 }
    t.tollTry
  else s

/-! ### At a toll sink (R177 to R181) -/

/-- The origin table's entry that a TOLL is judged against (R178); `none` is a discarded frame. -/
def originFor (origin : Nat) (f : TollFrame) (entry : Option OriginEntry) : Option OriginEntry :=
  let afresh : OriginEntry := { origin := origin, expected := f.base, deliveredBefore := false, fresh := f.fresh }
  match f.fresh, entry with
  | false, none => if f.sequence = f.base then some afresh else none
  | false, some e => some { e with fresh := false }
  | true, none => if f.sequence = f.base then some afresh else none
  | true, some e =>
    if e.fresh then if f.sequence = f.base ∧ older f.base e.expected = true then some afresh else some e
    else if f.sequence = f.base then some afresh else none

/-- What R179 makes of a judged TOLL: the entry after it, whether it is delivered, and the TOLLACK's sequence. -/
structure Judgement where
  entry : OriginEntry
  delivered : Bool
  ack : Option Word
deriving DecidableEq, Repr

/-- A TOLL judged against its entry, with or without room in the delivery queue (R179). -/
def judgeToll (room : Bool) (f : TollFrame) (entry : OriginEntry) : Judgement :=
  let e := if newer f.base entry.expected then { entry with expected := f.base } else entry
  let upTo : Option Word := if e.deliveredBefore then some (e.expected - 1) else none
  if f.sequence = e.expected then
    if room then ⟨{ e with expected := f.sequence + 1, deliveredBefore := true }, true, some f.sequence⟩
    else ⟨e, false, upTo⟩
  else if older f.sequence e.expected then ⟨e, false, some (e.expected - 1)⟩
  else ⟨e, false, upTo⟩

/-- The origin table with an entry set. -/
def setOrigin (e : OriginEntry) (table : List OriginEntry) : List OriginEntry :=
  if table.any fun x => x.origin == e.origin then table.map fun x => if x.origin = e.origin then e else x
  else table ++ [e]

/-- The origin table's entry for a station. -/
def Toll.originEntry (origin : Nat) (t : Toll) : Option OriginEntry := t.origins.find? fun x => x.origin == origin

/-- A TOLLACK is steered to the sender; answered "not sent" it is discarded (R180). -/
def State.sendTollAck (origin : Nat) (n : Word) (s : State) : State :=
  s.send (s.newFrame .tollAck origin 63 (wordBytes n))

/-- A TOLL taken at a toll sink (R178, R179). -/
def State.takeToll (origin : Nat) (f : TollFrame) (s : State) : State :=
  match originFor origin f (s.toll.originEntry origin) with
  | none => s
  | some e =>
    let j := judgeToll (s.toll.delivery.length < 64) f e
    let t := s.modToll fun t =>
      { t with
        origins := setOrigin j.entry t.origins
        delivery := if j.delivered then t.delivery ++ [⟨origin, f.sequence, f.content⟩] else t.delivery }
    match j.ack with
    | none => t
    | some n => t.sendTollAck origin n

/-- FETCH_DELIVERY (R181). -/
def fetchDeliveryBody (s : State) : ResponseCode × Answer × State :=
  match s.toll.delivery with
  | [] => (.empty, .none, s)
  | e :: es => (.ok, .delivery e es.length, (s.modToll fun t => { t with delivery := es }).ownDelivery)

def execFetchDelivery (args : List Word) (s : State) : Result :=
  .next (s.command .fetchDelivery args fetchDeliveryBody)

/-! ### Submission and reading (R165, R182) -/

/-- An accepted record is admitted, counted, and delivered or sent (R166). -/
def State.submitRecord (r : TollRecord) (s : State) : State :=
  ((s.enterToll (.record r)).countRecord s.toll.counter r).afterEntry

/-- SUBMIT_TOLL (R165; DEDUCED, assumption 20). -/
def submitTollBody (args : List Word) (s : State) : ResponseCode × Answer × State :=
  match parseSubmitToll args with
  | none => (.badArgument, .none, s)
  | some r =>
    if 256 ≤ s.toll.records then (.storeFull, .none, s)
    else
      let t := s.submitRecord r
      let q := s.toll.counter
      (.ok,
        .submittedToll q t.toll.records
          (if s.config.sink then some (t.toll.store.all fun e => e.sequence != q) else none), t)

def execSubmitToll (args : List Word) (s : State) : Result := .next (s.command .submitToll args (submitTollBody args))

/-- The chosen sink as READ_TOLL_STORE gives it (R182). -/
def State.sinkReport (s : State) : SinkReport :=
  match s.toll.sink with
  | .none => .none
  | .own => .own
  | .via d station =>
    .via d station ((s.reach.get d).sink.bind fun e => if e.station = station then some e.hops else none)

/-- READ_TOLL_STORE's answer (R182) when the argument is `n`. The time left on the resend timer is rounded down to tenths
(DESIGN CHOICE, assumption 43). -/
def State.tollReport (n : Nat) (s : State) : TollReport :=
  { nextSequence := s.toll.counter
    records := s.toll.records
    report := (reportIn s.toll.store).map fun x => x.1.sequence
    queued := s.toll.store.length - s.toll.sentCount
    sent := s.toll.sentCount
    base := s.toll.base
    sink := s.sinkReport
    resendTenths := min 20 (s.timeLeft s.toll.resendTimer / 100)
    fresh := s.toll.fresh
    entries := (s.toll.store.take 16).map fun e => ⟨e.sequence, e.content.isReport, e.sent, e.sendCount⟩
    tables :=
      if s.config.sink then
        some ⟨s.toll.delivery.length, s.toll.origins.length, if n = 0 then none else some (s.toll.originEntry n)⟩
      else none }

/-- READ_TOLL_STORE (R182). -/
def readTollStoreBody (args : List Word) (s : State) : ResponseCode × Answer × State :=
  match args with
  | [w] => if w.toNat ≤ 63 then (.ok, .tollStore (s.tollReport w.toNat), s) else (.badArgument, .none, s)
  | _ => (.badArgument, .none, s)

def execReadTollStore (args : List Word) (s : State) : Result :=
  .next (s.command .readTollStore args (readTollStoreBody args))

end Sys2Proof.Machine
end

