-- ==== Sys2Proof/Machine/Line.lean ====
section
/-! DEFINITION. The line (chapter 1) and the transmitters' events (chapter 2): reception, port states, the station map, the reach
view, probes, and the meanings of the line's events and commands. -/

namespace Sys2Proof.Machine

open Sys2Proof

/-! ### Changes handed to the toll unit (R26, R170) -/

/-- What the toll unit is told of the line: both ports' states and both sides' sink entries. -/
def State.lineView (s : State) : PortState × PortState × Option RoleEntry × Option RoleEntry :=
  (s.ports.east.state, s.ports.west.state, s.reach.east.sink, s.reach.west.sink)

/-- The sink is reviewed when port states or sink entries changed (R170; DEDUCED, assumption 12). -/
def State.reviewIfChanged (s before : State) : State := if s.lineView = before.lineView then s else s.reviewSink

/-! ### Port states (R15 to R18) -/

/-- A change of a port's state sets the LINE flag (R27). -/
def State.setPortState (p : Side) (st : PortState) (s : State) : State :=
  if (s.ports.get p).state = st then s
  else { s.modPort p fun x => { x with state := st } with lineFlag := true }

/-- The reception history takes one more outcome; a 33rd pushes out the oldest (R14). -/
def addOutcome (good : Bool) (history : List Bool) : List Bool :=
  (if 32 ≤ history.length then history.drop 1 else history) ++ [good]

/-- The number of failures in a history. -/
def failures (history : List Bool) : Nat := (history.filter fun good => !good).length

/-- The state test of R17. -/
def testedState (st : PortState) (history : List Bool) : PortState :=
  match st with
  | .up => if 4 ≤ failures history then .degraded else .up
  | .degraded => if history.length = 32 ∧ failures history = 0 then .up else .degraded
  | _ => st

/-- An outcome is recorded at a port in UP or DEGRADED and the state test applied (R17). -/
def State.recordOutcome (p : Side) (good : Bool) (s : State) : State :=
  let t := s.modPort p fun x => { x with history := addOutcome good x.history }
  (t.setPortState p (testedState (t.ports.get p).state (t.ports.get p).history)).reviewIfChanged s

/-! ### The station map (R8, R22) -/

/-- The map with an entry set in its place by station number. -/
def setMapEntry (e : MapEntry) : List MapEntry → List MapEntry
  | [] => [e]
  | x :: xs =>
    if e.station < x.station then e :: x :: xs
    else if e.station = x.station then e :: xs
    else x :: setMapEntry e xs

/-- The station map takes a good frame (R8); `f` carries the hops after the increment. -/
def State.learn (p : Side) (f : Frame) (s : State) : State :=
  { s with map := setMapEntry ⟨f.origin, p, f.hops, s.now⟩ s.map }

/-! ### Entering DOWN (R21) -/

/-- The map's entries learned at a port. -/
def State.mapStationsOn (p : Side) (s : State) : List Nat := (s.map.filter fun e => e.port == p).map (·.station)

/-- A port's record on entering DOWN (R18, R35). -/
def Port.toDown (x : Port) : Port :=
  { x with
    state := .down, probes := 0, probeTimer := none, history := [], queues := emptyQueues, sending := none,
    waitCL := 0, waitBL := 0 }

/-- A port in LISTENING, UP or DEGRADED enters DOWN, with the effects of R21 (DESIGN CHOICE, assumption 11). -/
def State.goDown (p : Side) (s : State) : State :=
  let gone := s.mapStationsOn p
  let t := s.modPort p Port.toDown
  let t :=
    { t with
      map := t.map.filter fun e => e.port != p
      reach := t.reach.set p noReach
      lineFlag := true }
  let t := (t.setAdvert p none).portGone p
  (gone.foldl (fun (s : State) (station : Nat) => s.stationGone station) t).reviewIfChanged s

/-- SIGNAL_DETECT_LOST (R18). The input is tracked while pin reset is held as well. -/
def execSignalDetectLost (p : Side) (s : State) : Result :=
  .next
    ((s.modPort p fun x => { x with signal := false }).unlessHeld fun s =>
      if (s.ports.get p).state = .down then s else s.goDown p)

/-- SIGNAL_DETECT_RETURNS (R15): nothing but the input changes until a valid probe arrives. -/
def execSignalDetectReturns (p : Side) (s : State) : Result := .next (s.modPort p fun x => { x with signal := true })

/-- PROBE_TIMER_EXPIRY (R18). -/
def execProbeTimerExpiry (p : Side) (s : State) : Result :=
  .next (s.onTimer (s.ports.get p).probeTimer fun s => s.goDown p)

/-- STATION_MAP_AGE_OUT (R22): 10 s from the last frame of the station. -/
def execStationMapAgeOut (station : Nat) (s : State) : Result :=
  .next
    (s.onTimer ((s.mapEntry station).map fun e => e.heardAt + 10000) fun s =>
      { s with map := s.map.filter fun e => e.station != station }.stationGone station)

/-! ### Probes (R24, R25, R36) -/

/-- The payload of a probe sent on a port now (R24). -/
def State.probeFields (p : Side) (s : State) : ProbeFields :=
  { joined := s.joined
    answering := s.joined && s.config.answering
    sink := s.joined && s.config.sink
    answeringBeyond := (s.reach.get p.other).answering
    sinkBeyond := (s.reach.get p.other).sink }

/-- The probe built for a port now (R36). -/
def State.probeFrame (p : Side) (s : State) : Frame := s.newFrame .probe 0 1 (s.probeFields p).payload

/-- PROBE_SEND_TIMER_EXPIRY (R36): the probe is offered to the port's CL alone, whatever the port's state; refused, it is
discarded. -/
def State.sendProbe (p : Side) (s : State) : State :=
  let o := s.offerQueue p .cl (s.probeFrame p)
  (o.state.modPort p fun x => { x with probeSendTimer := s.startTimer 100 }).settle o.takes

def execProbeSendTimerExpiry (p : Side) (s : State) : Result :=
  .next (s.onTimer (s.ports.get p).probeSendTimer fun s => s.sendProbe p)

/-- A side's entry for one role after a valid probe (R25). -/
def heardRole (origin : Nat) (has : Bool) (beyond : Option RoleEntry) : Option RoleEntry :=
  if has then some ⟨origin, 1⟩
  else
    match beyond with
    | none => none
    | some r => if r.hops + 1 ≤ 63 then some ⟨r.station, r.hops + 1⟩ else none

/-- A side's reach view after a valid probe (R25; DEDUCED, assumption 15). -/
def heardReach (origin : Nat) (x : ProbeFields) : Reach :=
  { answering := heardRole origin (x.joined && x.answering) x.answeringBeyond
    sink := heardRole origin (x.joined && x.sink) x.sinkBeyond }

/-- A port's record after a valid probe (R15, R16, R17); the probe timer restarts at 300 ms. -/
def Port.heardProbe (timer : Timer) (x : Port) : Port :=
  match x.state with
  | .down => { x with state := .listening, probes := 0, history := [], probeTimer := timer }
  | .listening =>
    if 3 ≤ x.probes + 1 then { x with state := .up, probes := 0, history := [], probeTimer := timer }
    else { x with probes := x.probes + 1, probeTimer := timer }
  | _ => { x with probeTimer := timer }

/-- A port has entered UP: the deferred frames of both classes are re-offered, control first (R39). -/
def State.reofferBoth (s : State) : State :=
  let r := s.reoffer .control
  let u := r.1.reoffer .bulk
  u.1.settle (r.2 ++ u.2)

/-- A valid probe is taken (R15, R16, R25). Where it brings the port to UP, the deferred list is re-offered (R39) before the
toll unit reviews its sink and tries sending (R170, R172): both may want the last place of a BL, and the manual gives no
order (DESIGN CHOICE, assumption 41). -/
def State.takeProbe (p : Side) (origin : Nat) (x : ProbeFields) (s : State) : State :=
  let old := (s.ports.get p).state
  let t := s.modPort p fun y => y.heardProbe (s.startTimer 300)
  let t := { t with reach := t.reach.set p (heardReach origin x) }
  let new := (t.ports.get p).state
  let t := if new = old then t else { t with lineFlag := true }
  (if old = .listening ∧ new = .up then t.reofferBoth else t).reviewIfChanged s

/-! ### The relay (R9, R30) -/

/-- A good frame, its hops incremented, is relayed to the other port's transit queue when R9 lets it
(DEDUCED, assumption 37). -/
def State.relay (p : Side) (f : Frame) (s : State) : State :=
  if f.target ≠ s.number ∧ f.hops < f.hopLimit ∧ (s.ports.get p.other).isUp = true then
    let o := s.offerQueue p.other (classOf f.kind).transitQueue f
    if o.sent then o.state.settle o.takes else s.latch .transitDrop
  else s

/-! ### Local taking (R10, R11) -/

/-- A frame's fields reach the taking block when they parse (R11). -/
def State.taking {α : Type} (fields : Option α) (act : α → State → State) (s : State) : State :=
  match fields with
  | none => s
  | some x => act x s

/-- A frame of a kind is taken when its target, the station's state and its roles allow it (R10). -/
def State.takesKind (k : FrameKind) (f : Frame) (s : State) : Bool :=
  let own := f.target == s.number
  let ownOrAll := f.target == 0 || own
  match k with
  | .probe => ownOrAll && f.hops == 1
  | .voice | .take | .refuse | .hangup | .tollAck => s.joined && own
  | .claim | .release | .incident | .clear | .speed | .page | .epoch => s.joined && ownOrAll
  | .offer => s.joined && s.config.answering && ownOrAll
  | .reading => s.joined && s.config.collector && ownOrAll
  | .toll => s.joined && s.config.sink && own

/-- The block that a kind is handed to (R10), which takes the frame when its payload is in range (R11). -/
def State.handTo (k : FrameKind) (p : Side) (f : Frame) (s : State) : State :=
  match k with
  | .probe => s.taking (parseProbe f.payload) fun x s => s.takeProbe p f.origin x
  | .voice => s.taking (parseVoice f.payload) fun v s => s.takeVoice p f.origin v
  | .claim => s.taking (parseClaim f.payload) fun x s => s.takeClaim f.origin x.1 x.2
  | .release => s.taking (parseRelease f.payload) fun c s => s.takeRelease f.origin c
  | .offer => s.taking (parseOffer f.payload) fun x s => s.takeOffer p f.origin x
  | .take => s.taking (parseTake f.payload) fun x s => s.takeTake p f.origin x.1 x.2
  | .refuse => s.taking (parseIdBit f.payload) fun x s =>
      laneIndices.foldl (fun s l => s.refuseLane f.origin x.1 x.2 l) s
  | .hangup => s.taking (parseIdBit f.payload) fun x s => s.takeHangup f.origin x.1 x.2
  | .incident => s.taking (parseIncident f.payload) fun x s => s.takeIncident p f x.1 x.2
  | .clear => s.taking (parseClear f.payload) fun x s => s.clearIncident x.1 x.2
  | .reading => s.taking (parseReading f.payload) fun x s => s.takeReading f x.1 x.2
  | .speed => s.taking (parseSpeed f.payload) fun x s => s.takeSpeed p f x
  | .page => s.taking (parsePage f.payload) fun n s => (s.applyPage f.origin n).2
  | .toll => s.taking (parseToll f.payload) fun x s => s.takeToll f.origin x
  | .tollAck => s.taking (parseWord f.payload) fun n s => s.takeTollAck n
  | .epoch => s.taking (parseWord f.payload) fun e s => s.takeEpoch e

/-- Local taking, after the relay decision (R10). An unassigned kind is never taken (R13). -/
def State.takeLocally (p : Side) (f : Frame) (s : State) : State :=
  match kindOf f.kind with
  | none => s
  | some k => if s.takesKind k f then s.handTo k p f else s

/-! ### Reception (R5 to R13) -/

/-- A good frame past the port's own table (R7 to R13): the own-origin test, the increment and the map, VOICE shown to the
circuit unit of a JOINED station, the relay, local taking. -/
def State.goodFrame (p : Side) (f : Frame) (s : State) : State :=
  if f.origin = s.number then s.latch .numberClash
  else
    let f := { f with hops := f.hops + 1 }
    let t := s.learn p f
    let t := if t.joined = true ∧ f.kind = FrameKind.voice.code then t.showVoice f else t
    (t.relay p f).takeLocally p f

/-- A frame arrives at a port, by the port's state (R5; DEDUCED, assumption 26). -/
def State.receive (p : Side) (received : Option Frame) (s : State) : State :=
  if (s.ports.get p).endStrap then s
  else
    match (s.ports.get p).state, received with
    | .down, none => s
    | .down, some f => if f.kind = FrameKind.probe.code then s.goodFrame p f else s
    | .listening, none => s.modPort p fun x => { x with probes := 0 }
    | .listening, some f => if f.kind = FrameKind.probe.code then s.goodFrame p f else s
    | _, none => s.recordOutcome p false
    | _, some f => (s.recordOutcome p true).goodFrame p f

/-- LINE_FRAME_ARRIVES (R5). -/
def execLineFrameArrives (p : Side) (bytes : List Byte) (s : State) : Result :=
  .next (s.unlessHeld fun s => s.withImages fun s => s.receive p (parseFrame bytes))

/-! ### The transmitter (R32) -/

/-- TRANSMIT_COMPLETE (R32): the frame being sent has its last byte sent. -/
def State.transmitted (p : Side) (s : State) : State :=
  if (s.ports.get p).sending.isNone then s
  else
    let r := (s.ports.get p).takeNext
    (s.modPort p fun _ => r.1).settle (takesOf p r.2)

def execTransmitComplete (p : Side) (s : State) : Result := .next (s.unlessHeld fun s => s.transmitted p)

/-! ### The line seen from the cabinet port (R27, R28) -/

/-- A port in READ_LINE's answer. -/
def Port.report (x : Port) : PortReport := ⟨x.state, x.signal, failures x.history, x.history.length, x.probes⟩

/-- READ_LINE's answer (R27). -/
def State.lineReport (s : State) : LineReport :=
  { joined := s.joined
    number := s.number
    eastEnd := s.ports.east.endStrap
    westEnd := s.ports.west.endStrap
    ports := ⟨s.ports.east.report, s.ports.west.report⟩
    reach := s.reach }

/-- READ_LINE (R27): clears the LINE flag. -/
def execReadLine (args : List Word) (s : State) : Result :=
  .next (s.command .readLine args fun s => (.ok, .line s.lineReport, { s with lineFlag := false }))

/-- READ_MAP (R28); ages are rounded down (DESIGN CHOICE, assumption 43). -/
def readMapBody (args : List Word) (s : State) : ResponseCode × Answer × State :=
  match args with
  | [w] =>
    if isStation w.toNat then
      (.ok,
        .map (((s.map.filter fun e => w.toNat ≤ e.station).take 31).map fun e =>
          ⟨e.station, e.port, e.distance, min 99 ((s.now - e.heardAt) / 100)⟩), s)
    else (.badArgument, .none, s)
  | _ => (.badArgument, .none, s)

def execReadMap (args : List Word) (s : State) : Result := .next (s.command .readMap args (readMapBody args))

end Sys2Proof.Machine
end

