-- ==== Sys2Proof/Machine/Cabinet.lean ====
section
/-! DEFINITION. The cabinet port and start-up (chapter 11): frame faults, latched faults, CONFIGURE, JOIN, RESTART and pin
reset. -/

namespace Sys2Proof.Machine

open Sys2Proof

/-! ### Frames and faults (R196, R201, R202) -/

/-- CABINET_FRAME_FAULT (R196): the frame is not executed, and the pending response becomes FETCH's with the fault. A frame
that fails no test is no such event and changes nothing (DESIGN CHOICE, assumption 24). -/
def execCabinetFrameFault (words : List Word) (s : State) : Result :=
  .next
    (s.unlessHeld fun s =>
      match frameFault words with
      | some code => s.answered .fetch code .none
      | none => s)

/-- FETCH (R196): OK with no words. -/
def execFetch (args : List Word) (s : State) : Result := .next (s.command .fetch args fun s => (.ok, .none, s))

/-- READ_FAULTS (R201). -/
def execReadFaults (args : List Word) (s : State) : Result :=
  .next (s.command .readFaults args fun s => (.ok, .faults s.faults, s))

/-- The faults whose mask bit is 1 are cleared (R202). -/
def clearedFaults (mask : Word) (fs : Vector FaultLatch 5) : Vector FaultLatch 5 :=
  Vector.ofFn fun i : Fin 5 => if mask.getLsbD i.val then { latched := false, count := 0 } else fs[i]

/-- CLEAR_FAULTS (R202). -/
def clearFaultsBody (args : List Word) (s : State) : ResponseCode × Answer × State :=
  match args with
  | [mask] =>
    if 31 < mask.toNat then (.badArgument, .none, s)
    else (.ok, .cleared (clearedFaults mask s.faults), { s with faults := clearedFaults mask s.faults })
  | _ => (.badArgument, .none, s)

def execClearFaults (args : List Word) (s : State) : Result :=
  .next (s.command .clearFaults args (clearFaultsBody args))

/-! ### CONFIGURE and JOIN (R205, R206) -/

/-- CONFIGURE (R205). -/
def configureBody (args : List Word) (s : State) : ResponseCode × Answer × State :=
  match parseConfig args with
  | none => (.badArgument, .none, s)
  | some c => (.ok, .config c, { s with config := c })

def execConfigure (args : List Word) (s : State) : Result := .next (s.command .configure args (configureBody args))

/-- A selecting face is sent an image (R158). -/
def State.imageIfSelecting (f : Face) (s : State) : State := if s.selecting f then s.sendImage f else s

/-- An image to each selecting face, E first. -/
def State.imagesNow (s : State) : State := (s.imageIfSelecting .east).imageIfSelecting .west

/-- A selecting face starts selection (R150). -/
def State.startSelecting (f : Face) (s : State) : State := if s.selecting f then s.startSelection f else s

/-- The station joins: each block starts from its JOIN values (R206; DESIGN CHOICE, assumption 11). -/
def State.join (s : State) : State :=
  let t := { s with joined := true }.startSpeed
  let t := (t.startSelecting .east).startSelecting .west
  (t.buildSpeed.joinSink.beginCalls).imagesNow

/-- JOIN (R206; DEDUCED, assumption 21). -/
def joinBody (s : State) : ResponseCode × Answer × State :=
  if s.number = 0 then (.wrongState, .none, s) else (.ok, .none, s.join)

def execJoin (args : List Word) (s : State) : Result := .next (s.command .join args joinBody)

/-! ### RESTART (R207) -/

/-- A port's local queues and wait counts are emptied (R42). -/
def Port.emptyLocal (x : Port) : Port :=
  { x with queues := { x.queues with vl := [], cl := [], bl := [] }, waitCL := 0, waitBL := 0 }

/-- Stage 1: the local queues and the deferred list (R42). -/
def State.restartQueues (s : State) : State :=
  { (s.modPort .east Port.emptyLocal).modPort .west Port.emptyLocal with deferred := [] }

/-- A call that is not IDLE ends (R88). -/
def State.restartCall (s : State) (b : Fin 4) : State := if s.calls[b].state = .idle then s else s.endCall b

/-- A lane hangs up on its caller from TAKING or TALKING and becomes IDLE with outcome NONE (R88). -/
def State.restartLane (s : State) (l : Fin 2) : State := (s.hangupCaller l).laneToIdle l .none

/-- A store and its sending at RESTART (R103). -/
def Audio.restarted (a : Audio) : Audio := { a with store := emptyStore, sendSeq := 0, sendTimer := none }

/-- The playout unit at RESTART: the playout timers keep running (R103). -/
def Playout.restarted (p : Playout) : Playout :=
  { boxes := Vector.ofFn fun i : Fin 4 => p.boxes[i].restarted
    lanes := Vector.ofFn fun i : Fin 2 => p.lanes[i].restarted
    tones := Vector.replicate 4 silentTone }

/-- Stage 2 has something to change: a call that is not IDLE, a lane that is not IDLE with outcome NONE, or an entry in the
offer list (R88). -/
def State.callsStand (s : State) : Bool :=
  boxIndices.any (fun b => s.calls[b].state != .idle) ||
    laneIndices.any (fun l => s.callUnit.lanes[l].state != .idle || s.callUnit.lanes[l].outcome != .none) ||
    !s.callUnit.offers.isEmpty

/-- Both change marks are set (R84, R88). -/
def CallUnit.markedChanged (u : CallUnit) : CallUnit := { u with callsChanged := true, offersChanged := true }

/-- Stage 2: calls, lanes, claim records, the offer list and playout; both change marks are set where anything changed
(R60, R88, R103). -/
def State.restartCalls (s : State) : State :=
  let t := boxIndices.foldl State.restartCall s
  let t := laneIndices.foldl State.restartLane t
  let t := { t with claims := Vector.replicate 4 resetClaim, callUnit := { t.callUnit with offers := [] } }
  let t := if s.callsStand then { t with callUnit := t.callUnit.markedChanged } else t
  t.modPlayout Playout.restarted

/-- Stage 3: incidents, readings, warnings and speeds (R104, R113 to R115, R118, R141). -/
def State.restartRoad (s : State) : State :=
  { s.clearReadings with incidents := { table := [], cleared := [] }, warnings := noWarnings }.startSpeed

/-- A selecting face gives up its awaited images and starts selection (R164). -/
def State.restartFace (f : Face) (s : State) : State :=
  if s.selecting f then (s.modFace f fun u => { u with awaited := [], missing := 0 }).startSelection f else s

/-- Stage 4: the SPEED, the faces and the new calls (R207; DESIGN CHOICE, assumption 11). -/
def State.restartEnd (s : State) : State :=
  ((s.buildSpeed.restartFace .east).restartFace .west).beginCalls.imagesNow

/-- RESTART (R207), as one event. -/
def State.restarted (s : State) : State := s.restartQueues.restartCalls.restartRoad.restartEnd

def execRestart (args : List Word) (s : State) : Result :=
  .next (s.command .restart args fun s => (.ok, .none, s.restarted))

/-! ### Pin reset (R43, R203) -/

/-- The part when pin reset ends with these inputs: the pin-reset value of every piece of state. -/
def State.resetWith (i : ResetInputs) : State :=
  let port (strap signal : Bool) : Port :=
    { resetPort with endStrap := strap, signal := signal, probeSendTimer := if strap then none else some 0 }
  { State.reset with
    number := i.number.val
    ports := ⟨port i.eastEnd i.eastSignal, port i.westEnd i.westSignal⟩
    calls := Vector.ofFn fun b : Fin 4 => { resetCall with offHook := i.offHook[b] } }

/-- PIN_RESET_ENDS (R203): STARTING, with the straps taken and BYPASS open. Commands still waiting wait on
(DESIGN CHOICE, assumption 23). -/
def execPinResetEnds (i : ResetInputs) (s : State) : Result := .next { State.resetWith i with pending := s.pending }

/-- The part while pin reset is held: the initial values, no timer running, the inputs as they show (R43, R203;
DESIGN CHOICE, assumption 22). -/
def State.heldInReset (s : State) : State :=
  let port (x : Port) : Port := { resetPort with endStrap := x.endStrap, signal := x.signal, probeSendTimer := none }
  let quiet : Audio := { resetAudio with playoutTimer := none }
  { State.reset with
    pending := s.pending
    resetHeld := true
    number := s.number
    ports := ⟨port s.ports.east, port s.ports.west⟩
    calls := Vector.ofFn fun b : Fin 4 => { resetCall with offHook := s.calls[b].offHook }
    playout :=
      { boxes := Vector.replicate 4 quiet, lanes := Vector.replicate 2 quiet, tones := Vector.replicate 4 silentTone } }

/-- PIN_RESET_ASSERTED (R203). -/
def execPinResetAsserted (s : State) : Result := .next s.heldInReset

end Sys2Proof.Machine
end

