-- ==== Sys2Proof/Machine/Dispatch.lean ====
section
/-! DEFINITION. One arm per command or event: its meaning. -/

namespace Sys2Proof.Machine

open Sys2Proof

/-- What a command or event does to everything but the queue. -/
def exec (i : Instr) (s : State) : Host.Outcome State Fault Refusal :=
  match i with
  | .lineFrameArrives p bytes => Sys2Proof.Machine.execLineFrameArrives p bytes s
  | .signalDetectLost p => Sys2Proof.Machine.execSignalDetectLost p s
  | .probeTimerExpiry p => Sys2Proof.Machine.execProbeTimerExpiry p s
  | .stationMapAgeOut station => Sys2Proof.Machine.execStationMapAgeOut station s
  | .probeSendTimerExpiry p => Sys2Proof.Machine.execProbeSendTimerExpiry p s
  | .transmitComplete p => Sys2Proof.Machine.execTransmitComplete p s
  | .claimTimerExpiry c => Sys2Proof.Machine.execClaimTimerExpiry c s
  | .holdRefreshTimerExpiry c => Sys2Proof.Machine.execHoldRefreshTimerExpiry c s
  | .assertHoldOffExpiry c => Sys2Proof.Machine.execAssertHoldOffExpiry c s
  | .claimWaitTimerExpiry b => Sys2Proof.Machine.execClaimWaitTimerExpiry b s
  | .heldOtherAgeOut c => Sys2Proof.Machine.execHeldOtherAgeOut c s
  | .hookOffHook b => Sys2Proof.Machine.execHookOffHook b s
  | .hookOnHook b => Sys2Proof.Machine.execHookOnHook b s
  | .offerTimerExpiry b => Sys2Proof.Machine.execOfferTimerExpiry b s
  | .incidentRefreshTimerExpiry b => Sys2Proof.Machine.execIncidentRefreshTimerExpiry b s
  | .partnerSilenceTimerExpiry b => Sys2Proof.Machine.execPartnerSilenceTimerExpiry b s
  | .offerEntryAgeOut origin callId => Sys2Proof.Machine.execOfferEntryAgeOut origin callId s
  | .takeTimerExpiry l => Sys2Proof.Machine.execTakeTimerExpiry l s
  | .laneSilenceTimerExpiry l => Sys2Proof.Machine.execLaneSilenceTimerExpiry l s
  | .callBoxSendTimerExpiry b samples => Sys2Proof.Machine.execCallBoxSendTimerExpiry b samples s
  | .laneSendTimerExpiry l samples => Sys2Proof.Machine.execLaneSendTimerExpiry l samples s
  | .playoutTick st => Sys2Proof.Machine.execPlayoutTick st s
  | .cadencePhaseEnd b => Sys2Proof.Machine.execCadencePhaseEnd b s
  | .incidentAgeOut origin callId => Sys2Proof.Machine.execIncidentAgeOut origin callId s
  | .clearanceTimerExpiry origin callId => Sys2Proof.Machine.execClearanceTimerExpiry origin callId s
  | .readingAgeOut k => Sys2Proof.Machine.execReadingAgeOut k s
  | .rateTimerExpiry k => Sys2Proof.Machine.execRateTimerExpiry k s
  | .evaluationTimerExpiry => Sys2Proof.Machine.execEvaluationTimerExpiry s
  | .advertTimerExpiry => Sys2Proof.Machine.execAdvertTimerExpiry s
  | .heldAdvertAgeOut f => Sys2Proof.Machine.execHeldAdvertAgeOut f s
  | .pageMinuteTimerExpiry n => Sys2Proof.Machine.execPageMinuteTimerExpiry n s
  | .dwellTimerExpiry f => Sys2Proof.Machine.execDwellTimerExpiry f s
  | .flashTimerExpiry f => Sys2Proof.Machine.execFlashTimerExpiry f s
  | .imageRefreshTimerExpiry f => Sys2Proof.Machine.execImageRefreshTimerExpiry f s
  | .answerWindowExpiry f sequence => Sys2Proof.Machine.execAnswerWindowExpiry f sequence s
  | .signAnswer f record => Sys2Proof.Machine.execSignAnswer f record s
  | .resendTimerExpiry => Sys2Proof.Machine.execResendTimerExpiry s
  | .cabinetFrameFault words => Sys2Proof.Machine.execCabinetFrameFault words s
  | .fetch args => Sys2Proof.Machine.execFetch args s
  | .configure args => Sys2Proof.Machine.execConfigure args s
  | .join args => Sys2Proof.Machine.execJoin args s
  | .restart args => Sys2Proof.Machine.execRestart args s
  | .readLine args => Sys2Proof.Machine.execReadLine args s
  | .readMap args => Sys2Proof.Machine.execReadMap args s
  | .readCircuits args => Sys2Proof.Machine.execReadCircuits args s
  | .readCalls args => Sys2Proof.Machine.execReadCalls args s
  | .readOffers args => Sys2Proof.Machine.execReadOffers args s
  | .takeCall args => Sys2Proof.Machine.execTakeCall args s
  | .endCall args => Sys2Proof.Machine.execEndCall args s
  | .readIncidents args => Sys2Proof.Machine.execReadIncidents args s
  | .clearIncident args => Sys2Proof.Machine.execClearIncident args s
  | .submitReading args => Sys2Proof.Machine.execSubmitReading args s
  | .readReadings args => Sys2Proof.Machine.execReadReadings args s
  | .fetchReading args => Sys2Proof.Machine.execFetchReading args s
  | .readSpeed args => Sys2Proof.Machine.execReadSpeed args s
  | .publishPage args => Sys2Proof.Machine.execPublishPage args s
  | .withdrawPage args => Sys2Proof.Machine.execWithdrawPage args s
  | .readPage args => Sys2Proof.Machine.execReadPage args s
  | .readSign args => Sys2Proof.Machine.execReadSign args s
  | .setFaceDark args => Sys2Proof.Machine.execSetFaceDark args s
  | .submitToll args => Sys2Proof.Machine.execSubmitToll args s
  | .readTollStore args => Sys2Proof.Machine.execReadTollStore args s
  | .fetchDelivery args => Sys2Proof.Machine.execFetchDelivery args s
  | .issueEpoch args => Sys2Proof.Machine.execIssueEpoch args s
  | .readCounters args => Sys2Proof.Machine.execReadCounters args s
  | .readFaults args => Sys2Proof.Machine.execReadFaults args s
  | .clearFaults args => Sys2Proof.Machine.execClearFaults args s
  | .pinResetAsserted => Sys2Proof.Machine.execPinResetAsserted s
  | .pinResetEnds inputs => Sys2Proof.Machine.execPinResetEnds inputs s
  | .signalDetectReturns p => Sys2Proof.Machine.execSignalDetectReturns p s

end Sys2Proof.Machine
end

