-- ==== Sys2Proof/Laws/State.lean ====
section
/-! SUPPORT. One lemma for each field and each update of the state, so that no proof unfolds a record update. -/

namespace Sys2Proof.Machine

open Sys2Proof

variable (s : State)

@[simp] theorem PerSide.get_set_same {α : Type} (x : PerSide α) (d : Side) (v : α) : (x.set d v).get d = v := by
  cases d <;> rfl

@[simp] theorem PerSide.get_set_other {α : Type} (x : PerSide α) (d : Side) (v : α) :
    (x.set d v).get d.other = x.get d.other := by
  cases d <;> rfl

@[simp] theorem PerSide.get_other_set {α : Type} (x : PerSide α) (d : Side) (v : α) :
    (x.set d.other v).get d = x.get d := by
  cases d <;> rfl

@[simp] theorem Queues.get_set_same (q : Queues) (n : QueueName) (fs : List Frame) : (q.set n fs).get n = fs := by
  cases n <;> rfl

theorem Queues.get_set_ne (q : Queues) (m n : QueueName) (fs : List Frame) (h : m ≠ n) :
    (q.set n fs).get m = q.get m := by
  cases m <;> cases n <;> first | rfl | exact absurd rfl h

/-! ### `modPort` -/

@[simp] theorem State.modPort_pending (p : Side) (f : Port → Port) : (s.modPort p f).pending = s.pending := rfl
@[simp] theorem State.modPort_now (p : Side) (f : Port → Port) : (s.modPort p f).now = s.now := rfl
@[simp] theorem State.modPort_resetHeld (p : Side) (f : Port → Port) : (s.modPort p f).resetHeld = s.resetHeld := rfl
@[simp] theorem State.modPort_joined (p : Side) (f : Port → Port) : (s.modPort p f).joined = s.joined := rfl
@[simp] theorem State.modPort_number (p : Side) (f : Port → Port) : (s.modPort p f).number = s.number := rfl
@[simp] theorem State.modPort_config (p : Side) (f : Port → Port) : (s.modPort p f).config = s.config := rfl
@[simp] theorem State.modPort_ports (p : Side) (f : Port → Port) :
    (s.modPort p f).ports = s.ports.set p (f (s.ports.get p)) := rfl
@[simp] theorem State.modPort_map (p : Side) (f : Port → Port) : (s.modPort p f).map = s.map := rfl
@[simp] theorem State.modPort_reach (p : Side) (f : Port → Port) : (s.modPort p f).reach = s.reach := rfl
@[simp] theorem State.modPort_deferred (p : Side) (f : Port → Port) : (s.modPort p f).deferred = s.deferred := rfl
@[simp] theorem State.modPort_circuits (p : Side) (f : Port → Port) : (s.modPort p f).circuits = s.circuits := rfl
@[simp] theorem State.modPort_claims (p : Side) (f : Port → Port) : (s.modPort p f).claims = s.claims := rfl
@[simp] theorem State.modPort_calls (p : Side) (f : Port → Port) : (s.modPort p f).calls = s.calls := rfl
@[simp] theorem State.modPort_callUnit (p : Side) (f : Port → Port) : (s.modPort p f).callUnit = s.callUnit := rfl
@[simp] theorem State.modPort_playout (p : Side) (f : Port → Port) : (s.modPort p f).playout = s.playout := rfl
@[simp] theorem State.modPort_incidents (p : Side) (f : Port → Port) : (s.modPort p f).incidents = s.incidents := rfl
@[simp] theorem State.modPort_readings (p : Side) (f : Port → Port) : (s.modPort p f).readings = s.readings := rfl
@[simp] theorem State.modPort_warnings (p : Side) (f : Port → Port) : (s.modPort p f).warnings = s.warnings := rfl
@[simp] theorem State.modPort_speed (p : Side) (f : Port → Port) : (s.modPort p f).speed = s.speed := rfl
@[simp] theorem State.modPort_pages (p : Side) (f : Port → Port) : (s.modPort p f).pages = s.pages := rfl
@[simp] theorem State.modPort_faces (p : Side) (f : Port → Port) : (s.modPort p f).faces = s.faces := rfl
@[simp] theorem State.modPort_toll (p : Side) (f : Port → Port) : (s.modPort p f).toll = s.toll := rfl
@[simp] theorem State.modPort_counts (p : Side) (f : Port → Port) : (s.modPort p f).counts = s.counts := rfl
@[simp] theorem State.modPort_faults (p : Side) (f : Port → Port) : (s.modPort p f).faults = s.faults := rfl
@[simp] theorem State.modPort_lineFlag (p : Side) (f : Port → Port) : (s.modPort p f).lineFlag = s.lineFlag := rfl
@[simp] theorem State.modPort_response (p : Side) (f : Port → Port) : (s.modPort p f).response = s.response := rfl

/-! ### `modCircuit` -/

@[simp] theorem State.modCircuit_pending (c : Fin 16) (f : Circuit → Circuit) :
    (s.modCircuit c f).pending = s.pending := rfl
@[simp] theorem State.modCircuit_now (c : Fin 16) (f : Circuit → Circuit) : (s.modCircuit c f).now = s.now := rfl
@[simp] theorem State.modCircuit_resetHeld (c : Fin 16) (f : Circuit → Circuit) :
    (s.modCircuit c f).resetHeld = s.resetHeld := rfl
@[simp] theorem State.modCircuit_joined (c : Fin 16) (f : Circuit → Circuit) :
    (s.modCircuit c f).joined = s.joined := rfl
@[simp] theorem State.modCircuit_number (c : Fin 16) (f : Circuit → Circuit) :
    (s.modCircuit c f).number = s.number := rfl
@[simp] theorem State.modCircuit_config (c : Fin 16) (f : Circuit → Circuit) :
    (s.modCircuit c f).config = s.config := rfl
@[simp] theorem State.modCircuit_ports (c : Fin 16) (f : Circuit → Circuit) : (s.modCircuit c f).ports = s.ports := rfl
@[simp] theorem State.modCircuit_map (c : Fin 16) (f : Circuit → Circuit) : (s.modCircuit c f).map = s.map := rfl
@[simp] theorem State.modCircuit_reach (c : Fin 16) (f : Circuit → Circuit) : (s.modCircuit c f).reach = s.reach := rfl
@[simp] theorem State.modCircuit_deferred (c : Fin 16) (f : Circuit → Circuit) :
    (s.modCircuit c f).deferred = s.deferred := rfl
@[simp] theorem State.modCircuit_circuits (c : Fin 16) (f : Circuit → Circuit) :
    (s.modCircuit c f).circuits = s.circuits.set c (f s.circuits[c]) := rfl
@[simp] theorem State.modCircuit_claims (c : Fin 16) (f : Circuit → Circuit) :
    (s.modCircuit c f).claims = s.claims := rfl
@[simp] theorem State.modCircuit_calls (c : Fin 16) (f : Circuit → Circuit) : (s.modCircuit c f).calls = s.calls := rfl
@[simp] theorem State.modCircuit_callUnit (c : Fin 16) (f : Circuit → Circuit) :
    (s.modCircuit c f).callUnit = s.callUnit := rfl
@[simp] theorem State.modCircuit_playout (c : Fin 16) (f : Circuit → Circuit) :
    (s.modCircuit c f).playout = s.playout := rfl
@[simp] theorem State.modCircuit_incidents (c : Fin 16) (f : Circuit → Circuit) :
    (s.modCircuit c f).incidents = s.incidents := rfl
@[simp] theorem State.modCircuit_readings (c : Fin 16) (f : Circuit → Circuit) :
    (s.modCircuit c f).readings = s.readings := rfl
@[simp] theorem State.modCircuit_warnings (c : Fin 16) (f : Circuit → Circuit) :
    (s.modCircuit c f).warnings = s.warnings := rfl
@[simp] theorem State.modCircuit_speed (c : Fin 16) (f : Circuit → Circuit) : (s.modCircuit c f).speed = s.speed := rfl
@[simp] theorem State.modCircuit_pages (c : Fin 16) (f : Circuit → Circuit) : (s.modCircuit c f).pages = s.pages := rfl
@[simp] theorem State.modCircuit_faces (c : Fin 16) (f : Circuit → Circuit) : (s.modCircuit c f).faces = s.faces := rfl
@[simp] theorem State.modCircuit_toll (c : Fin 16) (f : Circuit → Circuit) : (s.modCircuit c f).toll = s.toll := rfl
@[simp] theorem State.modCircuit_counts (c : Fin 16) (f : Circuit → Circuit) :
    (s.modCircuit c f).counts = s.counts := rfl
@[simp] theorem State.modCircuit_faults (c : Fin 16) (f : Circuit → Circuit) :
    (s.modCircuit c f).faults = s.faults := rfl
@[simp] theorem State.modCircuit_lineFlag (c : Fin 16) (f : Circuit → Circuit) :
    (s.modCircuit c f).lineFlag = s.lineFlag := rfl
@[simp] theorem State.modCircuit_response (c : Fin 16) (f : Circuit → Circuit) :
    (s.modCircuit c f).response = s.response := rfl

/-! ### `modClaim` -/

@[simp] theorem State.modClaim_pending (b : Fin 4) (f : ClaimRecord → ClaimRecord) :
    (s.modClaim b f).pending = s.pending := rfl
@[simp] theorem State.modClaim_now (b : Fin 4) (f : ClaimRecord → ClaimRecord) : (s.modClaim b f).now = s.now := rfl
@[simp] theorem State.modClaim_resetHeld (b : Fin 4) (f : ClaimRecord → ClaimRecord) :
    (s.modClaim b f).resetHeld = s.resetHeld := rfl
@[simp] theorem State.modClaim_joined (b : Fin 4) (f : ClaimRecord → ClaimRecord) :
    (s.modClaim b f).joined = s.joined := rfl
@[simp] theorem State.modClaim_number (b : Fin 4) (f : ClaimRecord → ClaimRecord) :
    (s.modClaim b f).number = s.number := rfl
@[simp] theorem State.modClaim_config (b : Fin 4) (f : ClaimRecord → ClaimRecord) :
    (s.modClaim b f).config = s.config := rfl
@[simp] theorem State.modClaim_ports (b : Fin 4) (f : ClaimRecord → ClaimRecord) :
    (s.modClaim b f).ports = s.ports := rfl
@[simp] theorem State.modClaim_map (b : Fin 4) (f : ClaimRecord → ClaimRecord) : (s.modClaim b f).map = s.map := rfl
@[simp] theorem State.modClaim_reach (b : Fin 4) (f : ClaimRecord → ClaimRecord) :
    (s.modClaim b f).reach = s.reach := rfl
@[simp] theorem State.modClaim_deferred (b : Fin 4) (f : ClaimRecord → ClaimRecord) :
    (s.modClaim b f).deferred = s.deferred := rfl
@[simp] theorem State.modClaim_circuits (b : Fin 4) (f : ClaimRecord → ClaimRecord) :
    (s.modClaim b f).circuits = s.circuits := rfl
@[simp] theorem State.modClaim_claims (b : Fin 4) (f : ClaimRecord → ClaimRecord) :
    (s.modClaim b f).claims = s.claims.set b (f s.claims[b]) := rfl
@[simp] theorem State.modClaim_calls (b : Fin 4) (f : ClaimRecord → ClaimRecord) :
    (s.modClaim b f).calls = s.calls := rfl
@[simp] theorem State.modClaim_callUnit (b : Fin 4) (f : ClaimRecord → ClaimRecord) :
    (s.modClaim b f).callUnit = s.callUnit := rfl
@[simp] theorem State.modClaim_playout (b : Fin 4) (f : ClaimRecord → ClaimRecord) :
    (s.modClaim b f).playout = s.playout := rfl
@[simp] theorem State.modClaim_incidents (b : Fin 4) (f : ClaimRecord → ClaimRecord) :
    (s.modClaim b f).incidents = s.incidents := rfl
@[simp] theorem State.modClaim_readings (b : Fin 4) (f : ClaimRecord → ClaimRecord) :
    (s.modClaim b f).readings = s.readings := rfl
@[simp] theorem State.modClaim_warnings (b : Fin 4) (f : ClaimRecord → ClaimRecord) :
    (s.modClaim b f).warnings = s.warnings := rfl
@[simp] theorem State.modClaim_speed (b : Fin 4) (f : ClaimRecord → ClaimRecord) :
    (s.modClaim b f).speed = s.speed := rfl
@[simp] theorem State.modClaim_pages (b : Fin 4) (f : ClaimRecord → ClaimRecord) :
    (s.modClaim b f).pages = s.pages := rfl
@[simp] theorem State.modClaim_faces (b : Fin 4) (f : ClaimRecord → ClaimRecord) :
    (s.modClaim b f).faces = s.faces := rfl
@[simp] theorem State.modClaim_toll (b : Fin 4) (f : ClaimRecord → ClaimRecord) : (s.modClaim b f).toll = s.toll := rfl
@[simp] theorem State.modClaim_counts (b : Fin 4) (f : ClaimRecord → ClaimRecord) :
    (s.modClaim b f).counts = s.counts := rfl
@[simp] theorem State.modClaim_faults (b : Fin 4) (f : ClaimRecord → ClaimRecord) :
    (s.modClaim b f).faults = s.faults := rfl
@[simp] theorem State.modClaim_lineFlag (b : Fin 4) (f : ClaimRecord → ClaimRecord) :
    (s.modClaim b f).lineFlag = s.lineFlag := rfl
@[simp] theorem State.modClaim_response (b : Fin 4) (f : ClaimRecord → ClaimRecord) :
    (s.modClaim b f).response = s.response := rfl

/-! ### `modCall` -/

@[simp] theorem State.modCall_pending (b : Fin 4) (f : CallRecord → CallRecord) :
    (s.modCall b f).pending = s.pending := rfl
@[simp] theorem State.modCall_now (b : Fin 4) (f : CallRecord → CallRecord) : (s.modCall b f).now = s.now := rfl
@[simp] theorem State.modCall_resetHeld (b : Fin 4) (f : CallRecord → CallRecord) :
    (s.modCall b f).resetHeld = s.resetHeld := rfl
@[simp] theorem State.modCall_joined (b : Fin 4) (f : CallRecord → CallRecord) :
    (s.modCall b f).joined = s.joined := rfl
@[simp] theorem State.modCall_number (b : Fin 4) (f : CallRecord → CallRecord) :
    (s.modCall b f).number = s.number := rfl
@[simp] theorem State.modCall_config (b : Fin 4) (f : CallRecord → CallRecord) :
    (s.modCall b f).config = s.config := rfl
@[simp] theorem State.modCall_ports (b : Fin 4) (f : CallRecord → CallRecord) : (s.modCall b f).ports = s.ports := rfl
@[simp] theorem State.modCall_map (b : Fin 4) (f : CallRecord → CallRecord) : (s.modCall b f).map = s.map := rfl
@[simp] theorem State.modCall_reach (b : Fin 4) (f : CallRecord → CallRecord) : (s.modCall b f).reach = s.reach := rfl
@[simp] theorem State.modCall_deferred (b : Fin 4) (f : CallRecord → CallRecord) :
    (s.modCall b f).deferred = s.deferred := rfl
@[simp] theorem State.modCall_circuits (b : Fin 4) (f : CallRecord → CallRecord) :
    (s.modCall b f).circuits = s.circuits := rfl
@[simp] theorem State.modCall_claims (b : Fin 4) (f : CallRecord → CallRecord) :
    (s.modCall b f).claims = s.claims := rfl
@[simp] theorem State.modCall_calls (b : Fin 4) (f : CallRecord → CallRecord) :
    (s.modCall b f).calls = s.calls.set b (f s.calls[b]) := rfl
@[simp] theorem State.modCall_callUnit (b : Fin 4) (f : CallRecord → CallRecord) :
    (s.modCall b f).callUnit = s.callUnit := rfl
@[simp] theorem State.modCall_playout (b : Fin 4) (f : CallRecord → CallRecord) :
    (s.modCall b f).playout = s.playout := rfl
@[simp] theorem State.modCall_incidents (b : Fin 4) (f : CallRecord → CallRecord) :
    (s.modCall b f).incidents = s.incidents := rfl
@[simp] theorem State.modCall_readings (b : Fin 4) (f : CallRecord → CallRecord) :
    (s.modCall b f).readings = s.readings := rfl
@[simp] theorem State.modCall_warnings (b : Fin 4) (f : CallRecord → CallRecord) :
    (s.modCall b f).warnings = s.warnings := rfl
@[simp] theorem State.modCall_speed (b : Fin 4) (f : CallRecord → CallRecord) : (s.modCall b f).speed = s.speed := rfl
@[simp] theorem State.modCall_pages (b : Fin 4) (f : CallRecord → CallRecord) : (s.modCall b f).pages = s.pages := rfl
@[simp] theorem State.modCall_faces (b : Fin 4) (f : CallRecord → CallRecord) : (s.modCall b f).faces = s.faces := rfl
@[simp] theorem State.modCall_toll (b : Fin 4) (f : CallRecord → CallRecord) : (s.modCall b f).toll = s.toll := rfl
@[simp] theorem State.modCall_counts (b : Fin 4) (f : CallRecord → CallRecord) :
    (s.modCall b f).counts = s.counts := rfl
@[simp] theorem State.modCall_faults (b : Fin 4) (f : CallRecord → CallRecord) :
    (s.modCall b f).faults = s.faults := rfl
@[simp] theorem State.modCall_lineFlag (b : Fin 4) (f : CallRecord → CallRecord) :
    (s.modCall b f).lineFlag = s.lineFlag := rfl
@[simp] theorem State.modCall_response (b : Fin 4) (f : CallRecord → CallRecord) :
    (s.modCall b f).response = s.response := rfl

/-! ### `modCallUnit` -/

@[simp] theorem State.modCallUnit_pending (f : CallUnit → CallUnit) : (s.modCallUnit f).pending = s.pending := rfl
@[simp] theorem State.modCallUnit_now (f : CallUnit → CallUnit) : (s.modCallUnit f).now = s.now := rfl
@[simp] theorem State.modCallUnit_resetHeld (f : CallUnit → CallUnit) : (s.modCallUnit f).resetHeld = s.resetHeld := rfl
@[simp] theorem State.modCallUnit_joined (f : CallUnit → CallUnit) : (s.modCallUnit f).joined = s.joined := rfl
@[simp] theorem State.modCallUnit_number (f : CallUnit → CallUnit) : (s.modCallUnit f).number = s.number := rfl
@[simp] theorem State.modCallUnit_config (f : CallUnit → CallUnit) : (s.modCallUnit f).config = s.config := rfl
@[simp] theorem State.modCallUnit_ports (f : CallUnit → CallUnit) : (s.modCallUnit f).ports = s.ports := rfl
@[simp] theorem State.modCallUnit_map (f : CallUnit → CallUnit) : (s.modCallUnit f).map = s.map := rfl
@[simp] theorem State.modCallUnit_reach (f : CallUnit → CallUnit) : (s.modCallUnit f).reach = s.reach := rfl
@[simp] theorem State.modCallUnit_deferred (f : CallUnit → CallUnit) : (s.modCallUnit f).deferred = s.deferred := rfl
@[simp] theorem State.modCallUnit_circuits (f : CallUnit → CallUnit) : (s.modCallUnit f).circuits = s.circuits := rfl
@[simp] theorem State.modCallUnit_claims (f : CallUnit → CallUnit) : (s.modCallUnit f).claims = s.claims := rfl
@[simp] theorem State.modCallUnit_calls (f : CallUnit → CallUnit) : (s.modCallUnit f).calls = s.calls := rfl
@[simp] theorem State.modCallUnit_callUnit (f : CallUnit → CallUnit) : (s.modCallUnit f).callUnit = f s.callUnit := rfl
@[simp] theorem State.modCallUnit_playout (f : CallUnit → CallUnit) : (s.modCallUnit f).playout = s.playout := rfl
@[simp] theorem State.modCallUnit_incidents (f : CallUnit → CallUnit) : (s.modCallUnit f).incidents = s.incidents := rfl
@[simp] theorem State.modCallUnit_readings (f : CallUnit → CallUnit) : (s.modCallUnit f).readings = s.readings := rfl
@[simp] theorem State.modCallUnit_warnings (f : CallUnit → CallUnit) : (s.modCallUnit f).warnings = s.warnings := rfl
@[simp] theorem State.modCallUnit_speed (f : CallUnit → CallUnit) : (s.modCallUnit f).speed = s.speed := rfl
@[simp] theorem State.modCallUnit_pages (f : CallUnit → CallUnit) : (s.modCallUnit f).pages = s.pages := rfl
@[simp] theorem State.modCallUnit_faces (f : CallUnit → CallUnit) : (s.modCallUnit f).faces = s.faces := rfl
@[simp] theorem State.modCallUnit_toll (f : CallUnit → CallUnit) : (s.modCallUnit f).toll = s.toll := rfl
@[simp] theorem State.modCallUnit_counts (f : CallUnit → CallUnit) : (s.modCallUnit f).counts = s.counts := rfl
@[simp] theorem State.modCallUnit_faults (f : CallUnit → CallUnit) : (s.modCallUnit f).faults = s.faults := rfl
@[simp] theorem State.modCallUnit_lineFlag (f : CallUnit → CallUnit) : (s.modCallUnit f).lineFlag = s.lineFlag := rfl
@[simp] theorem State.modCallUnit_response (f : CallUnit → CallUnit) : (s.modCallUnit f).response = s.response := rfl

/-! ### `modPlayout` -/

@[simp] theorem State.modPlayout_pending (f : Playout → Playout) : (s.modPlayout f).pending = s.pending := rfl
@[simp] theorem State.modPlayout_now (f : Playout → Playout) : (s.modPlayout f).now = s.now := rfl
@[simp] theorem State.modPlayout_resetHeld (f : Playout → Playout) : (s.modPlayout f).resetHeld = s.resetHeld := rfl
@[simp] theorem State.modPlayout_joined (f : Playout → Playout) : (s.modPlayout f).joined = s.joined := rfl
@[simp] theorem State.modPlayout_number (f : Playout → Playout) : (s.modPlayout f).number = s.number := rfl
@[simp] theorem State.modPlayout_config (f : Playout → Playout) : (s.modPlayout f).config = s.config := rfl
@[simp] theorem State.modPlayout_ports (f : Playout → Playout) : (s.modPlayout f).ports = s.ports := rfl
@[simp] theorem State.modPlayout_map (f : Playout → Playout) : (s.modPlayout f).map = s.map := rfl
@[simp] theorem State.modPlayout_reach (f : Playout → Playout) : (s.modPlayout f).reach = s.reach := rfl
@[simp] theorem State.modPlayout_deferred (f : Playout → Playout) : (s.modPlayout f).deferred = s.deferred := rfl
@[simp] theorem State.modPlayout_circuits (f : Playout → Playout) : (s.modPlayout f).circuits = s.circuits := rfl
@[simp] theorem State.modPlayout_claims (f : Playout → Playout) : (s.modPlayout f).claims = s.claims := rfl
@[simp] theorem State.modPlayout_calls (f : Playout → Playout) : (s.modPlayout f).calls = s.calls := rfl
@[simp] theorem State.modPlayout_callUnit (f : Playout → Playout) : (s.modPlayout f).callUnit = s.callUnit := rfl
@[simp] theorem State.modPlayout_playout (f : Playout → Playout) : (s.modPlayout f).playout = f s.playout := rfl
@[simp] theorem State.modPlayout_incidents (f : Playout → Playout) : (s.modPlayout f).incidents = s.incidents := rfl
@[simp] theorem State.modPlayout_readings (f : Playout → Playout) : (s.modPlayout f).readings = s.readings := rfl
@[simp] theorem State.modPlayout_warnings (f : Playout → Playout) : (s.modPlayout f).warnings = s.warnings := rfl
@[simp] theorem State.modPlayout_speed (f : Playout → Playout) : (s.modPlayout f).speed = s.speed := rfl
@[simp] theorem State.modPlayout_pages (f : Playout → Playout) : (s.modPlayout f).pages = s.pages := rfl
@[simp] theorem State.modPlayout_faces (f : Playout → Playout) : (s.modPlayout f).faces = s.faces := rfl
@[simp] theorem State.modPlayout_toll (f : Playout → Playout) : (s.modPlayout f).toll = s.toll := rfl
@[simp] theorem State.modPlayout_counts (f : Playout → Playout) : (s.modPlayout f).counts = s.counts := rfl
@[simp] theorem State.modPlayout_faults (f : Playout → Playout) : (s.modPlayout f).faults = s.faults := rfl
@[simp] theorem State.modPlayout_lineFlag (f : Playout → Playout) : (s.modPlayout f).lineFlag = s.lineFlag := rfl
@[simp] theorem State.modPlayout_response (f : Playout → Playout) : (s.modPlayout f).response = s.response := rfl

/-! ### `modIncidents` -/

@[simp] theorem State.modIncidents_pending (f : Incidents → Incidents) : (s.modIncidents f).pending = s.pending := rfl
@[simp] theorem State.modIncidents_now (f : Incidents → Incidents) : (s.modIncidents f).now = s.now := rfl
@[simp] theorem State.modIncidents_resetHeld (f : Incidents → Incidents) :
    (s.modIncidents f).resetHeld = s.resetHeld := rfl
@[simp] theorem State.modIncidents_joined (f : Incidents → Incidents) : (s.modIncidents f).joined = s.joined := rfl
@[simp] theorem State.modIncidents_number (f : Incidents → Incidents) : (s.modIncidents f).number = s.number := rfl
@[simp] theorem State.modIncidents_config (f : Incidents → Incidents) : (s.modIncidents f).config = s.config := rfl
@[simp] theorem State.modIncidents_ports (f : Incidents → Incidents) : (s.modIncidents f).ports = s.ports := rfl
@[simp] theorem State.modIncidents_map (f : Incidents → Incidents) : (s.modIncidents f).map = s.map := rfl
@[simp] theorem State.modIncidents_reach (f : Incidents → Incidents) : (s.modIncidents f).reach = s.reach := rfl
@[simp] theorem State.modIncidents_deferred (f : Incidents → Incidents) :
    (s.modIncidents f).deferred = s.deferred := rfl
@[simp] theorem State.modIncidents_circuits (f : Incidents → Incidents) :
    (s.modIncidents f).circuits = s.circuits := rfl
@[simp] theorem State.modIncidents_claims (f : Incidents → Incidents) : (s.modIncidents f).claims = s.claims := rfl
@[simp] theorem State.modIncidents_calls (f : Incidents → Incidents) : (s.modIncidents f).calls = s.calls := rfl
@[simp] theorem State.modIncidents_callUnit (f : Incidents → Incidents) :
    (s.modIncidents f).callUnit = s.callUnit := rfl
@[simp] theorem State.modIncidents_playout (f : Incidents → Incidents) : (s.modIncidents f).playout = s.playout := rfl
@[simp] theorem State.modIncidents_incidents (f : Incidents → Incidents) :
    (s.modIncidents f).incidents = f s.incidents := rfl
@[simp] theorem State.modIncidents_readings (f : Incidents → Incidents) :
    (s.modIncidents f).readings = s.readings := rfl
@[simp] theorem State.modIncidents_warnings (f : Incidents → Incidents) :
    (s.modIncidents f).warnings = s.warnings := rfl
@[simp] theorem State.modIncidents_speed (f : Incidents → Incidents) : (s.modIncidents f).speed = s.speed := rfl
@[simp] theorem State.modIncidents_pages (f : Incidents → Incidents) : (s.modIncidents f).pages = s.pages := rfl
@[simp] theorem State.modIncidents_faces (f : Incidents → Incidents) : (s.modIncidents f).faces = s.faces := rfl
@[simp] theorem State.modIncidents_toll (f : Incidents → Incidents) : (s.modIncidents f).toll = s.toll := rfl
@[simp] theorem State.modIncidents_counts (f : Incidents → Incidents) : (s.modIncidents f).counts = s.counts := rfl
@[simp] theorem State.modIncidents_faults (f : Incidents → Incidents) : (s.modIncidents f).faults = s.faults := rfl
@[simp] theorem State.modIncidents_lineFlag (f : Incidents → Incidents) :
    (s.modIncidents f).lineFlag = s.lineFlag := rfl
@[simp] theorem State.modIncidents_response (f : Incidents → Incidents) :
    (s.modIncidents f).response = s.response := rfl

/-! ### `modReadings` -/

@[simp] theorem State.modReadings_pending (f : Readings → Readings) : (s.modReadings f).pending = s.pending := rfl
@[simp] theorem State.modReadings_now (f : Readings → Readings) : (s.modReadings f).now = s.now := rfl
@[simp] theorem State.modReadings_resetHeld (f : Readings → Readings) : (s.modReadings f).resetHeld = s.resetHeld := rfl
@[simp] theorem State.modReadings_joined (f : Readings → Readings) : (s.modReadings f).joined = s.joined := rfl
@[simp] theorem State.modReadings_number (f : Readings → Readings) : (s.modReadings f).number = s.number := rfl
@[simp] theorem State.modReadings_config (f : Readings → Readings) : (s.modReadings f).config = s.config := rfl
@[simp] theorem State.modReadings_ports (f : Readings → Readings) : (s.modReadings f).ports = s.ports := rfl
@[simp] theorem State.modReadings_map (f : Readings → Readings) : (s.modReadings f).map = s.map := rfl
@[simp] theorem State.modReadings_reach (f : Readings → Readings) : (s.modReadings f).reach = s.reach := rfl
@[simp] theorem State.modReadings_deferred (f : Readings → Readings) : (s.modReadings f).deferred = s.deferred := rfl
@[simp] theorem State.modReadings_circuits (f : Readings → Readings) : (s.modReadings f).circuits = s.circuits := rfl
@[simp] theorem State.modReadings_claims (f : Readings → Readings) : (s.modReadings f).claims = s.claims := rfl
@[simp] theorem State.modReadings_calls (f : Readings → Readings) : (s.modReadings f).calls = s.calls := rfl
@[simp] theorem State.modReadings_callUnit (f : Readings → Readings) : (s.modReadings f).callUnit = s.callUnit := rfl
@[simp] theorem State.modReadings_playout (f : Readings → Readings) : (s.modReadings f).playout = s.playout := rfl
@[simp] theorem State.modReadings_incidents (f : Readings → Readings) : (s.modReadings f).incidents = s.incidents := rfl
@[simp] theorem State.modReadings_readings (f : Readings → Readings) : (s.modReadings f).readings = f s.readings := rfl
@[simp] theorem State.modReadings_warnings (f : Readings → Readings) : (s.modReadings f).warnings = s.warnings := rfl
@[simp] theorem State.modReadings_speed (f : Readings → Readings) : (s.modReadings f).speed = s.speed := rfl
@[simp] theorem State.modReadings_pages (f : Readings → Readings) : (s.modReadings f).pages = s.pages := rfl
@[simp] theorem State.modReadings_faces (f : Readings → Readings) : (s.modReadings f).faces = s.faces := rfl
@[simp] theorem State.modReadings_toll (f : Readings → Readings) : (s.modReadings f).toll = s.toll := rfl
@[simp] theorem State.modReadings_counts (f : Readings → Readings) : (s.modReadings f).counts = s.counts := rfl
@[simp] theorem State.modReadings_faults (f : Readings → Readings) : (s.modReadings f).faults = s.faults := rfl
@[simp] theorem State.modReadings_lineFlag (f : Readings → Readings) : (s.modReadings f).lineFlag = s.lineFlag := rfl
@[simp] theorem State.modReadings_response (f : Readings → Readings) : (s.modReadings f).response = s.response := rfl

/-! ### `modWarnings` -/

@[simp] theorem State.modWarnings_pending (f : Warnings → Warnings) : (s.modWarnings f).pending = s.pending := rfl
@[simp] theorem State.modWarnings_now (f : Warnings → Warnings) : (s.modWarnings f).now = s.now := rfl
@[simp] theorem State.modWarnings_resetHeld (f : Warnings → Warnings) : (s.modWarnings f).resetHeld = s.resetHeld := rfl
@[simp] theorem State.modWarnings_joined (f : Warnings → Warnings) : (s.modWarnings f).joined = s.joined := rfl
@[simp] theorem State.modWarnings_number (f : Warnings → Warnings) : (s.modWarnings f).number = s.number := rfl
@[simp] theorem State.modWarnings_config (f : Warnings → Warnings) : (s.modWarnings f).config = s.config := rfl
@[simp] theorem State.modWarnings_ports (f : Warnings → Warnings) : (s.modWarnings f).ports = s.ports := rfl
@[simp] theorem State.modWarnings_map (f : Warnings → Warnings) : (s.modWarnings f).map = s.map := rfl
@[simp] theorem State.modWarnings_reach (f : Warnings → Warnings) : (s.modWarnings f).reach = s.reach := rfl
@[simp] theorem State.modWarnings_deferred (f : Warnings → Warnings) : (s.modWarnings f).deferred = s.deferred := rfl
@[simp] theorem State.modWarnings_circuits (f : Warnings → Warnings) : (s.modWarnings f).circuits = s.circuits := rfl
@[simp] theorem State.modWarnings_claims (f : Warnings → Warnings) : (s.modWarnings f).claims = s.claims := rfl
@[simp] theorem State.modWarnings_calls (f : Warnings → Warnings) : (s.modWarnings f).calls = s.calls := rfl
@[simp] theorem State.modWarnings_callUnit (f : Warnings → Warnings) : (s.modWarnings f).callUnit = s.callUnit := rfl
@[simp] theorem State.modWarnings_playout (f : Warnings → Warnings) : (s.modWarnings f).playout = s.playout := rfl
@[simp] theorem State.modWarnings_incidents (f : Warnings → Warnings) : (s.modWarnings f).incidents = s.incidents := rfl
@[simp] theorem State.modWarnings_readings (f : Warnings → Warnings) : (s.modWarnings f).readings = s.readings := rfl
@[simp] theorem State.modWarnings_warnings (f : Warnings → Warnings) : (s.modWarnings f).warnings = f s.warnings := rfl
@[simp] theorem State.modWarnings_speed (f : Warnings → Warnings) : (s.modWarnings f).speed = s.speed := rfl
@[simp] theorem State.modWarnings_pages (f : Warnings → Warnings) : (s.modWarnings f).pages = s.pages := rfl
@[simp] theorem State.modWarnings_faces (f : Warnings → Warnings) : (s.modWarnings f).faces = s.faces := rfl
@[simp] theorem State.modWarnings_toll (f : Warnings → Warnings) : (s.modWarnings f).toll = s.toll := rfl
@[simp] theorem State.modWarnings_counts (f : Warnings → Warnings) : (s.modWarnings f).counts = s.counts := rfl
@[simp] theorem State.modWarnings_faults (f : Warnings → Warnings) : (s.modWarnings f).faults = s.faults := rfl
@[simp] theorem State.modWarnings_lineFlag (f : Warnings → Warnings) : (s.modWarnings f).lineFlag = s.lineFlag := rfl
@[simp] theorem State.modWarnings_response (f : Warnings → Warnings) : (s.modWarnings f).response = s.response := rfl

/-! ### `modSpeed` -/

@[simp] theorem State.modSpeed_pending (f : Speed → Speed) : (s.modSpeed f).pending = s.pending := rfl
@[simp] theorem State.modSpeed_now (f : Speed → Speed) : (s.modSpeed f).now = s.now := rfl
@[simp] theorem State.modSpeed_resetHeld (f : Speed → Speed) : (s.modSpeed f).resetHeld = s.resetHeld := rfl
@[simp] theorem State.modSpeed_joined (f : Speed → Speed) : (s.modSpeed f).joined = s.joined := rfl
@[simp] theorem State.modSpeed_number (f : Speed → Speed) : (s.modSpeed f).number = s.number := rfl
@[simp] theorem State.modSpeed_config (f : Speed → Speed) : (s.modSpeed f).config = s.config := rfl
@[simp] theorem State.modSpeed_ports (f : Speed → Speed) : (s.modSpeed f).ports = s.ports := rfl
@[simp] theorem State.modSpeed_map (f : Speed → Speed) : (s.modSpeed f).map = s.map := rfl
@[simp] theorem State.modSpeed_reach (f : Speed → Speed) : (s.modSpeed f).reach = s.reach := rfl
@[simp] theorem State.modSpeed_deferred (f : Speed → Speed) : (s.modSpeed f).deferred = s.deferred := rfl
@[simp] theorem State.modSpeed_circuits (f : Speed → Speed) : (s.modSpeed f).circuits = s.circuits := rfl
@[simp] theorem State.modSpeed_claims (f : Speed → Speed) : (s.modSpeed f).claims = s.claims := rfl
@[simp] theorem State.modSpeed_calls (f : Speed → Speed) : (s.modSpeed f).calls = s.calls := rfl
@[simp] theorem State.modSpeed_callUnit (f : Speed → Speed) : (s.modSpeed f).callUnit = s.callUnit := rfl
@[simp] theorem State.modSpeed_playout (f : Speed → Speed) : (s.modSpeed f).playout = s.playout := rfl
@[simp] theorem State.modSpeed_incidents (f : Speed → Speed) : (s.modSpeed f).incidents = s.incidents := rfl
@[simp] theorem State.modSpeed_readings (f : Speed → Speed) : (s.modSpeed f).readings = s.readings := rfl
@[simp] theorem State.modSpeed_warnings (f : Speed → Speed) : (s.modSpeed f).warnings = s.warnings := rfl
@[simp] theorem State.modSpeed_speed (f : Speed → Speed) : (s.modSpeed f).speed = f s.speed := rfl
@[simp] theorem State.modSpeed_pages (f : Speed → Speed) : (s.modSpeed f).pages = s.pages := rfl
@[simp] theorem State.modSpeed_faces (f : Speed → Speed) : (s.modSpeed f).faces = s.faces := rfl
@[simp] theorem State.modSpeed_toll (f : Speed → Speed) : (s.modSpeed f).toll = s.toll := rfl
@[simp] theorem State.modSpeed_counts (f : Speed → Speed) : (s.modSpeed f).counts = s.counts := rfl
@[simp] theorem State.modSpeed_faults (f : Speed → Speed) : (s.modSpeed f).faults = s.faults := rfl
@[simp] theorem State.modSpeed_lineFlag (f : Speed → Speed) : (s.modSpeed f).lineFlag = s.lineFlag := rfl
@[simp] theorem State.modSpeed_response (f : Speed → Speed) : (s.modSpeed f).response = s.response := rfl

/-! ### `modSlot` -/

@[simp] theorem State.modSlot_pending (n : Fin 32) (f : Slot → Slot) : (s.modSlot n f).pending = s.pending := rfl
@[simp] theorem State.modSlot_now (n : Fin 32) (f : Slot → Slot) : (s.modSlot n f).now = s.now := rfl
@[simp] theorem State.modSlot_resetHeld (n : Fin 32) (f : Slot → Slot) : (s.modSlot n f).resetHeld = s.resetHeld := rfl
@[simp] theorem State.modSlot_joined (n : Fin 32) (f : Slot → Slot) : (s.modSlot n f).joined = s.joined := rfl
@[simp] theorem State.modSlot_number (n : Fin 32) (f : Slot → Slot) : (s.modSlot n f).number = s.number := rfl
@[simp] theorem State.modSlot_config (n : Fin 32) (f : Slot → Slot) : (s.modSlot n f).config = s.config := rfl
@[simp] theorem State.modSlot_ports (n : Fin 32) (f : Slot → Slot) : (s.modSlot n f).ports = s.ports := rfl
@[simp] theorem State.modSlot_map (n : Fin 32) (f : Slot → Slot) : (s.modSlot n f).map = s.map := rfl
@[simp] theorem State.modSlot_reach (n : Fin 32) (f : Slot → Slot) : (s.modSlot n f).reach = s.reach := rfl
@[simp] theorem State.modSlot_deferred (n : Fin 32) (f : Slot → Slot) : (s.modSlot n f).deferred = s.deferred := rfl
@[simp] theorem State.modSlot_circuits (n : Fin 32) (f : Slot → Slot) : (s.modSlot n f).circuits = s.circuits := rfl
@[simp] theorem State.modSlot_claims (n : Fin 32) (f : Slot → Slot) : (s.modSlot n f).claims = s.claims := rfl
@[simp] theorem State.modSlot_calls (n : Fin 32) (f : Slot → Slot) : (s.modSlot n f).calls = s.calls := rfl
@[simp] theorem State.modSlot_callUnit (n : Fin 32) (f : Slot → Slot) : (s.modSlot n f).callUnit = s.callUnit := rfl
@[simp] theorem State.modSlot_playout (n : Fin 32) (f : Slot → Slot) : (s.modSlot n f).playout = s.playout := rfl
@[simp] theorem State.modSlot_incidents (n : Fin 32) (f : Slot → Slot) : (s.modSlot n f).incidents = s.incidents := rfl
@[simp] theorem State.modSlot_readings (n : Fin 32) (f : Slot → Slot) : (s.modSlot n f).readings = s.readings := rfl
@[simp] theorem State.modSlot_warnings (n : Fin 32) (f : Slot → Slot) : (s.modSlot n f).warnings = s.warnings := rfl
@[simp] theorem State.modSlot_speed (n : Fin 32) (f : Slot → Slot) : (s.modSlot n f).speed = s.speed := rfl
@[simp] theorem State.modSlot_pages (n : Fin 32) (f : Slot → Slot) :
    (s.modSlot n f).pages = s.pages.set n (f s.pages[n]) := rfl
@[simp] theorem State.modSlot_faces (n : Fin 32) (f : Slot → Slot) : (s.modSlot n f).faces = s.faces := rfl
@[simp] theorem State.modSlot_toll (n : Fin 32) (f : Slot → Slot) : (s.modSlot n f).toll = s.toll := rfl
@[simp] theorem State.modSlot_counts (n : Fin 32) (f : Slot → Slot) : (s.modSlot n f).counts = s.counts := rfl
@[simp] theorem State.modSlot_faults (n : Fin 32) (f : Slot → Slot) : (s.modSlot n f).faults = s.faults := rfl
@[simp] theorem State.modSlot_lineFlag (n : Fin 32) (f : Slot → Slot) : (s.modSlot n f).lineFlag = s.lineFlag := rfl
@[simp] theorem State.modSlot_response (n : Fin 32) (f : Slot → Slot) : (s.modSlot n f).response = s.response := rfl

/-! ### `modFace` -/

@[simp] theorem State.modFace_pending (d : Face) (f : FaceUnit → FaceUnit) : (s.modFace d f).pending = s.pending := rfl
@[simp] theorem State.modFace_now (d : Face) (f : FaceUnit → FaceUnit) : (s.modFace d f).now = s.now := rfl
@[simp] theorem State.modFace_resetHeld (d : Face) (f : FaceUnit → FaceUnit) :
    (s.modFace d f).resetHeld = s.resetHeld := rfl
@[simp] theorem State.modFace_joined (d : Face) (f : FaceUnit → FaceUnit) : (s.modFace d f).joined = s.joined := rfl
@[simp] theorem State.modFace_number (d : Face) (f : FaceUnit → FaceUnit) : (s.modFace d f).number = s.number := rfl
@[simp] theorem State.modFace_config (d : Face) (f : FaceUnit → FaceUnit) : (s.modFace d f).config = s.config := rfl
@[simp] theorem State.modFace_ports (d : Face) (f : FaceUnit → FaceUnit) : (s.modFace d f).ports = s.ports := rfl
@[simp] theorem State.modFace_map (d : Face) (f : FaceUnit → FaceUnit) : (s.modFace d f).map = s.map := rfl
@[simp] theorem State.modFace_reach (d : Face) (f : FaceUnit → FaceUnit) : (s.modFace d f).reach = s.reach := rfl
@[simp] theorem State.modFace_deferred (d : Face) (f : FaceUnit → FaceUnit) :
    (s.modFace d f).deferred = s.deferred := rfl
@[simp] theorem State.modFace_circuits (d : Face) (f : FaceUnit → FaceUnit) :
    (s.modFace d f).circuits = s.circuits := rfl
@[simp] theorem State.modFace_claims (d : Face) (f : FaceUnit → FaceUnit) : (s.modFace d f).claims = s.claims := rfl
@[simp] theorem State.modFace_calls (d : Face) (f : FaceUnit → FaceUnit) : (s.modFace d f).calls = s.calls := rfl
@[simp] theorem State.modFace_callUnit (d : Face) (f : FaceUnit → FaceUnit) :
    (s.modFace d f).callUnit = s.callUnit := rfl
@[simp] theorem State.modFace_playout (d : Face) (f : FaceUnit → FaceUnit) : (s.modFace d f).playout = s.playout := rfl
@[simp] theorem State.modFace_incidents (d : Face) (f : FaceUnit → FaceUnit) :
    (s.modFace d f).incidents = s.incidents := rfl
@[simp] theorem State.modFace_readings (d : Face) (f : FaceUnit → FaceUnit) :
    (s.modFace d f).readings = s.readings := rfl
@[simp] theorem State.modFace_warnings (d : Face) (f : FaceUnit → FaceUnit) :
    (s.modFace d f).warnings = s.warnings := rfl
@[simp] theorem State.modFace_speed (d : Face) (f : FaceUnit → FaceUnit) : (s.modFace d f).speed = s.speed := rfl
@[simp] theorem State.modFace_pages (d : Face) (f : FaceUnit → FaceUnit) : (s.modFace d f).pages = s.pages := rfl
@[simp] theorem State.modFace_faces (d : Face) (f : FaceUnit → FaceUnit) :
    (s.modFace d f).faces = s.faces.set d (f (s.faces.get d)) := rfl
@[simp] theorem State.modFace_toll (d : Face) (f : FaceUnit → FaceUnit) : (s.modFace d f).toll = s.toll := rfl
@[simp] theorem State.modFace_counts (d : Face) (f : FaceUnit → FaceUnit) : (s.modFace d f).counts = s.counts := rfl
@[simp] theorem State.modFace_faults (d : Face) (f : FaceUnit → FaceUnit) : (s.modFace d f).faults = s.faults := rfl
@[simp] theorem State.modFace_lineFlag (d : Face) (f : FaceUnit → FaceUnit) :
    (s.modFace d f).lineFlag = s.lineFlag := rfl
@[simp] theorem State.modFace_response (d : Face) (f : FaceUnit → FaceUnit) :
    (s.modFace d f).response = s.response := rfl

/-! ### `modToll` -/

@[simp] theorem State.modToll_pending (f : Toll → Toll) : (s.modToll f).pending = s.pending := rfl
@[simp] theorem State.modToll_now (f : Toll → Toll) : (s.modToll f).now = s.now := rfl
@[simp] theorem State.modToll_resetHeld (f : Toll → Toll) : (s.modToll f).resetHeld = s.resetHeld := rfl
@[simp] theorem State.modToll_joined (f : Toll → Toll) : (s.modToll f).joined = s.joined := rfl
@[simp] theorem State.modToll_number (f : Toll → Toll) : (s.modToll f).number = s.number := rfl
@[simp] theorem State.modToll_config (f : Toll → Toll) : (s.modToll f).config = s.config := rfl
@[simp] theorem State.modToll_ports (f : Toll → Toll) : (s.modToll f).ports = s.ports := rfl
@[simp] theorem State.modToll_map (f : Toll → Toll) : (s.modToll f).map = s.map := rfl
@[simp] theorem State.modToll_reach (f : Toll → Toll) : (s.modToll f).reach = s.reach := rfl
@[simp] theorem State.modToll_deferred (f : Toll → Toll) : (s.modToll f).deferred = s.deferred := rfl
@[simp] theorem State.modToll_circuits (f : Toll → Toll) : (s.modToll f).circuits = s.circuits := rfl
@[simp] theorem State.modToll_claims (f : Toll → Toll) : (s.modToll f).claims = s.claims := rfl
@[simp] theorem State.modToll_calls (f : Toll → Toll) : (s.modToll f).calls = s.calls := rfl
@[simp] theorem State.modToll_callUnit (f : Toll → Toll) : (s.modToll f).callUnit = s.callUnit := rfl
@[simp] theorem State.modToll_playout (f : Toll → Toll) : (s.modToll f).playout = s.playout := rfl
@[simp] theorem State.modToll_incidents (f : Toll → Toll) : (s.modToll f).incidents = s.incidents := rfl
@[simp] theorem State.modToll_readings (f : Toll → Toll) : (s.modToll f).readings = s.readings := rfl
@[simp] theorem State.modToll_warnings (f : Toll → Toll) : (s.modToll f).warnings = s.warnings := rfl
@[simp] theorem State.modToll_speed (f : Toll → Toll) : (s.modToll f).speed = s.speed := rfl
@[simp] theorem State.modToll_pages (f : Toll → Toll) : (s.modToll f).pages = s.pages := rfl
@[simp] theorem State.modToll_faces (f : Toll → Toll) : (s.modToll f).faces = s.faces := rfl
@[simp] theorem State.modToll_toll (f : Toll → Toll) : (s.modToll f).toll = f s.toll := rfl
@[simp] theorem State.modToll_counts (f : Toll → Toll) : (s.modToll f).counts = s.counts := rfl
@[simp] theorem State.modToll_faults (f : Toll → Toll) : (s.modToll f).faults = s.faults := rfl
@[simp] theorem State.modToll_lineFlag (f : Toll → Toll) : (s.modToll f).lineFlag = s.lineFlag := rfl
@[simp] theorem State.modToll_response (f : Toll → Toll) : (s.modToll f).response = s.response := rfl

/-! ### `modCounts` -/

@[simp] theorem State.modCounts_pending (f : Counts → Counts) : (s.modCounts f).pending = s.pending := rfl
@[simp] theorem State.modCounts_now (f : Counts → Counts) : (s.modCounts f).now = s.now := rfl
@[simp] theorem State.modCounts_resetHeld (f : Counts → Counts) : (s.modCounts f).resetHeld = s.resetHeld := rfl
@[simp] theorem State.modCounts_joined (f : Counts → Counts) : (s.modCounts f).joined = s.joined := rfl
@[simp] theorem State.modCounts_number (f : Counts → Counts) : (s.modCounts f).number = s.number := rfl
@[simp] theorem State.modCounts_config (f : Counts → Counts) : (s.modCounts f).config = s.config := rfl
@[simp] theorem State.modCounts_ports (f : Counts → Counts) : (s.modCounts f).ports = s.ports := rfl
@[simp] theorem State.modCounts_map (f : Counts → Counts) : (s.modCounts f).map = s.map := rfl
@[simp] theorem State.modCounts_reach (f : Counts → Counts) : (s.modCounts f).reach = s.reach := rfl
@[simp] theorem State.modCounts_deferred (f : Counts → Counts) : (s.modCounts f).deferred = s.deferred := rfl
@[simp] theorem State.modCounts_circuits (f : Counts → Counts) : (s.modCounts f).circuits = s.circuits := rfl
@[simp] theorem State.modCounts_claims (f : Counts → Counts) : (s.modCounts f).claims = s.claims := rfl
@[simp] theorem State.modCounts_calls (f : Counts → Counts) : (s.modCounts f).calls = s.calls := rfl
@[simp] theorem State.modCounts_callUnit (f : Counts → Counts) : (s.modCounts f).callUnit = s.callUnit := rfl
@[simp] theorem State.modCounts_playout (f : Counts → Counts) : (s.modCounts f).playout = s.playout := rfl
@[simp] theorem State.modCounts_incidents (f : Counts → Counts) : (s.modCounts f).incidents = s.incidents := rfl
@[simp] theorem State.modCounts_readings (f : Counts → Counts) : (s.modCounts f).readings = s.readings := rfl
@[simp] theorem State.modCounts_warnings (f : Counts → Counts) : (s.modCounts f).warnings = s.warnings := rfl
@[simp] theorem State.modCounts_speed (f : Counts → Counts) : (s.modCounts f).speed = s.speed := rfl
@[simp] theorem State.modCounts_pages (f : Counts → Counts) : (s.modCounts f).pages = s.pages := rfl
@[simp] theorem State.modCounts_faces (f : Counts → Counts) : (s.modCounts f).faces = s.faces := rfl
@[simp] theorem State.modCounts_toll (f : Counts → Counts) : (s.modCounts f).toll = s.toll := rfl
@[simp] theorem State.modCounts_counts (f : Counts → Counts) : (s.modCounts f).counts = f s.counts := rfl
@[simp] theorem State.modCounts_faults (f : Counts → Counts) : (s.modCounts f).faults = s.faults := rfl
@[simp] theorem State.modCounts_lineFlag (f : Counts → Counts) : (s.modCounts f).lineFlag = s.lineFlag := rfl
@[simp] theorem State.modCounts_response (f : Counts → Counts) : (s.modCounts f).response = s.response := rfl

/-! ### `latch` -/

@[simp] theorem State.latch_pending (n : FaultName) : (s.latch n).pending = s.pending := rfl
@[simp] theorem State.latch_now (n : FaultName) : (s.latch n).now = s.now := rfl
@[simp] theorem State.latch_resetHeld (n : FaultName) : (s.latch n).resetHeld = s.resetHeld := rfl
@[simp] theorem State.latch_joined (n : FaultName) : (s.latch n).joined = s.joined := rfl
@[simp] theorem State.latch_number (n : FaultName) : (s.latch n).number = s.number := rfl
@[simp] theorem State.latch_config (n : FaultName) : (s.latch n).config = s.config := rfl
@[simp] theorem State.latch_ports (n : FaultName) : (s.latch n).ports = s.ports := rfl
@[simp] theorem State.latch_map (n : FaultName) : (s.latch n).map = s.map := rfl
@[simp] theorem State.latch_reach (n : FaultName) : (s.latch n).reach = s.reach := rfl
@[simp] theorem State.latch_deferred (n : FaultName) : (s.latch n).deferred = s.deferred := rfl
@[simp] theorem State.latch_circuits (n : FaultName) : (s.latch n).circuits = s.circuits := rfl
@[simp] theorem State.latch_claims (n : FaultName) : (s.latch n).claims = s.claims := rfl
@[simp] theorem State.latch_calls (n : FaultName) : (s.latch n).calls = s.calls := rfl
@[simp] theorem State.latch_callUnit (n : FaultName) : (s.latch n).callUnit = s.callUnit := rfl
@[simp] theorem State.latch_playout (n : FaultName) : (s.latch n).playout = s.playout := rfl
@[simp] theorem State.latch_incidents (n : FaultName) : (s.latch n).incidents = s.incidents := rfl
@[simp] theorem State.latch_readings (n : FaultName) : (s.latch n).readings = s.readings := rfl
@[simp] theorem State.latch_warnings (n : FaultName) : (s.latch n).warnings = s.warnings := rfl
@[simp] theorem State.latch_speed (n : FaultName) : (s.latch n).speed = s.speed := rfl
@[simp] theorem State.latch_pages (n : FaultName) : (s.latch n).pages = s.pages := rfl
@[simp] theorem State.latch_faces (n : FaultName) : (s.latch n).faces = s.faces := rfl
@[simp] theorem State.latch_toll (n : FaultName) : (s.latch n).toll = s.toll := rfl
@[simp] theorem State.latch_counts (n : FaultName) : (s.latch n).counts = s.counts := rfl
@[simp] theorem State.latch_faults (n : FaultName) :
    (s.latch n).faults = s.faults.set n.index s.faults[n.index].occur := rfl
@[simp] theorem State.latch_lineFlag (n : FaultName) : (s.latch n).lineFlag = s.lineFlag := rfl
@[simp] theorem State.latch_response (n : FaultName) : (s.latch n).response = s.response := rfl

/-! ### `answered` -/

@[simp] theorem State.answered_pending (c : Command) (code : ResponseCode) (a : Answer) :
    (s.answered c code a).pending = s.pending := rfl
@[simp] theorem State.answered_now (c : Command) (code : ResponseCode) (a : Answer) :
    (s.answered c code a).now = s.now := rfl
@[simp] theorem State.answered_resetHeld (c : Command) (code : ResponseCode) (a : Answer) :
    (s.answered c code a).resetHeld = s.resetHeld := rfl
@[simp] theorem State.answered_joined (c : Command) (code : ResponseCode) (a : Answer) :
    (s.answered c code a).joined = s.joined := rfl
@[simp] theorem State.answered_number (c : Command) (code : ResponseCode) (a : Answer) :
    (s.answered c code a).number = s.number := rfl
@[simp] theorem State.answered_config (c : Command) (code : ResponseCode) (a : Answer) :
    (s.answered c code a).config = s.config := rfl
@[simp] theorem State.answered_ports (c : Command) (code : ResponseCode) (a : Answer) :
    (s.answered c code a).ports = s.ports := rfl
@[simp] theorem State.answered_map (c : Command) (code : ResponseCode) (a : Answer) :
    (s.answered c code a).map = s.map := rfl
@[simp] theorem State.answered_reach (c : Command) (code : ResponseCode) (a : Answer) :
    (s.answered c code a).reach = s.reach := rfl
@[simp] theorem State.answered_deferred (c : Command) (code : ResponseCode) (a : Answer) :
    (s.answered c code a).deferred = s.deferred := rfl
@[simp] theorem State.answered_circuits (c : Command) (code : ResponseCode) (a : Answer) :
    (s.answered c code a).circuits = s.circuits := rfl
@[simp] theorem State.answered_claims (c : Command) (code : ResponseCode) (a : Answer) :
    (s.answered c code a).claims = s.claims := rfl
@[simp] theorem State.answered_calls (c : Command) (code : ResponseCode) (a : Answer) :
    (s.answered c code a).calls = s.calls := rfl
@[simp] theorem State.answered_callUnit (c : Command) (code : ResponseCode) (a : Answer) :
    (s.answered c code a).callUnit = s.callUnit := rfl
@[simp] theorem State.answered_playout (c : Command) (code : ResponseCode) (a : Answer) :
    (s.answered c code a).playout = s.playout := rfl
@[simp] theorem State.answered_incidents (c : Command) (code : ResponseCode) (a : Answer) :
    (s.answered c code a).incidents = s.incidents := rfl
@[simp] theorem State.answered_readings (c : Command) (code : ResponseCode) (a : Answer) :
    (s.answered c code a).readings = s.readings := rfl
@[simp] theorem State.answered_warnings (c : Command) (code : ResponseCode) (a : Answer) :
    (s.answered c code a).warnings = s.warnings := rfl
@[simp] theorem State.answered_speed (c : Command) (code : ResponseCode) (a : Answer) :
    (s.answered c code a).speed = s.speed := rfl
@[simp] theorem State.answered_pages (c : Command) (code : ResponseCode) (a : Answer) :
    (s.answered c code a).pages = s.pages := rfl
@[simp] theorem State.answered_faces (c : Command) (code : ResponseCode) (a : Answer) :
    (s.answered c code a).faces = s.faces := rfl
@[simp] theorem State.answered_toll (c : Command) (code : ResponseCode) (a : Answer) :
    (s.answered c code a).toll = s.toll := rfl
@[simp] theorem State.answered_counts (c : Command) (code : ResponseCode) (a : Answer) :
    (s.answered c code a).counts = s.counts := rfl
@[simp] theorem State.answered_faults (c : Command) (code : ResponseCode) (a : Answer) :
    (s.answered c code a).faults = s.faults := rfl
@[simp] theorem State.answered_lineFlag (c : Command) (code : ResponseCode) (a : Answer) :
    (s.answered c code a).lineFlag = s.lineFlag := rfl
@[simp] theorem State.answered_response (c : Command) (code : ResponseCode) (a : Answer) :
    (s.answered c code a).response = { code := code, answered := c, answer := a } := rfl

/-! ### `clockTo` -/

@[simp] theorem State.clockTo_pending (due : Nat) : (s.clockTo due).pending = s.pending := rfl
@[simp] theorem State.clockTo_now (due : Nat) : (s.clockTo due).now = max s.now due := rfl
@[simp] theorem State.clockTo_resetHeld (due : Nat) : (s.clockTo due).resetHeld = s.resetHeld := rfl
@[simp] theorem State.clockTo_joined (due : Nat) : (s.clockTo due).joined = s.joined := rfl
@[simp] theorem State.clockTo_number (due : Nat) : (s.clockTo due).number = s.number := rfl
@[simp] theorem State.clockTo_config (due : Nat) : (s.clockTo due).config = s.config := rfl
@[simp] theorem State.clockTo_ports (due : Nat) : (s.clockTo due).ports = s.ports := rfl
@[simp] theorem State.clockTo_map (due : Nat) : (s.clockTo due).map = s.map := rfl
@[simp] theorem State.clockTo_reach (due : Nat) : (s.clockTo due).reach = s.reach := rfl
@[simp] theorem State.clockTo_deferred (due : Nat) : (s.clockTo due).deferred = s.deferred := rfl
@[simp] theorem State.clockTo_circuits (due : Nat) : (s.clockTo due).circuits = s.circuits := rfl
@[simp] theorem State.clockTo_claims (due : Nat) : (s.clockTo due).claims = s.claims := rfl
@[simp] theorem State.clockTo_calls (due : Nat) : (s.clockTo due).calls = s.calls := rfl
@[simp] theorem State.clockTo_callUnit (due : Nat) : (s.clockTo due).callUnit = s.callUnit := rfl
@[simp] theorem State.clockTo_playout (due : Nat) : (s.clockTo due).playout = s.playout := rfl
@[simp] theorem State.clockTo_incidents (due : Nat) : (s.clockTo due).incidents = s.incidents := rfl
@[simp] theorem State.clockTo_readings (due : Nat) : (s.clockTo due).readings = s.readings := rfl
@[simp] theorem State.clockTo_warnings (due : Nat) : (s.clockTo due).warnings = s.warnings := rfl
@[simp] theorem State.clockTo_speed (due : Nat) : (s.clockTo due).speed = s.speed := rfl
@[simp] theorem State.clockTo_pages (due : Nat) : (s.clockTo due).pages = s.pages := rfl
@[simp] theorem State.clockTo_faces (due : Nat) : (s.clockTo due).faces = s.faces := rfl
@[simp] theorem State.clockTo_toll (due : Nat) : (s.clockTo due).toll = s.toll := rfl
@[simp] theorem State.clockTo_counts (due : Nat) : (s.clockTo due).counts = s.counts := rfl
@[simp] theorem State.clockTo_faults (due : Nat) : (s.clockTo due).faults = s.faults := rfl
@[simp] theorem State.clockTo_lineFlag (due : Nat) : (s.clockTo due).lineFlag = s.lineFlag := rfl
@[simp] theorem State.clockTo_response (due : Nat) : (s.clockTo due).response = s.response := rfl

end Sys2Proof.Machine
end

