-- ==== Sys2Proof/Laws/Ops.lean ====
section
/-! SUPPORT. What the shared operations can do, said once: timers, commands, the transmit queues and sending. -/

namespace Sys2Proof.Machine

open Sys2Proof

/-! ### Timers and commands -/

theorem State.onTimer_held (t : Timer) (act : State → State) (s : State) (h : s.resetHeld = true) :
    s.onTimer t act = s := by
  simp [State.onTimer, h]

theorem State.onTimer_stopped (act : State → State) (s : State) : s.onTimer none act = s := by
  simp [State.onTimer]

theorem State.onTimer_running (due : Nat) (act : State → State) (s : State) (h : s.resetHeld = false) :
    s.onTimer (some due) act = act (s.clockTo due) := by
  simp [State.onTimer, h]

/-- All a timer's event can do: nothing, or its act at the moment due. -/
theorem State.onTimer_cases (t : Timer) (act : State → State) (s : State) :
    s.onTimer t act = s ∨ ∃ due, t = some due ∧ s.resetHeld = false ∧ s.onTimer t act = act (s.clockTo due) := by
  cases h : s.resetHeld with
  | true => exact .inl (State.onTimer_held t act s h)
  | false =>
    cases t with
    | none => exact .inl (State.onTimer_stopped act s)
    | some due => exact .inr ⟨due, rfl, rfl, State.onTimer_running due act s h⟩

theorem State.unlessHeld_cases (act : State → State) (s : State) :
    s.unlessHeld act = s ∨ s.resetHeld = false ∧ s.unlessHeld act = act s := by
  cases h : s.resetHeld <;> simp [State.unlessHeld, h]

/-- All a command can do: nothing while pin reset is held, a refusal, or its body. -/
theorem State.command_cases (c : Command) (args : List Word) (body : State → ResponseCode × Answer × State) (s : State) :
    s.resetHeld = true ∧ s.command c args body = s ∨
      (∃ code, s.refusal c args.length = some code ∧ s.command c args body = s.answered c code .none) ∨
      s.refusal c args.length = none ∧
        s.command c args body = (body s).2.2.answered c (body s).1 (body s).2.1 := by
  cases h : s.resetHeld with
  | true => exact .inl ⟨rfl, by simp [State.command, h]⟩
  | false =>
    cases hr : s.refusal c args.length with
    | some code => exact .inr (.inl ⟨code, rfl, by simp [State.command, h, hr]⟩)
    | none => exact .inr (.inr ⟨rfl, by simp [State.command, h, hr]⟩)

/-! ### A port's queues (R29 to R34) -/

/-- The parts of a port that its queues and transmitter are not: state, inputs, probe count, probe timers, history. -/
def Port.SameLink (a b : Port) : Prop :=
  b.state = a.state ∧ b.endStrap = a.endStrap ∧ b.signal = a.signal ∧ b.probes = a.probes ∧
    b.probeTimer = a.probeTimer ∧ b.history = a.history ∧ b.probeSendTimer = a.probeSendTimer

theorem Port.SameLink.rfl' (p : Port) : p.SameLink p := ⟨rfl, rfl, rfl, rfl, rfl, rfl, rfl⟩

theorem Port.SameLink.trans {a b c : Port} (h : a.SameLink b) (k : b.SameLink c) : a.SameLink c := by
  obtain ⟨h1, h2, h3, h4, h5, h6, h7⟩ := h
  obtain ⟨k1, k2, k3, k4, k5, k6, k7⟩ := k
  exact ⟨k1.trans h1, k2.trans h2, k3.trans h3, k4.trans h4, k5.trans h5, k6.trans h6, k7.trans h7⟩

/-- All a free transmitter can do: become IDLE, or take the head that its state lets it send from the picked queue. -/
theorem Port.takeNext_cases (p : Port) :
    p.takeNext = ({ p with sending := none }, none) ∨
      ∃ q f rest,
        p.pick = some q ∧ p.sendable q = f :: rest ∧
          p.takeNext =
            ({ p with
                queues := p.queues.set q ((p.queues.get q).erase f)
                sending := some f
                waitCL := waitAfter q .cl (!p.queues.cl.isEmpty) p.waitCL
                waitBL := waitAfter q .bl (!p.queues.bl.isEmpty) p.waitBL }, some q) := by
  unfold Port.takeNext
  cases hp : p.pick with
  | none => exact .inl rfl
  | some q =>
    cases hs : p.sendable q with
    | nil => exact .inl (by simp [hs])
    | cons f rest => exact .inr ⟨q, f, rest, rfl, hs, by simp [hs]⟩

theorem Port.takeNext_sameLink (p : Port) : p.SameLink p.takeNext.1 := by
  obtain h | ⟨q, f, rest, -, -, h⟩ := p.takeNext_cases <;> rw [h] <;> exact ⟨rfl, rfl, rfl, rfl, rfl, rfl, rfl⟩

/-- All an offer can do (R29 to R32): be refused, join a busy port's queue, or join and be followed by a take. -/
theorem Port.offer_cases (p : Port) (q : QueueName) (f : Frame) :
    (q.capacity ≤ (p.queues.get q).length ∧ q.dropsOldest = false ∧ p.offer q f = ⟨p, false, none⟩) ∨
      ∃ held,
        (held = p.queues.get q ∧ (p.queues.get q).length < q.capacity ∨
          held = (p.queues.get q).drop 1 ∧ q.capacity ≤ (p.queues.get q).length) ∧
        ((p.sending.isSome = true ∧
            p.offer q f = ⟨{ p with queues := p.queues.set q (held ++ [f]) }, true, none⟩) ∨
          p.sending = none ∧
            p.offer q f =
              ⟨({ p with queues := p.queues.set q (held ++ [f]) } : Port).takeNext.1, true,
                ({ p with queues := p.queues.set q (held ++ [f]) } : Port).takeNext.2⟩) := by
  by_cases hc : q.capacity ≤ (p.queues.get q).length
  · by_cases hd : q.dropsOldest = false
    · exact .inl ⟨hc, hd, by simp [Port.offer, hc, hd]⟩
    · refine .inr ⟨(p.queues.get q).drop 1, .inr ⟨rfl, hc⟩, ?_⟩
      cases hs : p.sending with
      | none => exact .inr ⟨rfl, by simp [Port.offer, hc, hd, hs]⟩
      | some g => exact .inl ⟨rfl, by simp [Port.offer, hc, hd, hs]⟩
  · refine .inr ⟨p.queues.get q, .inl ⟨rfl, by omega⟩, ?_⟩
    cases hs : p.sending with
    | none => exact .inr ⟨rfl, by simp [Port.offer, hc, hs]⟩
    | some g => exact .inl ⟨rfl, by simp [Port.offer, hc, hs]⟩

theorem Port.offer_sameLink (p : Port) (q : QueueName) (f : Frame) : p.SameLink (p.offer q f).port := by
  obtain ⟨-, -, h⟩ | ⟨held, -, ⟨-, h⟩ | ⟨-, h⟩⟩ := p.offer_cases q f
  · rw [h]; exact Port.SameLink.rfl' p
  · rw [h]; exact ⟨rfl, rfl, rfl, rfl, rfl, rfl, rfl⟩
  · rw [h]
    have k := ({ p with queues := p.queues.set q (held ++ [f]) } : Port).takeNext_sameLink
    exact ⟨k.1, k.2.1, k.2.2.1, k.2.2.2.1, k.2.2.2.2.1, k.2.2.2.2.2.1, k.2.2.2.2.2.2⟩

/-! ### Sending touches the ports' queues, the deferred list and the toll unit alone -/

/-- The two states differ in nothing but the ports' queues, the deferred list and the toll unit. -/
def State.LineWork (s t : State) : Prop :=
  ∃ ports deferred toll,
    t = { s with ports := ports, deferred := deferred, toll := toll } ∧
      ∀ p, (s.ports.get p).SameLink (ports.get p)

theorem State.LineWork.rfl' (s : State) : s.LineWork s :=
  ⟨s.ports, s.deferred, s.toll, rfl, fun p => Port.SameLink.rfl' (s.ports.get p)⟩

theorem State.LineWork.trans {s t u : State} (h : s.LineWork t) (k : t.LineWork u) : s.LineWork u := by
  obtain ⟨p, d, l, rfl, hp⟩ := h
  obtain ⟨p', d', l', rfl, hp'⟩ := k
  exact ⟨p', d', l', rfl, fun x => (hp x).trans (hp' x)⟩

theorem State.LineWork.modToll (s : State) (f : Toll → Toll) : s.LineWork (s.modToll f) :=
  ⟨s.ports, s.deferred, f s.toll, rfl, fun p => Port.SameLink.rfl' (s.ports.get p)⟩

theorem State.LineWork.setDeferred (s : State) (d : List Deferred) : s.LineWork { s with deferred := d } :=
  ⟨s.ports, d, s.toll, rfl, fun p => Port.SameLink.rfl' (s.ports.get p)⟩

theorem State.LineWork.modPort (s : State) (p : Side) (f : Port → Port)
    (h : (s.ports.get p).SameLink (f (s.ports.get p))) : s.LineWork (s.modPort p f) := by
  refine ⟨s.ports.set p (f (s.ports.get p)), s.deferred, s.toll, rfl, fun x => ?_⟩
  cases p <;> cases x <;> first | exact h | exact Port.SameLink.rfl' _

theorem State.offerQueue_lineWork (p : Side) (q : QueueName) (f : Frame) (s : State) :
    s.LineWork (s.offerQueue p q f).state := by
  exact State.LineWork.modPort s p (fun _ => ((s.ports.get p).offer q f).port) (Port.offer_sameLink _ q f)

theorem State.offerPort_lineWork (p : Side) (f : Frame) (s : State) : s.LineWork (s.offerPort p f).state := by
  unfold State.offerPort
  split
  · exact State.offerQueue_lineWork p _ f s
  · exact State.LineWork.rfl' s

theorem State.offerTo_lineWork (ps : List Side) (f : Frame) (s : State) : s.LineWork (s.offerTo ps f).state := by
  suffices h : ∀ (ps : List Side) (r : Sent),
      s.LineWork r.state →
        s.LineWork (ps.foldl
          (fun r p =>
            let o := r.state.offerPort p f
            (⟨o.state, r.sent || o.sent, r.takes ++ o.takes⟩ : Sent)) r).state from
    h ps _ (State.LineWork.rfl' s)
  intro ps
  induction ps with
  | nil => exact fun _ h => h
  | cons p ps ih => exact fun r h => ih _ (h.trans (State.offerPort_lineWork p f r.state))

theorem State.offerRoutes_lineWork (f : Frame) (s : State) : s.LineWork (s.offerRoutes f).state :=
  State.offerTo_lineWork _ f s

theorem reofferGo_lineWork (cls : FrameClass) (ds : List Deferred) (s : State) :
    s.LineWork (reofferGo cls ds s).2.1 := by
  induction ds generalizing s with
  | nil => exact State.LineWork.rfl' s
  | cons d ds ih =>
    unfold reofferGo
    split
    · simp only
      split
      · exact (State.offerRoutes_lineWork d.frame s).trans (ih _)
      · exact State.offerRoutes_lineWork d.frame s
    · exact ih s

theorem State.reoffer_lineWork (cls : FrameClass) (s : State) : s.LineWork (s.reoffer cls).1 :=
  (reofferGo_lineWork cls s.deferred s).trans (State.LineWork.setDeferred _ _)

theorem State.offerToll_lineWork (d : Side) (sink : Nat) (e : TollEntry) (s : State) :
    s.LineWork (s.offerToll d sink e).state := by
  unfold State.offerToll
  simp only
  split
  · exact (State.offerPort_lineWork d (s.tollFrame sink e) s).trans ⟨_, _, _, rfl, fun p => Port.SameLink.rfl' _⟩
  · exact State.offerPort_lineWork d _ s

theorem tollTryGo_lineWork (n : Nat) (s : State) : s.LineWork (tollTryGo n s).1 := by
  induction n generalizing s with
  | zero => exact State.LineWork.rfl' s
  | succ n ih =>
    unfold tollTryGo
    split
    · split
      · simp only
        split
        · exact (State.offerToll_lineWork _ _ _ s).trans (ih _)
        · exact State.offerToll_lineWork _ _ _ s
      · exact State.LineWork.rfl' s
    · exact State.LineWork.rfl' s

theorem State.onTake_lineWork (t : Take) (s : State) : s.LineWork (s.onTake t).1 := by
  unfold State.onTake
  split
  · exact State.reoffer_lineWork _ s
  · simp only
    split
    · exact (State.reoffer_lineWork _ s).trans (tollTryGo_lineWork 8 _)
    · exact State.reoffer_lineWork _ s
  · exact State.LineWork.rfl' s

theorem settleGo_lineWork (n : Nat) (ts : List Take) (s : State) : s.LineWork (settleGo n ts s) := by
  induction n generalizing ts s with
  | zero => exact State.LineWork.rfl' s
  | succ n ih =>
    cases ts with
    | nil => exact State.LineWork.rfl' s
    | cons t ts => exact (State.onTake_lineWork t s).trans (ih _ _)

theorem State.settle_lineWork (ts : List Take) (s : State) : s.LineWork (s.settle ts) := settleGo_lineWork 8 ts s

theorem State.sendTold_lineWork (f : Frame) (s : State) : s.LineWork (s.sendTold f).2 :=
  (State.offerRoutes_lineWork f s).trans (State.settle_lineWork _ _)

theorem State.send_lineWork (f : Frame) (s : State) : s.LineWork (s.send f) := State.sendTold_lineWork f s

theorem State.defer_lineWork (tag : DeferTag) (f : Frame) (s : State) : s.LineWork (s.defer tag f) :=
  State.LineWork.setDeferred s _

theorem State.withdraw_lineWork (tag : DeferTag) (s : State) : s.LineWork (s.withdraw tag) :=
  State.LineWork.setDeferred s _

theorem State.sendOneOff_lineWork (tag : DeferTag) (f : Frame) (s : State) : s.LineWork (s.sendOneOff tag f) := by
  unfold State.sendOneOff
  simp only
  split
  · exact State.sendTold_lineWork f s
  · exact (State.sendTold_lineWork f s).trans (State.defer_lineWork tag f _)

theorem State.sendOn_lineWork (p : Side) (f : Frame) (s : State) : s.LineWork (s.sendOn p f) :=
  (State.offerPort_lineWork p f s).trans (State.settle_lineWork _ _)

theorem State.tollTry_lineWork (s : State) : s.LineWork s.tollTry :=
  (tollTryGo_lineWork 8 s).trans (State.settle_lineWork _ _)

end Sys2Proof.Machine
end

