-- ==== Sys2Proof/Laws/Blocks.lean ====
section
/-! SUPPORT. What the operations of the job blocks can change, said once: the speed and sign units, the call and circuit units,
the toll and count units. -/

namespace Sys2Proof.Machine

open Sys2Proof

/-! ### The speed and sign units -/

/-- The two states differ in nothing but the ports' queues, the deferred list, the toll unit, the speed unit, the warnings and
the faces. -/
def State.RoadWork (s t : State) : Prop :=
  ∃ u speed warnings faces, s.LineWork u ∧ t = { u with speed := speed, warnings := warnings, faces := faces }

theorem State.LineWork.road {s t : State} (h : s.LineWork t) : s.RoadWork t :=
  ⟨t, t.speed, t.warnings, t.faces, h, rfl⟩

theorem State.RoadWork.rfl' (s : State) : s.RoadWork s := (State.LineWork.rfl' s).road

theorem State.RoadWork.trans {s t u : State} (h : s.RoadWork t) (k : t.RoadWork u) : s.RoadWork u := by
  obtain ⟨v, sp, w, f, ⟨p, d, l, rfl, hp⟩, rfl⟩ := h
  obtain ⟨v', sp', w', f', ⟨p', d', l', rfl, hp'⟩, rfl⟩ := k
  exact ⟨_, sp', w', f', ⟨p', d', l', rfl, fun x => (hp x).trans (hp' x)⟩, rfl⟩

theorem State.RoadWork.parts (s : State) (speed : Speed) (warnings : Warnings) (faces : PerSide FaceUnit) :
    s.RoadWork { s with speed := speed, warnings := warnings, faces := faces } :=
  ⟨s, speed, warnings, faces, State.LineWork.rfl' s, rfl⟩

theorem State.select_roadWork (f : Face) (s : State) : s.RoadWork (s.select f) := by
  unfold State.select
  split
  · exact State.RoadWork.parts s s.speed s.warnings _
  · exact State.RoadWork.rfl' s

theorem State.setWarnings_roadWork (w : Warnings) (s : State) : s.RoadWork (s.setWarnings w) := by
  have h : s.RoadWork (s.modWarnings fun _ => w) := State.RoadWork.parts s s.speed w s.faces
  unfold State.setWarnings
  simp only
  split <;> split
  · exact (h.trans (State.select_roadWork _ _)).trans (State.select_roadWork _ _)
  · exact h.trans (State.select_roadWork _ _)
  · exact h.trans (State.select_roadWork _ _)
  · exact h

theorem State.buildSpeed_roadWork (s : State) : s.RoadWork s.buildSpeed :=
  (State.send_lineWork _ s).road.trans (State.RoadWork.parts _ _ (State.warnings _) (State.faces _))

theorem State.setCloseAdvised_roadWork (f : Face) (on : Bool) (s : State) : s.RoadWork (s.setCloseAdvised f on) := by
  unfold State.setCloseAdvised
  split
  · exact State.RoadWork.rfl' s
  · exact (State.RoadWork.parts s s.speed _ s.faces).trans (State.select_roadWork _ _)

theorem State.evaluate_roadWork (timer : Bool) (s : State) : s.RoadWork (s.evaluate timer) := by
  have h : ∀ x, s.RoadWork (s.modSpeed x) := fun x => State.RoadWork.parts s _ s.warnings s.faces
  unfold State.evaluate
  simp only
  split
  · exact ((h _).trans (State.setCloseAdvised_roadWork _ _ _)).trans (State.setCloseAdvised_roadWork _ _ _)
  · exact (((h _).trans (State.setCloseAdvised_roadWork _ _ _)).trans (State.setCloseAdvised_roadWork _ _ _)).trans
      (State.buildSpeed_roadWork _)

theorem State.incidentsChanged_roadWork (cause : Bool) (s : State) : s.RoadWork (s.incidentsChanged cause) := by
  unfold State.incidentsChanged
  simp only
  split
  · exact (State.setWarnings_roadWork _ s).trans (State.evaluate_roadWork _ _)
  · exact State.setWarnings_roadWork _ s

/-- Sending images changes the faces and the latched faults alone. -/
def State.ImageWork (s t : State) : Prop := ∃ faces faults, t = { s with faces := faces, faults := faults }

theorem State.ImageWork.rfl' (s : State) : s.ImageWork s := ⟨s.faces, s.faults, rfl⟩

theorem State.ImageWork.trans {s t u : State} (h : s.ImageWork t) (k : t.ImageWork u) : s.ImageWork u := by
  obtain ⟨f, l, rfl⟩ := h
  obtain ⟨f', l', rfl⟩ := k
  exact ⟨f', l', rfl⟩

theorem State.countMissing_imageWork (f : Face) (s : State) : s.ImageWork (s.countMissing f) := by
  unfold State.countMissing
  split <;> exact ⟨_, _, rfl⟩

theorem State.sendImage_imageWork (f : Face) (s : State) : s.ImageWork (s.sendImage f) := by
  unfold State.sendImage
  simp only
  split
  · have h : s.ImageWork (s.modFace f fun u => { u with awaited := u.awaited.drop 1 }) := ⟨_, s.faults, rfl⟩
    exact (h.trans (State.countMissing_imageWork f _)).trans ⟨_, _, rfl⟩
  · exact ⟨_, s.faults, rfl⟩

theorem State.imageIfChanged_imageWork (f : Face) (s before : State) : s.ImageWork (s.imageIfChanged f before) := by
  unfold State.imageIfChanged
  split
  · split
    · exact State.ImageWork.rfl' s
    · exact State.sendImage_imageWork f s
  · exact State.ImageWork.rfl' s

/-- Beside what the event itself does, the images it makes due change the faces and the latched faults alone. -/
theorem State.withImages_cases (act : State → State) (s : State) : (act s).ImageWork (s.withImages act) :=
  (State.imageIfChanged_imageWork .east (act s) s).trans (State.imageIfChanged_imageWork .west _ s)

/-! ### The circuit and call units -/

/-- The two states differ in nothing but the ports' queues, the deferred list, the toll unit, the circuit unit, the call unit
and the playout unit. -/
def State.CallWork (s t : State) : Prop :=
  ∃ u circuits claims calls callUnit playout,
    s.LineWork u ∧
      t = { u with circuits := circuits, claims := claims, calls := calls, callUnit := callUnit, playout := playout }

theorem State.CallWork.trans {s t u : State} (h : s.CallWork t) (k : t.CallWork u) : s.CallWork u := by
  obtain ⟨v, a, b, c, e, f, ⟨p, d, l, rfl, hp⟩, rfl⟩ := h
  obtain ⟨v', a', b', c', e', f', ⟨p', d', l', rfl, hp'⟩, rfl⟩ := k
  exact ⟨_, a', b', c', e', f', ⟨p', d', l', rfl, fun x => (hp x).trans (hp' x)⟩, rfl⟩

theorem State.LineWork.call {s t : State} (h : s.LineWork t) : s.CallWork t :=
  ⟨t, t.circuits, t.claims, t.calls, t.callUnit, t.playout, h, rfl⟩

theorem State.CallWork.rfl' (s : State) : s.CallWork s := (State.LineWork.rfl' s).call

theorem State.CallWork.parts (s : State) (circuits : Vector Circuit 16) (claims : Vector ClaimRecord 4)
    (calls : Vector CallRecord 4) (callUnit : CallUnit) (playout : Playout) :
    s.CallWork
      { s with circuits := circuits, claims := claims, calls := calls, callUnit := callUnit, playout := playout } :=
  ⟨s, circuits, claims, calls, callUnit, playout, State.LineWork.rfl' s, rfl⟩

theorem State.modCircuit_callWork (c : Fin 16) (f : Circuit → Circuit) (s : State) : s.CallWork (s.modCircuit c f) :=
  State.CallWork.parts s _ s.claims s.calls s.callUnit s.playout

theorem State.modClaim_callWork (b : Fin 4) (f : ClaimRecord → ClaimRecord) (s : State) : s.CallWork (s.modClaim b f) :=
  State.CallWork.parts s s.circuits _ s.calls s.callUnit s.playout

theorem State.modCall_callWork (b : Fin 4) (f : CallRecord → CallRecord) (s : State) : s.CallWork (s.modCall b f) :=
  State.CallWork.parts s s.circuits s.claims _ s.callUnit s.playout

theorem State.modCallUnit_callWork (f : CallUnit → CallUnit) (s : State) : s.CallWork (s.modCallUnit f) :=
  State.CallWork.parts s s.circuits s.claims s.calls _ s.playout

theorem State.modPlayout_callWork (f : Playout → Playout) (s : State) : s.CallWork (s.modPlayout f) :=
  State.CallWork.parts s s.circuits s.claims s.calls s.callUnit _

theorem State.chooseCircuit_callWork (b : Fin 4) (s : State) : s.CallWork (s.chooseCircuit b) := by
  unfold State.chooseCircuit
  split
  · exact State.modClaim_callWork b _ s
  · exact ((State.modCircuit_callWork _ _ s).trans (State.modCall_callWork b _ _)).trans
      (State.sendOneOff_lineWork _ _ _).call

theorem State.wantCircuit_callWork (b : Fin 4) (s : State) : s.CallWork (s.wantCircuit b) :=
  (State.modClaim_callWork b _ s).trans (State.chooseCircuit_callWork b _)

theorem State.yieldCircuit_callWork (c : Fin 16) (b : Fin 4) (rival : Nat) (s : State) :
    s.CallWork (s.yieldCircuit c b rival) := by
  have h := ((State.modCircuit_callWork c (fun _ => .heldOther rival s.now) s).trans
    (State.modCall_callWork b (fun r => { r with circuit := none }) _)).trans (State.withdraw_lineWork (.claim c) _).call
  unfold State.yieldCircuit
  simp only
  split
  · exact (h.trans (State.modClaim_callWork b _ _)).trans (State.chooseCircuit_callWork b _)
  · exact (h.trans (State.modClaim_callWork b _ _)).trans (State.modClaim_callWork b _ _)

theorem State.sendAssert_callWork (c : Fin 16) (b : Fin 4) (s : State) : s.CallWork (s.sendAssert c b) :=
  (State.sendOneOff_lineWork _ _ s).call.trans (State.modCircuit_callWork c _ _)

theorem State.rehome_callWork (c : Fin 16) (b : Fin 4) (rival : Nat) (s : State) : s.CallWork (s.rehome c b rival) :=
  (((State.modCircuit_callWork c _ s).trans (State.modCall_callWork b _ _)).trans
    (State.withdraw_lineWork _ _).call).trans (State.wantCircuit_callWork b _)

/-- All a CLAIM, or a VOICE block shown as one, can do (R49, R52 to R54). -/
theorem State.takeClaim_callWork (rival : Nat) (c : Fin 16) (held : Bool) (s : State) :
    s.CallWork (s.takeClaim rival c held) := by
  unfold State.takeClaim
  split
  · exact State.modCircuit_callWork c _ s
  · split
    · exact State.modCircuit_callWork c _ s
    · exact State.CallWork.rfl' s
  · split
    · exact State.yieldCircuit_callWork c _ rival s
    · exact (State.sendOneOff_lineWork _ _ s).call
  · split
    · exact State.rehome_callWork c _ rival s
    · unfold State.meetRival
      split
      · exact State.CallWork.rfl' s
      · exact State.sendAssert_callWork c _ s

theorem State.releaseCall_callWork (b : Fin 4) (s : State) : s.CallWork (s.releaseCall b) := by
  have h := State.modClaim_callWork b (fun _ => resetClaim) s
  unfold State.releaseCall
  simp only
  split
  · exact h.trans (State.modCall_callWork b _ _)
  · exact (((h.trans (State.modCircuit_callWork _ _ _)).trans (State.modCall_callWork b _ _)).trans
      (State.withdraw_lineWork _ _).call).trans (State.sendOneOff_lineWork _ _ _).call

theorem State.playCallChange_callWork (b : Fin 4) (old new : CallState) (s : State) :
    s.CallWork (s.playCallChange b old new) :=
  State.CallWork.parts s s.circuits s.claims s.calls s.callUnit _

theorem State.putCall_callWork (b : Fin 4) (r : CallRecord) (s : State) : s.CallWork (s.putCall b r) := by
  unfold State.putCall
  simp only
  split
  · split
    · exact State.modCall_callWork b _ s
    · exact (State.modCall_callWork b _ s).trans (State.modCallUnit_callWork _ _)
  · have h := ((State.modCall_callWork b (fun _ => { r with changedAt := s.now }) s).trans
      (State.modCallUnit_callWork (fun u => { u with callsChanged := true }) _)).trans
      (State.playCallChange_callWork b s.calls[b].state r.state _)
    split
    · exact h.trans (State.withdraw_lineWork _ _).call
    · exact h

theorem State.putLane_callWork (l : Fin 2) (r : OpLane) (s : State) : s.CallWork (s.putLane l r) := by
  unfold State.putLane
  dsimp only
  generalize (if r.state = s.callUnit.lanes[l].state then r else { r with changedAt := s.now }) = x
  split
  · exact State.modCallUnit_callWork _ s
  · split
    · exact (State.CallWork.parts s s.circuits s.claims s.calls _ _).trans (State.withdraw_lineWork _ _).call
    · exact State.CallWork.parts s s.circuits s.claims s.calls _ _

theorem State.sendOffer_callWork (b : Fin 4) (c : Fin 16) (s : State) : s.CallWork (s.sendOffer b c) :=
  (State.modCall_callWork b _ s).trans (State.send_lineWork _ _).call

theorem State.offerIfHeld_callWork (b : Fin 4) (s : State) : s.CallWork (s.offerIfHeld b) := by
  unfold State.offerIfHeld
  split
  · exact State.sendOffer_callWork b _ s
  · exact State.modCall_callWork b _ s

theorem State.enterOffering_callWork (b : Fin 4) (s : State) : s.CallWork (s.enterOffering b) :=
  (State.putCall_callWork b _ s).trans (State.offerIfHeld_callWork b _)

theorem State.losePartner_callWork (b : Fin 4) (s : State) : s.CallWork (s.losePartner b) := by
  unfold State.losePartner
  split
  · exact State.enterOffering_callWork b s
  · exact State.CallWork.rfl' s

theorem State.endCall_callWork (b : Fin 4) (s : State) : s.CallWork (s.endCall b) := by
  refine State.CallWork.trans (State.CallWork.trans ?_ (State.releaseCall_callWork b _)) (State.putCall_callWork b _ _)
  unfold State.hangupPartner
  simp only
  split
  · exact (State.sendOneOff_lineWork _ _ s).call
  · exact State.CallWork.rfl' s

/-! ### The toll and count units -/

/-- The two states differ in nothing but the ports' queues, the deferred list, the toll unit and the count unit. -/
def State.TollWork (s t : State) : Prop := ∃ u counts, s.LineWork u ∧ t = { u with counts := counts }

theorem State.TollWork.trans {s t u : State} (h : s.TollWork t) (k : t.TollWork u) : s.TollWork u := by
  obtain ⟨v, a, ⟨p, d, l, rfl, hp⟩, rfl⟩ := h
  obtain ⟨v', a', ⟨p', d', l', rfl, hp'⟩, rfl⟩ := k
  exact ⟨_, a', ⟨p', d', l', rfl, fun x => (hp x).trans (hp' x)⟩, rfl⟩

theorem State.LineWork.toTollWork {s t : State} (h : s.LineWork t) : s.TollWork t := ⟨t, t.counts, h, rfl⟩

theorem State.modCounts_tollWork (f : Counts → Counts) (s : State) : s.TollWork (s.modCounts f) :=
  ⟨s, f s.counts, State.LineWork.rfl' s, rfl⟩

theorem State.enterToll_tollWork (c : TollContent) (s : State) : s.TollWork (s.enterToll c) :=
  (State.LineWork.modToll s _).toTollWork

theorem State.reportRemoved_tollWork (s : State) : s.TollWork s.reportRemoved := by
  unfold State.reportRemoved
  split
  · exact (State.LineWork.rfl' s).toTollWork
  · exact (State.modCounts_tollWork _ s).trans (State.enterToll_tollWork _ _)

theorem State.deliverOwn_tollWork (e : TollEntry) (rest : List TollEntry) (s : State) :
    s.TollWork (s.deliverOwn e rest) := by
  unfold State.deliverOwn
  simp only
  split
  · exact (State.LineWork.modToll s _).toTollWork.trans (State.reportRemoved_tollWork _)
  · exact (State.LineWork.modToll s _).toTollWork

theorem ownDeliveryGo_tollWork (n : Nat) (s : State) : s.TollWork (ownDeliveryGo n s) := by
  induction n generalizing s with
  | zero => exact (State.LineWork.rfl' s).toTollWork
  | succ n ih =>
    unfold ownDeliveryGo
    split
    · exact (State.LineWork.rfl' s).toTollWork
    · split
      · exact (State.deliverOwn_tollWork _ _ s).trans (ih _)
      · exact (State.LineWork.rfl' s).toTollWork

theorem State.afterEntry_tollWork (s : State) : s.TollWork s.afterEntry := by
  unfold State.afterEntry
  split
  · exact ownDeliveryGo_tollWork 64 s
  · exact (State.tollTry_lineWork s).toTollWork

theorem State.placeReport_tollWork (r : Report) (s : State) : s.TollWork (s.placeReport r) := by
  unfold State.placeReport
  split
  · exact (State.enterToll_tollWork _ s).trans (State.afterEntry_tollWork _)
  · split
    · exact (State.LineWork.modToll s _).toTollWork
    · exact State.modCounts_tollWork _ s

/-- All a mark can do (R187). -/
theorem State.applyMark_tollWork (e : Word) (s : State) : s.TollWork (s.applyMark e) :=
  (State.modCounts_tollWork _ s).trans (State.placeReport_tollWork _ _)

theorem State.submitRecord_tollWork (r : TollRecord) (s : State) : s.TollWork (s.submitRecord r) :=
  ((State.enterToll_tollWork _ s).trans (State.modCounts_tollWork _ _)).trans (State.afterEntry_tollWork _)

theorem State.reviewSink_lineWork (s : State) : s.LineWork s.reviewSink := by
  unfold State.reviewSink
  split
  · split
    · exact State.LineWork.rfl' s
    · exact (State.LineWork.modToll s _).trans (State.tollTry_lineWork _)
  · exact State.LineWork.rfl' s

theorem State.reviewIfChanged_lineWork (s before : State) : s.LineWork (s.reviewIfChanged before) := by
  unfold State.reviewIfChanged
  split
  · exact State.LineWork.rfl' s
  · exact State.reviewSink_lineWork s

end Sys2Proof.Machine
end

