-- ==== Sys2Proof/Safety.lean ====
section
/-! DEFINITION. What stays true of the part: the invariants that the rules state of its records, each for the state as a whole.
No step of the part faults or is refused, so a safe run is one whose states keep these. -/

namespace Sys2Proof.Machine

open Sys2Proof

/-! ### What statements are stated in -/

/-- A command with this number of argument words is accepted for execution (R199): pin reset is not held, the station state
and the roles accept it, and it takes this count. -/
def State.Accepts (c : Command) (n : Nat) (s : State) : Prop :=
  s.resetHeld = false ∧ c.acceptedIn s.joined = true ∧ c.roleHeld s.config = true ∧ c.takesCount n = true

/-- The events by which the part's inputs show their levels (R14, R63, R203). -/
def isInput : Instr → Bool
  | .pinResetAsserted | .pinResetEnds _ | .hookOffHook _ | .hookOnHook _ | .signalDetectLost _
  | .signalDetectReturns _ => true
  | _ => false

/-- The place of a queue in the order of R33. -/
def QueueName.rank : QueueName → Nat
  | .vt => 0
  | .vl => 1
  | .ct => 2
  | .cl => 3
  | .bt => 4
  | .bl => 5

/-- The queues that a transmitter takes from in `n` takes one after another, while no frame joins. -/
def Port.takes : Nat → Port → List QueueName
  | 0, _ => []
  | n + 1, p =>
    match p.takeNext.2 with
    | none => []
    | some q => q :: Port.takes n p.takeNext.1

/-- A good frame that is not the station's own arrives at a port in UP or DEGRADED (R5 to R7). -/
def State.Arrives (p : Side) (bytes : List Byte) (f : Frame) (s : State) : Prop :=
  s.resetHeld = false ∧ (s.ports.get p).endStrap = false ∧ (s.ports.get p).isUp = true ∧ parseFrame bytes = some f ∧
    f.origin ≠ s.number

/-- The frame as the station's blocks get it, its hops increased by 1 (R8). -/
def Frame.counted (f : Frame) : Frame := { f with hops := f.hops + 1 }

/-- The state in which a frame that arrived at an UP or DEGRADED port is relayed and taken: its outcome is recorded (R17)
and the station map has it (R8). -/
def State.heard (p : Side) (f : Frame) (s : State) : State := (s.recordOutcome p true).learn p f.counted

/-- A valid probe of the adjacent station: good, not the station's own, arriving with hops 0, addressed to all or to this
station, with its payload in range (R15). -/
def State.ValidProbe (p : Side) (bytes : List Byte) (f : Frame) (x : ProbeFields) (s : State) : Prop :=
  s.resetHeld = false ∧ (s.ports.get p).endStrap = false ∧ parseFrame bytes = some f ∧ f.origin ≠ s.number ∧
    f.kind = 0 ∧ f.hops = 0 ∧ (f.target = 0 ∨ f.target = s.number) ∧ parseProbe f.payload = some x

/-- The state in which a frame that arrived at an UP or DEGRADED port is taken: heard, and relayed where R9 says so. -/
def State.reached (p : Side) (f : Frame) (s : State) : State := (s.heard p f).relay p f.counted

/-- A frame that arrives is taken when it is of this kind (R10): addressed to this station, or to all where the kind allows
it. -/
def Frame.TakenBy (k : FrameKind) (forAll : Bool) (number : Nat) (f : Frame) : Prop :=
  f.kind = k.code ∧ (f.target = number ∨ forAll = true ∧ f.target = 0)

/-- The queue at this port is full and takes no frame (R29). -/
def State.FullAt (p : Side) (q : QueueName) (s : State) : Prop :=
  q.capacity ≤ ((s.ports.get p).queues.get q).length ∧ q.dropsOldest = false

/-- What offering a frame to a queue with room makes of a port (R32, R33): behind a frame being sent it waits at the tail; an
IDLE transmitter takes it at once, which returns its queue's wait count to 0. -/
def Port.afterOffer (q : QueueName) (f : Frame) (p : Port) : Port :=
  if p.sending.isSome then
    if ((p.queues.get q).length < q.capacity) then { p with queues := p.queues.set q (p.queues.get q ++ [f]) } else p
  else
    { p with
      sending := some f
      waitCL := if q = .cl then 0 else p.waitCL
      waitBL := if q = .bl then 0 else p.waitBL }

/-- The ports after a frame was offered to a queue at each of these ports. -/
def State.portsAfterOffer (ps : List Side) (q : QueueName) (f : Frame) (s : State) : PerSide Port :=
  ⟨if Side.east ∈ ps then s.ports.east.afterOffer q f else s.ports.east,
    if Side.west ∈ ps then s.ports.west.afterOffer q f else s.ports.west⟩

/-- The deferred list after a refused frame has come to it (R38). -/
def deferredAfter (tag : DeferTag) (f : Frame) (ds : List Deferred) : List Deferred :=
  if (ds.filter fun d => !tag.replaces d.tag).length < 16 then (ds.filter fun d => !tag.replaces d.tag) ++ [⟨tag, f⟩]
  else ds.filter fun d => !tag.replaces d.tag

/-- What offering a local control or bulk frame through steering does to ports, deferred list and toll unit between `s` and
`t` (R23, R31, R32, R38): it joins its local queue at each port it is routed to that has room; refused by all, a one-off
frame (one with a tag) comes to the deferred list and another is given up. IDLE transmitters are described where nothing
else waits for them. -/
def State.Offered (tag : Option DeferTag) (f : Frame) (s t : State) : Prop :=
  ((∃ p ∈ s.routes f.target, ¬s.FullAt p (classOf f.kind).localQueue) →
      (∀ p ∈ s.routes f.target,
        (s.ports.get p).sending.isSome = true ∨
          (s.ports.get p).queues = emptyQueues ∧ s.deferred = [] ∧ ∀ d, s.sinkOn d = false) →
      t.ports = s.portsAfterOffer (s.routes f.target) (classOf f.kind).localQueue f ∧ t.deferred = s.deferred ∧
        t.toll = s.toll) ∧
    ((∀ p ∈ s.routes f.target, s.FullAt p (classOf f.kind).localQueue) →
      t.ports = s.ports ∧ t.toll = s.toll ∧
        t.deferred = match tag with | none => s.deferred | some g => deferredAfter g f s.deferred)

/-- Every port in UP or DEGRADED has its transmitter SENDING, so that a frame that joins a queue stays there for now (R32). -/
def State.Busy (s : State) : Prop := ∀ p : Side, (s.ports.get p).isUp = true → (s.ports.get p).sending.isSome = true

/-- The ports after these deferred frames were re-offered one after another, each through steering. -/
def State.afterReoffers (s : State) : List Deferred → State
  | [] => s
  | d :: ds =>
    { s with ports := s.portsAfterOffer (s.routes d.frame.target) (classOf d.frame.kind).localQueue d.frame }.afterReoffers ds

/-- What the re-offering of the deferred frames of one class makes of `s` (R39), where every port in use is SENDING: the oldest
leave one after another, up to the first that no port it is routed to has room for; the others keep their places. -/
def State.Reoffered (cls : FrameClass) (s t : State) : Prop :=
  let roomFor (d : Deferred) (u : State) : Prop :=
    ∃ p ∈ u.routes d.frame.target, ¬u.FullAt p (classOf d.frame.kind).localQueue
  ∃ out kept : List Deferred,
    (s.deferred.filter fun d => classOf d.frame.kind == cls) = out ++ kept ∧
      t = { s.afterReoffers out with deferred := t.deferred } ∧
      (t.deferred.filter fun d => classOf d.frame.kind == cls) = kept ∧
      (t.deferred.filter fun d => classOf d.frame.kind != cls) =
        (s.deferred.filter fun d => classOf d.frame.kind != cls) ∧
      t.deferred.Sublist s.deferred ∧
      (∀ (before after : List Deferred) (d : Deferred), out = before ++ d :: after → roomFor d (s.afterReoffers before)) ∧
      ∀ d rest, kept = d :: rest → ¬roomFor d t

/-- What a try of the toll unit makes of `s` (R171, R172): while a sink on a side is chosen, the oldest QUEUED entries become
SENT, each as a TOLL frame in the BL of that side's port, as long as fewer than 8 are SENT and the BL has room. An IDLE
transmitter with empty queues takes the first frame at once. -/
def State.TollTried (s t : State) : Prop :=
  ((∀ d sink, s.toll.sink ≠ .via d sink) → t = s) ∧
  ∀ (d : Side) (sink : Nat), s.toll.sink = .via d sink → (s.toll.store.map fun e => e.sequence).Nodup →
    let x := s.ports.get d
    let queued := s.toll.store.filter fun e => !e.sent
    let frame (e : TollEntry) : Frame :=
      s.newFrame .toll sink 63 (TollFrame.payload ⟨e.sequence, s.toll.base.getD e.sequence, s.toll.fresh, e.content⟩)
    let toll (out : List TollEntry) : Toll :=
      { s.toll with
        resendTimer := if out = [] then s.toll.resendTimer else some (s.now + 2000)
        store := s.toll.store.map fun e =>
          if e ∈ out then { e with sent := true, sendCount := min 255 (e.sendCount + 1) } else e }
    (x.isUp = false → t = s) ∧
    (x.isUp = true → x.sending.isSome = true →
      let out := queued.take (min (8 - s.toll.sentCount) (16 - x.queues.bl.length))
      t = { s with
        toll := toll out
        ports := s.ports.set d { x with queues := { x.queues with bl := x.queues.bl ++ out.map frame } } }) ∧
    (x.isUp = true → x.sending = none → x.queues = emptyQueues → s.deferred = [] →
      let out := queued.take (8 - s.toll.sentCount)
      (out = [] → t = s) ∧
      ∀ first rest, out = first :: rest →
        t = { s with
          toll := toll out
          ports := s.ports.set d
            { x with sending := some (frame first), waitBL := 0, queues := { x.queues with bl := rest.map frame } } })

/-- What own-sink delivery makes of `s` (R176, R191): the oldest entries of the store go to the delivery queue while that holds
fewer than 64; when the report is among them, a held snapshot joins the store's tail as the next report. -/
def State.OwnDelivered (s t : State) : Prop :=
  let room := 64 - s.toll.delivery.length
  let delivered (es : List TollEntry) : List Delivery := es.map fun e => ⟨s.number, e.sequence, e.content⟩
  (s.counts.held = none ∨ (∀ e ∈ s.toll.store.take room, e.content.isReport = false) →
    t = { s with
      toll := { s.toll with
        store := s.toll.store.drop room, delivery := s.toll.delivery ++ delivered (s.toll.store.take room) } }) ∧
  ∀ r, s.counts.held = some r → (∃ e ∈ s.toll.store.take room, e.content.isReport = true) →
    let store := s.toll.store ++ [⟨s.toll.counter, false, 0, .report r⟩]
    t = { s with
      counts := { s.counts with held := none }
      toll := { s.toll with
        store := store.drop room, counter := s.toll.counter + 1
        delivery := s.toll.delivery ++ delivered (store.take room) } }

/-- A queue of a port that is UP or DEGRADED, with room in it and its transmitter SENDING: a frame that joins it stays for
now. -/
def State.Ready (p : Side) (q : QueueName) (s : State) : Prop :=
  (s.ports.get p).isUp = true ∧ (s.ports.get p).sending.isSome = true ∧
    ((s.ports.get p).queues.get q).length < q.capacity

/-- The circuit table shows `c` held for the call at port `b`, and the call names it (R45). -/
def State.Holds (b : Fin 4) (c : Fin 16) (s : State) : Prop :=
  s.calls[b].circuit = some c ∧ ∃ refresh holdOff, s.circuits[c] = .heldOwn b refresh holdOff

/-- `c` is the lowest-numbered FREE circuit (R47). -/
def State.LowestFree (c : Fin 16) (s : State) : Prop :=
  s.circuits[c] = .free ∧ ∀ d : Fin 16, d < c → s.circuits[d] ≠ .free

/-- No circuit is FREE. -/
def State.NoneFree (s : State) : Prop := ∀ c : Fin 16, s.circuits[c] ≠ .free

/-- What R21 says of a port `p` that entered DOWN between `s` and `t`, and what it says is not changed. -/
def State.WentDown (p : Side) (s t : State) : Prop :=
  ((t.ports.get p).state = .down ∧ (t.ports.get p).probes = 0 ∧ (t.ports.get p).probeTimer = none ∧
      (t.ports.get p).history = [] ∧ (∀ q, (t.ports.get p).queues.get q = []) ∧ (t.ports.get p).sending = none ∧
      (t.ports.get p).waitCL = 0 ∧ (t.ports.get p).waitBL = 0) ∧
    ((t.ports.get p.other).state = (s.ports.get p.other).state ∧
      (t.ports.get p.other).history = (s.ports.get p.other).history ∧
      (t.ports.get p.other).probeTimer = (s.ports.get p.other).probeTimer) ∧
    t.map = (s.map.filter fun e => e.port != p) ∧
    (t.reach.get p = { answering := none, sink := none } ∧ t.reach.get p.other = s.reach.get p.other) ∧
    t.lineFlag = true ∧
    (t.speed.faces.get p).advert = none ∧
    (∀ o ∈ t.callUnit.offers, o.port ≠ p) ∧
    (∀ (b : Fin 4) (x : Partner), s.calls[b].state = .connected → s.calls[b].partner = some x → x.port = p →
      t.calls[b].state = .offering ∧ t.calls[b].partner = none) ∧
    (∀ (l : Fin 2) (c : LaneCall), s.callUnit.lanes[l].state = .taking ∨ s.callUnit.lanes[l].state = .talking →
      s.callUnit.lanes[l].call = some c → c.port = p →
      t.callUnit.lanes[l].state = .lost ∧ t.callUnit.lanes[l].outcome = .routeLost) ∧
    (s.joined = true → s.config.sink = false → ∀ station, t.toll.sink ≠ .via p station) ∧
    (t.circuits = s.circuits ∧ t.incidents = s.incidents ∧ t.readings = s.readings ∧ t.pages = s.pages ∧
      t.counts = s.counts ∧ t.config = s.config ∧ t.joined = s.joined ∧ t.faults = s.faults)

/-! ### Evaluations, selections and images (R118, R131, R133, R135, R136, R150, R158) -/

/-- The SPEED frame built from these speeds: the advert of a lit face is its D, that of an unlit one the lesser of D and the
advert held for it, and the lit flags are as the sign unit gives them (R136, R137). -/
def State.speedFrameOf (x : Speed) (s : State) : Frame :=
  let advert (g : Face) : Int :=
    if s.lit g then (x.faces.get g).d
    else match (x.faces.get g).advert with
      | none => (x.faces.get g).d
      | some h => min (x.faces.get g).d h.n
  s.newFrame .speed 0 1
    [BitVec.ofInt 8 (advert .east), BitVec.ofInt 8 (advert .west),
      byteOf ((if s.lit .east then 1 else 0) + (if s.lit .west then 2 else 0))]

/-- A change of D on either face between `s` and `t` sends one SPEED, built from the new values, and restarts the advert timer;
without one neither queues nor advert timer change (R135, R136). -/
def State.SpeedSent (s t : State) : Prop :=
  ((∀ g : Face, (t.speed.faces.get g).d = (s.speed.faces.get g).d) →
      t.speed.advertTimer = s.speed.advertTimer ∧ t.ports = s.ports ∧ t.deferred = s.deferred ∧ t.toll = s.toll) ∧
    ((∃ g : Face, (t.speed.faces.get g).d ≠ (s.speed.faces.get g).d) →
      t.speed.advertTimer = some (t.now + 5000) ∧ s.Offered none (s.speedFrameOf t.speed) t)

/-- One immediate evaluation of both faces stands between `s` and `t`, with the readings, the incidents and the adverts of `t`
(R131, R133, R134): D follows a lower target, a face at its target forgets its raises, CLOSE_ADVISED stands exactly where a_raw
is below Vmin, the evaluation timer runs on, and a change of D sends a SPEED. -/
def State.EvaluatedNow (s t : State) : Prop :=
  (∀ g : Face,
    let x := s.speed.faces.get g
    let e := t.evaluation g
    t.speed.faces.get g =
      { d := min e.t x.d, raiseCount := if e.t ≤ x.d then 0 else x.raiseCount, last := some e, advert := x.advert
        nearestUsed := nearestAhead g t.incidents.table } ∧
    (t.warnings.closeAdvised.get g = true ↔ e.aRaw < (t.config.vmin : Int))) ∧
  t.speed.evaluationTimer = s.speed.evaluationTimer ∧ s.SpeedSent t

/-- The warnings become `w`: a face whose set changes is selected once (R118, R150). -/
def State.reselectedBy (w : Warnings) (g : Face) (s : State) : State :=
  if [Warning.fog, .ice, .wind, .incident, .closeAdvised].all fun x => s.warnings.isOn g x == w.isOn g x then
    { s with warnings := w }
  else { s with warnings := w }.select g

/-- The image of a face between `s` and `t` (R158, R159): one image when the shown item, its page, the flash phase or D of a
selecting face changed, and else none. -/
def State.ImageFollows (g : Face) (s t : State) : Prop :=
  let x := s.faces.get g
  let y := t.faces.get g
  y.dark = x.dark ∧ y.lastAnswer = x.lastAnswer ∧
  (s.selecting g = false ∨ t.imageKey g = s.imageKey g → y = { x with selector := y.selector }) ∧
  (s.selecting g = true → t.imageKey g ≠ s.imageKey g →
    y.image = some { t.imageNow g with sequence := x.sequence } ∧ y.sequence = x.sequence + 1 ∧
      y.refreshTimer = some (t.now + 200) ∧
      y.awaited =
        (if x.awaited.length < 4 then x.awaited else x.awaited.drop 1) ++ [⟨x.sequence, some (t.now + 150)⟩] ∧
      (x.awaited.length < 4 → y.missing = x.missing ∧ y.faulted = x.faulted))

/-- What an event that changed the warnings from those of `s` to those of `t` makes of the faces: readings and incidents are
judged first and the evaluation sets CLOSE_ADVISED after them, a face is selected at each change of its set (R118, R133, R135),
and then sent the image it may owe (R158). -/
def State.FacesFollow (s t : State) : Prop :=
  ∀ g : Face,
    (t.faces.get g).selector =
      (((({ s with now := t.now } : State).reselectedBy { t.warnings with closeAdvised := s.warnings.closeAdvised }
        g).reselectedBy t.warnings g).faces.get g).selector ∧
    s.ImageFollows g t

/-- What an event that put the page store of `t` in place makes of the faces: where it is a selection event, each selecting face
is selected once (R145, R149, R150); and each is sent the image it may owe. -/
def State.FacesFollowPages (selects : Bool) (s t : State) : Prop :=
  ∀ g : Face,
    (t.faces.get g).selector =
      (if selects then ((({ s with now := t.now, pages := t.pages } : State).select g).faces.get g).selector
       else (s.faces.get g).selector) ∧
    s.ImageFollows g t

/-! ### Ports and queues (R14, R19, R20, R29) -/

/-- The queues hold no more than their capacities (R29). -/
def Queues.Within (q : Queues) : Prop :=
  q.vt.length ≤ 8 ∧ q.vl.length ≤ 4 ∧ q.ct.length ≤ 8 ∧ q.cl.length ≤ 16 ∧ q.bt.length ≤ 16 ∧ q.bl.length ≤ 16

/-- A port's record lies in its ranges: wait counts 0..4 (R29), probe count 0..3 and at most 32 outcomes (R14). -/
def Port.Within (p : Port) : Prop :=
  p.queues.Within ∧ p.waitCL ≤ 4 ∧ p.waitBL ≤ 4 ∧ p.history.length ≤ 32 ∧ p.probes ≤ 3

/-- Both ports' records lie in their ranges. -/
def State.PortsWithin (s : State) : Prop := s.ports.east.Within ∧ s.ports.west.Within

/-- A frame of kind PROBE. -/
def Frame.IsProbe (f : Frame) : Prop := f.kind = FrameKind.probe.code

/-- A port that is DOWN or LISTENING holds and sends probes alone (R20). -/
def Port.QuietUnlessUp (p : Port) : Prop :=
  p.isUp = false →
    p.queues.vt = [] ∧ p.queues.vl = [] ∧ p.queues.ct = [] ∧ p.queues.bt = [] ∧ p.queues.bl = [] ∧
      (∀ f ∈ p.queues.cl, f.IsProbe) ∧ (∀ f ∈ p.sending, f.IsProbe)

/-- An end port stays DOWN, with no timer running, nothing queued and nothing sent (R19). -/
def Port.EndStaysDown (p : Port) : Prop :=
  p.endStrap = true →
    p.state = .down ∧ p.probeTimer = none ∧ p.probeSendTimer = none ∧ p.queues = emptyQueues ∧ p.sending = none

/-- What a port that is not in use may hold (R19, R20). -/
def State.PortsQuiet (s : State) : Prop :=
  s.ports.east.QuietUnlessUp ∧ s.ports.west.QuietUnlessUp ∧ s.ports.east.EndStaysDown ∧ s.ports.west.EndStaysDown

/-! ### The station map and the deferred list (R22, R38, R40) -/

/-- The station map holds one entry for a station, in ascending order, never the station's own, each at 1..63 hops (R22). -/
def State.MapInOrder (s : State) : Prop :=
  s.map.Pairwise (fun a b => a.station < b.station) ∧
    ∀ e ∈ s.map, 1 ≤ e.station ∧ e.station ≤ 63 ∧ e.station ≠ s.number ∧ 1 ≤ e.distance ∧ e.distance ≤ 63

/-- The deferred list holds at most 16 frames, at most one CLAIM or RELEASE of a circuit and one TAKE of a lane (R38, R40). -/
def State.DeferredInOrder (s : State) : Prop :=
  s.deferred.length ≤ 16 ∧ s.deferred.Pairwise fun a b => a.tag.replaces b.tag = false

/-! ### Circuits and calls (R45, R46) -/

/-- Each call names exactly the circuit that is bound to it (R45); an IDLE call has none and wants none (R56), and a call
that waits has none (R46). -/
def State.CircuitsBound (s : State) : Prop :=
  ∀ b : Fin 4,
    (∀ c : Fin 16, s.circuits[c].boundTo b = true ↔ s.calls[b].circuit = some c) ∧
      (s.calls[b].state = .idle →
        s.calls[b].circuit = none ∧ s.claims[b].wanted = false ∧ s.claims[b].wait = none) ∧
      (s.claims[b].wait.isSome = true → s.calls[b].circuit = none)

/-! ### Jitter stores (R94) -/

/-- A store holds at most four blocks, at most one in PREFILL; in PLAYING they stand in sequence order, none before the
expected one (R94, R96). -/
def JitterStore.InOrder (st : JitterStore) : Prop :=
  st.blocks.length ≤ 4 ∧ st.misses ≤ 2 ∧
    match st.phase with
    | .prefill => st.blocks.length ≤ 1 ∧ st.misses = 0
    | .playing expected =>
      (∀ x ∈ st.blocks, aheadOf expected x.sequence < 128) ∧
        st.blocks.Pairwise fun x y => aheadOf expected x.sequence < aheadOf expected y.sequence

/-- Every jitter store is in order. -/
def State.StoresInOrder (s : State) : Prop :=
  (∀ b : Fin 4, s.playout.boxes[b].store.InOrder) ∧ ∀ l : Fin 2, s.playout.lanes[l].store.InOrder

/-! ### Lists of bounded length (R73, R104, R116, R159, R181) -/

/-- The offer list, the incident table, the recently-cleared list, the delivery queues and the awaited images hold no more
than their rules allow, and no key twice. -/
def State.ListsWithin (s : State) : Prop :=
  (s.callUnit.offers.length ≤ 16 ∧ (s.callUnit.offers.map fun o => (o.origin, o.callId)).Nodup) ∧
    (s.incidents.table.length ≤ 8 ∧ (s.incidents.table.map fun e => (e.origin, e.callId)).Nodup) ∧
    (s.incidents.cleared.length ≤ 8 ∧ (s.incidents.cleared.map fun k => (k.origin, k.callId)).Nodup) ∧
    s.readings.delivery.length ≤ 32 ∧ s.faces.east.awaited.length ≤ 4 ∧ s.faces.west.awaited.length ≤ 4

/-! ### Speeds (R123, R129, R131, R136) -/

/-- A value that a SPEED frame can carry: a multiple of 10 from 40 to 130 (R136). -/
def IsAdvert (v : Int) : Prop := 40 ≤ v ∧ v ≤ 130 ∧ v % 10 = 0

/-- The configuration holds speed limits of R123, every shown speed is a value of R136, and so is every held advert. -/
def State.SpeedsWithin (s : State) : Prop :=
  s.config.valid = true ∧
    ∀ f : Face,
      IsAdvert (s.speed.faces.get f).d ∧ ∀ h ∈ (s.speed.faces.get f).advert, IsAdvert h.n

/-- The bounds that R131 gives the shown speed of a JOINED station: at most Vmax, at most N plus 20 while N is held, and at most
the cap of the nearest incident that the face's last evaluation used. No incident ahead stands nearer than that one (R134). A
station in STARTING has no incident. -/
def State.SpeedsBounded (s : State) : Prop :=
  (s.joined = false → s.incidents.table = []) ∧
    (s.joined = true → ∀ f : Face,
      let x := s.speed.faces.get f
      x.d ≤ (s.config.vmax : Int) ∧ (∀ h ∈ x.advert, x.d ≤ h.n + 20) ∧
        (∀ u ∈ x.nearestUsed, x.d ≤ max (s.config.vmin : Int) (40 + 20 * (u : Int))) ∧
        ∀ e ∈ s.incidents.table, e.side.isAhead f = true → ∃ u ∈ x.nearestUsed, u ≤ e.distance)

/-! ### Selectors (R150, R152) -/

/-- A face that is not selecting has the empty selector, and a rotation has at most three items, all different (R150). -/
def State.SelectorsInOrder (s : State) : Prop :=
  ∀ f : Face,
    (s.selecting f = false → (s.faces.get f).selector = emptySelector) ∧
      (s.faces.get f).selector.rotation.length ≤ 3 ∧ (s.faces.get f).selector.rotation.Nodup

/-- The selector of a selecting face stands as its candidates give it (R152, R153): top priority and rotation are theirs, an item
is shown exactly while there is one, and the shown item is a candidate of the top priority. -/
def State.SelectorsCurrent (s : State) : Prop :=
  ∀ f : Face, s.selecting f = true →
    let items := s.candidates f
    let x := (s.faces.get f).selector
    x.top = s.topPriority items ∧ x.rotation = s.rotationOf items ∧ (x.shown = none ↔ items = []) ∧
      ∀ i ∈ x.shown, i ∈ items ∧ x.top = some (s.itemPriority i)

/-! ### The toll store and the counters (R167, R172, R181, R184) -/

/-- The number of REPORT entries. -/
def Toll.reports (t : Toll) : Nat := (t.store.filter fun e => e.content.isReport).length

/-- At most 256 records and one report in the store, and at most 64 entries in the delivery queue (R167, R181). -/
def State.TollWithin (s : State) : Prop :=
  s.toll.records ≤ 256 ∧ s.toll.reports ≤ 1 ∧ s.toll.delivery.length ≤ 64

/-- The entries carry the sequences before the counter, in admission order (R166); at most eight are SENT, and these are the
oldest (R172). -/
def State.TollWindow (s : State) : Prop :=
  (∀ i : Fin s.toll.store.length,
      s.toll.store[i].sequence = s.toll.counter - BitVec.ofNat 16 (s.toll.store.length - i.val)) ∧
    s.toll.sentCount ≤ 8 ∧ s.toll.store.Pairwise fun a b => b.sent = true → a.sent = true

/-- A lane's counts and sum lie in their ranges (R184). -/
def LaneCount.Within (l : LaneCount) : Prop := (∀ i : Fin 5, l.classes[i] ≤ 65535) ∧ l.sum ≤ 4294967295

/-- The live counters and the held snapshot lie in their ranges (R184, R190). -/
def State.CountsWithin (s : State) : Prop :=
  (∀ i : Fin 8, s.counts.lanes[i].Within) ∧ ∀ r ∈ s.counts.held, ∀ i : Fin 8, r.lanes[i].Within

/-! ### Latched faults (R201) -/

/-- A fault is latched exactly while its count is above 0, and counts lie in 0..255 (R201). -/
def State.FaultsWithin (s : State) : Prop :=
  ∀ i : Fin 5, (s.faults[i].latched = true ↔ 0 < s.faults[i].count) ∧ s.faults[i].count ≤ 255

end Sys2Proof.Machine
end

