-- ==== Sys2Proof/Certificates/Slice0/Obligations.lean ====
section
/-! DEFINITION. The statements for the provers, each a proposition about the part as modelled. Where an event is a timer's,
`now'` is the moment of the event: the clock, or the moment due when that is later (assumption 1). -/

open Sys2Proof Sys2Proof.Machine

/-! ### The queue and pin reset -/

/-- The command at the front of the queue is executed with the queue's rest. On an empty queue the part idles and its clock
goes on by a millisecond: the model's own choice, assumption 1.
It rests on the model's choices of assumptions 1, 10. -/
def Obligations.FrontCommandIsExecutedOnTheRest : Prop :=
  (∀ (c : Instr) (s : State), step { s with pending := c :: s.pending } = exec c s) ∧
    (∀ s : State, s.pending = [] → step s = .next { s with now := s.now + 1 })

/-- Every command and event comes to an end in a next state, in every state of the part, and none touches the queue of
those that wait. That a row whose condition does not hold still ends, with nothing changed, is the model's inference
(assumption 3, DEDUCED); that pin reset leaves the queue as it stands, and that a held part ignores what comes, are its choices
(assumptions 22 and 23, DESIGN CHOICE).
It rests on the model's choices of assumptions 3, 22, 23. -/
def Obligations.EveryCommandAnswersAndKeepsTheQueue : Prop :=
  ∀ (i : Instr) (s : State), ∃ t, exec i s = .next t ∧ t.pending = s.pending

/-- When pin reset ends, the straps are taken and every block has its pin-reset values: R203 with R22, R26, R29, R38, R43,
R59, R87, R103, R125, R163, R183, R194, R197. The clock's start at 0 is assumption 1.
It rests on the model's choices of assumptions 1, 13, 22, 23. -/
def Obligations.PinResetEndsGivesResetValues : Prop :=
  ∀ (i : ResetInputs) (s : State), ∃ t, exec (.pinResetEnds i) s = .next t ∧
    t.joined = false ∧ t.number = i.number.val ∧ t.bypassClosed = false ∧ t.config = defaultConfig ∧
    (∀ p : Side,
      (t.ports.get p).state = .down ∧
        (t.ports.get p).endStrap = (match p with | .east => i.eastEnd | .west => i.westEnd) ∧
        (t.ports.get p).signal = (match p with | .east => i.eastSignal | .west => i.westSignal) ∧
        (t.ports.get p).history = [] ∧ (t.ports.get p).probes = 0 ∧ (t.ports.get p).probeTimer = none ∧
        (t.ports.get p).queues = emptyQueues ∧ (t.ports.get p).sending = none ∧ (t.ports.get p).waitCL = 0 ∧
        (t.ports.get p).waitBL = 0 ∧
        (t.ports.get p).probeSendTimer = (if (t.ports.get p).endStrap then none else some t.now) ∧
        t.reach.get p = ⟨none, none⟩) ∧
    t.map = [] ∧ t.deferred = [] ∧ (∀ c : Fin 16, t.circuits[c] = .free) ∧
    (∀ b : Fin 4, t.claims[b] = ⟨false, 0, none⟩ ∧ t.calls[b] = { resetCall with offHook := i.offHook[b] } ∧
      t.playout.boxes[b].store = emptyStore ∧ t.playout.boxes[b].sendSeq = 0 ∧ t.playout.boxes[b].sendTimer = none ∧
      t.playout.boxes[b].playoutTimer = some (t.now + 20) ∧ t.playout.tones[b].cadence = .none) ∧
    (∀ l : Fin 2, t.callUnit.lanes[l] = resetLane ∧ t.playout.lanes[l].store = emptyStore ∧
      t.playout.lanes[l].sendTimer = none) ∧
    t.callUnit.nextCallId = 0 ∧ t.callUnit.offers = [] ∧ t.incidents = ⟨[], []⟩ ∧
    (∀ k : Fin 4, t.readings.kinds[k] = resetReading) ∧ t.readings.vs = none ∧ t.readings.delivery = [] ∧
    t.warnings = noWarnings ∧ (∀ n : Fin 32, t.pages[n] = ⟨none, none⟩) ∧
    (∀ f : Face, (t.speed.faces.get f) = ⟨120, 0, none, none, none⟩ ∧ t.faces.get f = resetFace) ∧
    t.speed.evaluationTimer = none ∧ t.speed.advertTimer = none ∧
    t.toll = ⟨[], 0, .none, none, true, [], []⟩ ∧
    (∀ l : Fin 8, t.counts.lanes[l] = zeroLane) ∧ t.counts.epoch = none ∧ t.counts.held = none ∧
    (∀ x : Fin 5, t.faults[x] = ⟨false, 0⟩) ∧ t.attn = false ∧ t.response = ⟨.ok, .fetch, .none⟩

/-- While pin reset is held the bypass is closed, no timer runs, the pending commands do nothing, and the inputs alone are
tracked (R43, R203).
It rests on the model's choices of assumptions 22, 23. -/
def Obligations.HeldPartFollowsItsInputsAlone : Prop :=
  (∀ s : State, ∃ t, exec .pinResetAsserted s = .next t ∧
    t.bypassClosed = true ∧ t.joined = false ∧ t.number = s.number ∧ t.config = defaultConfig ∧ t.map = [] ∧
    t.deferred = [] ∧ t.toll = resetToll ∧ t.attn = false ∧
    (∀ p : Side,
      t.ports.get p =
        { resetPort with
          endStrap := (s.ports.get p).endStrap, signal := (s.ports.get p).signal, probeSendTimer := none }) ∧
    (∀ b : Fin 4, t.calls[b] = { resetCall with offHook := s.calls[b].offHook } ∧
      t.playout.boxes[b].playoutTimer = none) ∧
    ∀ l : Fin 2, t.playout.lanes[l].playoutTimer = none) ∧
  (∀ (i : Instr) (s : State), s.resetHeld = true → isInput i = false → exec i s = .next s) ∧
  (∀ (p : Side) (s : State), s.resetHeld = true →
    exec (.signalDetectLost p) s = .next { s with ports := s.ports.set p { s.ports.get p with signal := false } } ∧
    exec (.signalDetectReturns p) s = .next { s with ports := s.ports.set p { s.ports.get p with signal := true } }) ∧
  (∀ (b : Fin 4) (s : State), s.resetHeld = true → s.joined = false →
    exec (.hookOffHook b) s = .next { s with calls := s.calls.set b { s.calls[b] with offHook := true } } ∧
    exec (.hookOnHook b) s = .next { s with calls := s.calls.set b { s.calls[b] with offHook := false } })

/-! ### Reception (section 1.2) -/

/-- The bytes of a good frame are exactly those of a frame in its ranges, as it is sent: kind 0..31, origin 1..63, target
0..63, hop limit 1..63, hops below the hop limit, at most 240 payload bytes, the length field that of the payload, and the
check over all of it (R1, R2, R6). -/
def Obligations.GoodFramesAreTheEncodedOnes : Prop :=
  ∀ (bytes : List Byte) (f : Frame),
    parseFrame bytes = some f ↔
      (f.kind ≤ 31 ∧ 1 ≤ f.origin ∧ f.origin ≤ 63 ∧ f.target ≤ 63 ∧ 1 ≤ f.hopLimit ∧ f.hopLimit ≤ 63 ∧
        f.payload.length ≤ 240 ∧ f.hops < f.hopLimit) ∧
      bytes =
        [byteOf f.kind, byteOf f.origin, byteOf f.target, byteOf f.hops, byteOf f.hopLimit, byteOf f.payload.length] ++
          f.payload ++ wordBytes (crc f.body)

/-- What a port does with a frame that goes no further, by its state (the table of R5): an end ignores every frame, a
port in DOWN or LISTENING discards what is not a good PROBE, a malformed frame sets the probe count of LISTENING
back, and a malformed frame at a port in UP or DEGRADED is recorded as a failure. In UP and DEGRADED every arriving
frame adds its outcome to the reception history, from which a 33rd pushes the oldest; then four failures move UP to
DEGRADED, and 32 good outcomes DEGRADED to UP. Just a change of state sets the LINE flag (R5, R14, R17, R27).
It rests on the model's choices of assumptions 12, 26. -/
def Obligations.FramesAreJudgedByPortState : Prop :=
  (∀ (p : Side) (bytes : List Byte) (s : State), s.resetHeld = false →
      ((s.ports.get p).endStrap = true → exec (.lineFrameArrives p bytes) s = .next s) ∧
      ((s.ports.get p).endStrap = false →
        ((s.ports.get p).state = .down →
          (∀ f, parseFrame bytes = some f → f.kind ≠ 0) → exec (.lineFrameArrives p bytes) s = .next s) ∧
        ((s.ports.get p).state = .listening → parseFrame bytes = none →
          exec (.lineFrameArrives p bytes) s =
            .next { s with ports := s.ports.set p { s.ports.get p with probes := 0 } }) ∧
        ((s.ports.get p).state = .listening → ∀ f, parseFrame bytes = some f → f.kind ≠ 0 →
          exec (.lineFrameArrives p bytes) s = .next s) ∧
        ((s.ports.get p).isUp = true → parseFrame bytes = none →
          exec (.lineFrameArrives p bytes) s = .next (s.recordOutcome p false)))) ∧
  (∀ (p : Side) (bytes : List Byte) (s : State), s.resetHeld = false → (s.ports.get p).endStrap = false →
      (s.ports.get p).isUp = true → (s.ports.get p).history.length ≤ 32 →
      ∃ t, exec (.lineFrameArrives p bytes) s = .next t ∧
        (t.ports.get p).history =
          ((s.ports.get p).history ++ [(parseFrame bytes).isSome]).drop ((s.ports.get p).history.length - 31) ∧
        ((s.ports.get p).state = .up →
          (t.ports.get p).state = if 4 ≤ (t.ports.get p).history.count false then .degraded else .up) ∧
        ((s.ports.get p).state = .degraded →
          (t.ports.get p).state =
            if (t.ports.get p).history.length = 32 ∧ (t.ports.get p).history.count false = 0 then .up else .degraded) ∧
        t.lineFlag = (s.lineFlag || (t.ports.get p).state != (s.ports.get p).state))

/-- A good frame of the station's own number is discarded and NUMBER_CLASH latches once more; beyond the outcome recorded at
a port in UP or DEGRADED nothing else changes (R7). -/
def Obligations.OwnOriginFrameLatchesNumberClash : Prop :=
  ∀ (p : Side) (bytes : List Byte) (f : Frame) (s : State), s.resetHeld = false →
    (s.ports.get p).endStrap = false → parseFrame bytes = some f → f.origin = s.number →
    ((s.ports.get p).isUp = true → ∃ t, exec (.lineFrameArrives p bytes) s = .next t ∧
      t = { s.recordOutcome p true with
            faults := s.faults.set 0 { latched := true, count := min 255 (s.faults[0].count + 1) } } ∧
      t.map = s.map ∧ t.reach = s.reach ∧ t.circuits = s.circuits) ∧
    ((s.ports.get p).isUp = false → f.kind = 0 →
      exec (.lineFrameArrives p bytes) s =
        .next { s with faults := s.faults.set 0 { latched := true, count := min 255 (s.faults[0].count + 1) } })

/-- Every good frame that is not the station's own and that its port lets pass sets its origin's entry of the station map
to the arrival port, the hops after the increment and age 0, in either station state, and no other entry (R8). -/
def Obligations.GoodFrameSetsItsMapEntry : Prop :=
  ∀ (p : Side) (bytes : List Byte) (f : Frame) (s : State), s.resetHeld = false →
    (s.ports.get p).endStrap = false → parseFrame bytes = some f → f.origin ≠ s.number →
    ((s.ports.get p).isUp = true ∨ f.kind = 0) → ∃ t, exec (.lineFrameArrives p bytes) s = .next t ∧
      t.mapEntry f.origin = some ⟨f.origin, p, f.hops + 1, t.now⟩ ∧ t.now = s.now ∧
      1 ≤ f.hops + 1 ∧ f.hops + 1 ≤ f.hopLimit ∧ f.hopLimit ≤ 63 ∧
      ∀ station, station ≠ f.origin → t.mapEntry station = s.mapEntry station

/-- A frame of an unassigned kind is recorded, learned and given to the relay and to nothing else (R13). The relay hands a
frame that is not for this station and has hops left to the transit queue of its class at the other port, when that is UP
or DEGRADED (R9); a full VT drops its oldest frame, and a full CT or BT the offered one, which latches TRANSIT_DROP (R30).
An IDLE transmitter, which has empty queues, takes the relayed frame at once (R32).
It rests on the model's choices of assumptions 26, 37. -/
def Obligations.RelayByTransitQueue : Prop :=
  (∀ (p : Side) (bytes : List Byte) (f : Frame) (s : State), s.Arrives p bytes f → 16 ≤ f.kind →
    exec (.lineFrameArrives p bytes) s = .next ((s.heard p f).relay p f.counted)) ∧
  (∀ (p : Side) (f : Frame) (s : State),
    (f.target = s.number ∨ f.hopLimit ≤ f.hops ∨ (s.ports.get p.other).isUp = false → s.relay p f = s) ∧
    (f.target ≠ s.number → f.hops < f.hopLimit → (s.ports.get p.other).isUp = true →
      (s.ports.get p.other).sending.isSome = true →
      let x := s.ports.get p.other
      let q := (classOf f.kind).transitQueue
      ((x.queues.get q).length < q.capacity →
        s.relay p f =
          { s with ports := s.ports.set p.other { x with queues := x.queues.set q (x.queues.get q ++ [f]) } }) ∧
      (q.capacity ≤ (x.queues.get q).length → q = .vt →
        s.relay p f =
          { s with ports := s.ports.set p.other { x with queues := x.queues.set .vt (x.queues.vt.drop 1 ++ [f]) } }) ∧
      (q.capacity ≤ (x.queues.get q).length → q ≠ .vt →
        s.relay p f =
          { s with faults := s.faults.set 1 { latched := true, count := min 255 (s.faults[1].count + 1) } })) ∧
    (f.target ≠ s.number → f.hops < f.hopLimit → (s.ports.get p.other).isUp = true →
      (s.ports.get p.other).sending = none → (s.ports.get p.other).queues = emptyQueues →
      s.relay p f = { s with ports := s.ports.set p.other { s.ports.get p.other with sending := some f } }))

/-! ### Port states and views (sections 1.3 to 1.5) -/

/-- A valid probe moves a port DOWN to LISTENING and restarts its probe timer at 300 ms; the third in LISTENING moves
it to UP with an empty history (R15, R16). Each move sets the LINE flag (R27). In UP and DEGRADED it restarts the
timer (R17). A valid probe sets both entries of its side's reach view: the sender at hops 1 where it is JOINED with
the role, else what it carries beyond itself with one hop more, and none past 63 hops. The other side stays (R25). A
port that comes to UP re-offers the deferred list, control class first (R39), and then the toll unit reviews its sink
(R170). Stated where the ports in use are SENDING.
It rests on the model's choices of assumptions 12, 15, 36, 41. -/
def Obligations.ProbesRaiseThePortAndItsView : Prop :=
  (∀ (p : Side) (bytes : List Byte) (f : Frame) (x : ProbeFields) (s : State), s.ValidProbe p bytes f x →
      ∃ t, exec (.lineFrameArrives p bytes) s = .next t ∧
        (t.ports.get p).probeTimer = some (s.now + 300) ∧
        ((s.ports.get p).state = .down →
          (t.ports.get p).state = .listening ∧ (t.ports.get p).probes = 0 ∧ (t.ports.get p).history = [] ∧
            t.lineFlag = true) ∧
        ((s.ports.get p).state = .listening → (s.ports.get p).probes < 2 →
          (t.ports.get p).state = .listening ∧ (t.ports.get p).probes = (s.ports.get p).probes + 1 ∧
            t.lineFlag = s.lineFlag) ∧
        ((s.ports.get p).state = .listening → 2 ≤ (s.ports.get p).probes →
          (t.ports.get p).state = .up ∧ (t.ports.get p).probes = 0 ∧ (t.ports.get p).history = [] ∧
            t.lineFlag = true) ∧
        ((s.ports.get p).isUp = true → (t.ports.get p).isUp = true ∧ (t.ports.get p).probes = (s.ports.get p).probes)) ∧
  (∀ (p : Side) (bytes : List Byte) (f : Frame) (x : ProbeFields) (s : State), s.ValidProbe p bytes f x →
      ∃ t, exec (.lineFrameArrives p bytes) s = .next t ∧ t.reach.get p.other = s.reach.get p.other ∧
        (t.reach.get p).answering =
          (if x.joined = true ∧ x.answering = true then some ⟨f.origin, 1⟩
           else x.answeringBeyond.bind fun r => if r.hops + 1 ≤ 63 then some ⟨r.station, r.hops + 1⟩ else none) ∧
        (t.reach.get p).sink =
          (if x.joined = true ∧ x.sink = true then some ⟨f.origin, 1⟩
           else x.sinkBeyond.bind fun r => if r.hops + 1 ≤ 63 then some ⟨r.station, r.hops + 1⟩ else none)) ∧
  (∀ (p : Side) (bytes : List Byte) (f : Frame) (x : ProbeFields) (s : State), s.ValidProbe p bytes f x →
      f.hopLimit = 1 → (s.ports.get p).state = .listening → 2 ≤ (s.ports.get p).probes →
      (s.ports.get p).sending.isSome = true → s.Busy →
      ∃ u v t : State, exec (.lineFrameArrives p bytes) s = .next t ∧
        ({ s with
           map := t.map, reach := t.reach, lineFlag := true
           ports := s.ports.set p
             { s.ports.get p with
               state := .up, probes := 0, history := [], probeTimer := some (s.now + 300) } } : State).Reoffered
          .control u ∧
        u.Reoffered .bulk v ∧
        (s.joined = false ∨ s.config.sink = true → t = v) ∧
        (s.joined = true → s.config.sink = false → t = v.reviewSink))

/-- A port that is not DOWN enters DOWN when its signal-detect goes away and when its probe timer expires, with the
effects of R21; a DOWN port keeps its state, and so does any port whose signal-detect returns (R15, R18). An entry of
the station map that reaches 10 s of age is removed, and with it go what the call unit holds through that station:
CONNECTED calls with it return to OFFERING and TALKING lanes of its calls are LOST (R22, R70, R79).
It rests on the model's choices of assumptions 1, 11, 12. -/
def Obligations.LineLossesReachTheBlocks : Prop :=
  (∀ (p : Side) (s : State), s.resetHeld = false →
      ((s.ports.get p).state ≠ .down →
        ∃ t, exec (.signalDetectLost p) s = .next t ∧ t.now = s.now ∧ s.WentDown p t ∧
          (t.ports.get p).signal = false) ∧
      ((s.ports.get p).state ≠ .down → ∀ due, (s.ports.get p).probeTimer = some due →
        ∃ t, exec (.probeTimerExpiry p) s = .next t ∧ t.now = max s.now due ∧ s.WentDown p t ∧
          (t.ports.get p).signal = (s.ports.get p).signal) ∧
      ((s.ports.get p).state = .down →
        exec (.signalDetectLost p) s = .next { s with ports := s.ports.set p { s.ports.get p with signal := false } }) ∧
      ((s.ports.get p).probeTimer = none → exec (.probeTimerExpiry p) s = .next s) ∧
      exec (.signalDetectReturns p) s = .next { s with ports := s.ports.set p { s.ports.get p with signal := true } }) ∧
  (∀ (station : Nat) (s : State), s.resetHeld = false →
      (s.mapEntry station = none → exec (.stationMapAgeOut station) s = .next s) ∧
      ∀ e, s.mapEntry station = some e →
        ∃ t, exec (.stationMapAgeOut station) s = .next t ∧
          t = { s with
                now := max s.now (e.heardAt + 10000)
                map := s.map.filter fun x => x.station != station
                ports := t.ports, deferred := t.deferred, toll := t.toll, calls := t.calls, callUnit := t.callUnit,
                playout := t.playout } ∧
          t.callUnit.offers = s.callUnit.offers ∧ t.callUnit.nextCallId = s.callUnit.nextCallId ∧
          (∀ b : Fin 4,
            ((∀ x, s.calls[b].partner = some x → x.station ≠ station) → t.calls[b] = s.calls[b]) ∧
            (∀ x, s.calls[b].state = .connected → s.calls[b].partner = some x → x.station = station →
              t.calls[b].state = .offering ∧ t.calls[b].partner = none ∧ t.calls[b].offeringSince = some t.now ∧
                t.calls[b].circuit = s.calls[b].circuit ∧ t.calls[b].callId = s.calls[b].callId ∧
                t.callUnit.callsChanged = true)) ∧
          ∀ l : Fin 2,
            ((s.callUnit.lanes[l].state ≠ .talking ∨ ∀ c, s.callUnit.lanes[l].call = some c → c.origin ≠ station) →
              t.callUnit.lanes[l] = s.callUnit.lanes[l]) ∧
            (∀ c, s.callUnit.lanes[l].state = .talking → s.callUnit.lanes[l].call = some c → c.origin = station →
              t.callUnit.lanes[l].state = .lost ∧ t.callUnit.lanes[l].outcome = .routeLost ∧
                t.callUnit.lanes[l].call = some c ∧ t.callUnit.callsChanged = true))

/-! ### Probes and queues (chapter 2) -/

/-- Every 100 ms a port builds a PROBE from the station's state (R24) and offers it to its CL, whatever the port's state: it
waits behind a frame being sent, is taken at once by an IDLE transmitter with nothing queued, and is discarded by a full
CL (R36).
It rests on the model's choices of assumptions 1, 4. -/
def Obligations.ProbeSentEveryPeriod : Prop :=
  ∀ (p : Side) (s : State) (due : Nat), s.resetHeld = false → (s.ports.get p).probeSendTimer = some due →
    let now' := max s.now due
    let x := s.ports.get p
    let f : Frame :=
      { kind := 0, origin := s.number, target := 0, hops := 0, hopLimit := 1
        payload :=
          [bitByte s.joined,
            byteOf ((if s.joined && s.config.answering then 1 else 0) + (if s.joined && s.config.sink then 2 else 0))] ++
          roleBytes (s.reach.get p.other).answering ++ roleBytes (s.reach.get p.other).sink }
    (x.sending.isSome = true → x.queues.cl.length < 16 →
      exec (.probeSendTimerExpiry p) s =
        .next { s with
          now := now'
          ports := s.ports.set p
            { x with queues := { x.queues with cl := x.queues.cl ++ [f] }, probeSendTimer := some (now' + 100) } }) ∧
    (16 ≤ x.queues.cl.length →
      exec (.probeSendTimerExpiry p) s =
        .next { s with now := now', ports := s.ports.set p { x with probeSendTimer := some (now' + 100) } }) ∧
    (x.sending = none → x.queues = emptyQueues → s.deferred = [] →
      exec (.probeSendTimerExpiry p) s =
        .next { s with
          now := now'
          ports := s.ports.set p { x with sending := some f, waitCL := 0, probeSendTimer := some (now' + 100) } })

/-- A transmitter that becomes free at a port in UP or DEGRADED takes the head of CL when CL's wait count stands at
4, else of BL when BL's does (R34), else of the first queue that is not empty in the order VT, VL, CT, CL, BT, BL; it
becomes IDLE when there is none (R32). A take from CT or BT raises the wait counts of the local queues that hold
frames, to at most 4, and a take from a local queue returns its count to 0 (R33). A take from CL is followed by the
re-offering of the deferred control frames, one from BL by that of the deferred bulk frames (R39) and then, at the chosen
sink's port, by a try of the toll unit (R41); stated where the other port, if in use, is SENDING. A transmitter that becomes free at a port that is
DOWN or LISTENING goes on with the probes of its CL, and becomes IDLE when none is left (R20, R32); one that sends
nothing has nothing to complete. Local frames wait behind at most four relayed control and bulk frames: as long as a
local queue that holds frames is not taken from, the takes from CT and BT together fill up its wait count to 4 at
most (R33, R34).
It rests on the model's choices of assumptions 28, 36. -/
def Obligations.TransmitterTakesInOrder : Prop :=
  (∀ (p : Side) (s : State), s.resetHeld = false → (s.ports.get p).sending.isSome = true → s.Busy →
      let taken := (s.ports.get p).takeNext
      let after : State := { s with ports := s.ports.set p taken.1 }
      ∃ t, exec (.transmitComplete p) s = .next t ∧
        (taken.2 = some .cl → after.Reoffered .control t) ∧
        (taken.2 = some .bl → ∃ u, after.Reoffered .bulk u ∧
          (s.sinkOn p = true → u.TollTried t) ∧ (s.sinkOn p = false → t = u)) ∧
        (taken.2 ≠ some .cl → taken.2 ≠ some .bl → t = after)) ∧
  (∀ (p : Side) (s : State), s.resetHeld = false → (s.ports.get p).isUp = true →
      (s.ports.get p).sending.isSome = true → s.deferred = [] → s.sinkOn p = false →
      let x := s.ports.get p
      let guaranteeCL := x.waitCL = 4 ∧ x.queues.cl ≠ []
      let guaranteeBL := x.waitBL = 4 ∧ x.queues.bl ≠ []
      (∀ (f : Frame) (rest : List Frame), guaranteeCL → x.queues.cl = f :: rest →
        exec (.transmitComplete p) s =
          .next { s with ports := s.ports.set p { x with queues := x.queues.set .cl rest, sending := some f, waitCL := 0 } }) ∧
      (∀ (f : Frame) (rest : List Frame), ¬guaranteeCL → guaranteeBL → x.queues.bl = f :: rest →
        exec (.transmitComplete p) s =
          .next { s with ports := s.ports.set p { x with queues := x.queues.set .bl rest, sending := some f, waitBL := 0 } }) ∧
      (∀ (q : QueueName) (f : Frame) (rest : List Frame), ¬guaranteeCL → ¬guaranteeBL → x.queues.get q = f :: rest →
        (∀ r : QueueName, r.rank < q.rank → x.queues.get r = []) →
        exec (.transmitComplete p) s =
          .next { s with
            ports := s.ports.set p
              { x with
                queues := x.queues.set q rest
                sending := some f
                waitCL :=
                  if q = .cl then 0
                  else if (q = .ct ∨ q = .bt) ∧ x.queues.cl ≠ [] then min 4 (x.waitCL + 1) else x.waitCL
                waitBL :=
                  if q = .bl then 0
                  else if (q = .ct ∨ q = .bt) ∧ x.queues.bl ≠ [] then min 4 (x.waitBL + 1) else x.waitBL } }) ∧
      ((∀ q : QueueName, x.queues.get q = []) →
        exec (.transmitComplete p) s = .next { s with ports := s.ports.set p { x with sending := none } })) ∧
  (∀ (p : Side) (s : State), s.resetHeld = false →
      let x := s.ports.get p
      (x.isUp = false → x.sending.isSome = true → s.deferred = [] →
        (∀ (f : Frame) (rest : List Frame), x.queues = { emptyQueues with cl := f :: rest } → f.kind = 0 →
          exec (.transmitComplete p) s =
            .next { s with
              ports := s.ports.set p
                { x with queues := { emptyQueues with cl := rest }, sending := some f, waitCL := 0 } }) ∧
        ((∀ q : QueueName, ∀ f ∈ x.queues.get q, f.kind ≠ 0) →
          exec (.transmitComplete p) s = .next { s with ports := s.ports.set p { x with sending := none } })) ∧
      (x.sending = none → exec (.transmitComplete p) s = .next s)) ∧
  (∀ (n : Nat) (x : Port), x.isUp = true →
      (x.waitCL ≤ 4 → x.queues.cl ≠ [] → QueueName.cl ∉ x.takes n →
        (x.takes n).count .ct + (x.takes n).count .bt + x.waitCL ≤ 4) ∧
      (x.waitBL ≤ 4 → x.queues.bl ≠ [] → QueueName.bl ∉ x.takes n →
        (x.takes n).count .ct + (x.takes n).count .bt + x.waitBL ≤ 4))

/-- A broadcast is routed to every port in UP or DEGRADED, a targeted frame to the port of its map entry when that is UP or
DEGRADED and else like a broadcast (R23). The producer is told "sent" exactly when one of these ports has room or drops
its oldest (R31), and a refused one-off frame comes to the deferred list, where it replaces an earlier one of its key, and
is lost when 16 others stand there (R38).
It rests on the model's choices of assumptions 11, 28, 36. -/
def Obligations.SteeringQueuesAndDefers : Prop :=
  (∀ (target : Nat) (s : State) (p : Side),
    (p ∈ s.routes target ↔
      (s.ports.get p).isUp = true ∧
        (target = 0 ∨ s.mapEntry target = none ∨
          ∃ e, s.mapEntry target = some e ∧ (e.port = p ∨ (s.ports.get e.port).isUp = false)))) ∧
  (∀ (f : Frame) (s : State),
    (s.sendTold f).1 = true ↔ ∃ p ∈ s.routes f.target, ¬s.FullAt p (classOf f.kind).localQueue) ∧
  (∀ (f : Frame) (s : State), classOf f.kind ≠ .voice → s.Offered none f (s.send f)) ∧
  (∀ (tag : DeferTag) (f : Frame) (s : State), classOf f.kind ≠ .voice → s.Offered (some tag) f (s.sendOneOff tag f)) ∧
  (∀ (tag : DeferTag) (f : Frame) (s : State), ∃ ports deferred toll,
    s.sendOneOff tag f = { s with ports := ports, deferred := deferred, toll := toll })

/-! ### Voice circuits (chapter 3) -/

/-- A taken CLAIM makes a FREE entry HELD_OTHER of its origin, restarts the age of its origin's own entry, puts a lower
origin in a higher holder's place, and leaves a lower holder's entry and its age alone, with either held flag (R52). A taken
RELEASE frees an entry HELD_OTHER of its origin and no other (R57). Nothing else of the station changes. -/
def Obligations.CircuitTableRecordsOthers : Prop :=
  ∀ (p : Side) (bytes : List Byte) (f : Frame) (s : State), s.Arrives p bytes f → s.joined = true →
    (f.TakenBy .claim true s.number → ∀ (c : Fin 16) (held : Bool), parseClaim f.payload = some (c, held) →
      (s.circuits[c] = .free → exec (.lineFrameArrives p bytes) s =
        .next { s.reached p f with circuits := s.circuits.set c (.heldOther f.origin s.now) }) ∧
      ∀ holder age, s.circuits[c] = .heldOther holder age →
        (f.origin ≤ holder → exec (.lineFrameArrives p bytes) s =
          .next { s.reached p f with circuits := s.circuits.set c (.heldOther f.origin s.now) }) ∧
        (holder < f.origin → exec (.lineFrameArrives p bytes) s = .next (s.reached p f))) ∧
    (f.TakenBy .release true s.number → ∀ c : Fin 16, parseRelease f.payload = some c →
      (∀ age, s.circuits[c] = .heldOther f.origin age → exec (.lineFrameArrives p bytes) s =
        .next { s.reached p f with circuits := s.circuits.set c .free }) ∧
      ((∀ age, s.circuits[c] ≠ .heldOther f.origin age) →
        exec (.lineFrameArrives p bytes) s = .next (s.reached p f)))

/-- A CLAIM met by the station's own claim or holding. CLAIMING: a held-clear rival of a higher number draws the
CLAIM once more; any other makes the station yield, and the call chooses the lowest FREE circuit, or waits 1 s after
its third yield (R49, R50). HELD_OWN: a held-set rival of a lower number makes the call re-home (R55); any other
draws an assert, unless the hold-off runs (R51, R53). A VOICE frame from a call box acts on the circuit it names as a
held-set CLAIM of its origin would, at every JOINED station that it reaches, before it is relayed and whatever its
target (R12, R54).
It rests on the model's choices of assumption 14. -/
def Obligations.RivalClaimsAreSettled : Prop :=
  (∀ (p : Side) (bytes : List Byte) (f : Frame) (c : Fin 16) (held : Bool) (b : Fin 4) (s : State),
      s.Arrives p bytes f → s.joined = true → f.TakenBy .claim true s.number → parseClaim f.payload = some (c, held) →
      ∃ t, exec (.lineFrameArrives p bytes) s = .next t ∧
        t = { s.reached p f with
              circuits := t.circuits, claims := t.claims, calls := t.calls, ports := t.ports, deferred := t.deferred,
              toll := t.toll } ∧
        (∀ timer, s.circuits[c] = .claiming b timer → held = false → s.number < f.origin →
          t.circuits = s.circuits ∧ t.claims = s.claims ∧ t.calls = s.calls ∧
            (s.reached p f).Offered (some (.claim c)) (s.broadcast63 .claim [circuitByte c, 0]) t) ∧
        (∀ timer, s.circuits[c] = .claiming b timer → held = true ∨ f.origin < s.number →
          t.circuits[c] = .heldOther f.origin s.now ∧
          (2 ≤ s.claims[b].yields →
            t.circuits = s.circuits.set c (.heldOther f.origin s.now) ∧
              t.calls = s.calls.set b { s.calls[b] with circuit := none } ∧
              t.claims = s.claims.set b { s.claims[b] with yields := 3, wait := some (s.now + 1000) } ∧
              t.ports = (s.reached p f).ports ∧ t.toll = (s.reached p f).toll) ∧
          (s.claims[b].yields < 2 → ∀ d, s.LowestFree d →
            t.circuits = (s.circuits.set c (.heldOther f.origin s.now)).set d (.claiming b (some (s.now + 40))) ∧
              t.calls = s.calls.set b { s.calls[b] with circuit := some d } ∧
              t.claims = s.claims.set b { s.claims[b] with yields := s.claims[b].yields + 1 } ∧
              (({ s.reached p f with
                  deferred := (s.reached p f).deferred.filter fun x => x.tag != .claim c } : State).Offered
                (some (.claim d)) (s.broadcast63 .claim [circuitByte d, 0]) t)) ∧
          (s.claims[b].yields < 2 → s.NoneFree →
            t.circuits = s.circuits.set c (.heldOther f.origin s.now) ∧
              t.calls = s.calls.set b { s.calls[b] with circuit := none } ∧
              t.claims = s.claims.set b
                { s.claims[b] with yields := s.claims[b].yields + 1, wait := some (s.now + 1000) })) ∧
        (∀ refresh holdOff, s.circuits[c] = .heldOwn b refresh holdOff → held = false ∨ s.number < f.origin →
          t.claims = s.claims ∧ t.calls = s.calls ∧
            (holdOff.isSome = true → t = s.reached p f) ∧
            (holdOff = none →
              t.circuits = s.circuits.set c (.heldOwn b (some (s.now + 1000)) (some (s.now + 100))) ∧
                (s.reached p f).Offered (some (.claim c)) (s.broadcast63 .claim [circuitByte c, 1]) t)) ∧
        (∀ refresh holdOff, s.circuits[c] = .heldOwn b refresh holdOff → held = true → f.origin < s.number →
          t.circuits[c] = .heldOther f.origin s.now ∧ t.calls[b].state = s.calls[b].state ∧
            t.calls[b].partner = s.calls[b].partner ∧ t.claims[b].wanted = true ∧ t.claims[b].yields = 0 ∧
            (∀ d, s.LowestFree d →
              t.calls[b].circuit = some d ∧ t.circuits[d] = .claiming b (some (s.now + 40)) ∧
                t.claims[b].wait = none) ∧
            (s.NoneFree → t.calls[b].circuit = none ∧ t.claims[b].wait = some (s.now + 1000)))) ∧
  (∀ (p : Side) (bytes : List Byte) (f : Frame) (s : State), s.Arrives p bytes f → s.joined = true →
      f.kind = FrameKind.voice.code →
      (f.target ≠ s.number →
        (∀ c, parseVoiceShown f.payload = some (c, false) →
          exec (.lineFrameArrives p bytes) s =
            .next (((s.heard p f).takeClaim f.origin c true).relay p f.counted)) ∧
        ((∀ c, parseVoiceShown f.payload ≠ some (c, false)) →
          exec (.lineFrameArrives p bytes) s = .next (s.reached p f))) ∧
      (f.target = s.number →
        ∃ t, exec (.lineFrameArrives p bytes) s = .next t ∧
          (∀ c, parseVoiceShown f.payload = some (c, false) →
            let u := (s.heard p f).takeClaim f.origin c true
            t = { u with callUnit := t.callUnit, playout := t.playout }) ∧
          ((∀ c, parseVoiceShown f.payload ≠ some (c, false)) →
            t = { s.heard p f with calls := t.calls, callUnit := t.callUnit, playout := t.playout } ∧
              ∀ b : Fin 4, t.calls[b].state = s.calls[b].state ∧ t.calls[b].circuit = s.calls[b].circuit)))

/-- The timers of a circuit. The claim window's end makes the entry HELD_OWN, and the call that was SEIZING begins to
offer (R48, R67). The hold refresh asserts every 1 s (R51). The hold-off ends. An entry HELD_OTHER that nobody has
refreshed for 2 s becomes FREE (R58). When a call's wait ends and it still wants a circuit, a third yield in a row is
forgotten and it claims the lowest FREE circuit, or waits another 1 s (R50).
It rests on the model's choices of assumptions 1, 4, 42. -/
def Obligations.CircuitTimersRunOut : Prop :=
  ((∀ (c : Fin 16) (b : Fin 4) (s : State) (due : Nat), s.resetHeld = false → s.circuits[c] = .claiming b (some due) →
      let now' := max s.now due
      let count := min 255 (s.calls[b].offerCount.getD 0 + 1)
      ∃ t, exec (.claimTimerExpiry c) s = .next t ∧
        t = { s with
              now := now'
              circuits := s.circuits.set c (.heldOwn b (some (now' + 1000)) none)
              claims := s.claims.set b ⟨false, 0, none⟩
              calls := t.calls, callUnit := t.callUnit, playout := t.playout, ports := t.ports, deferred := t.deferred,
              toll := t.toll } ∧
        (s.calls[b].state = .seizing → s.calls[b].circuit = some c →
          t.calls = s.calls.set b
              { s.calls[b] with
                state := .offering, partner := none, silenceTimer := none, offeringSince := some now',
                offerCount := some count, offerTimer := some (now' + 5000), changedAt := now' } ∧
            t.callUnit = { s.callUnit with callsChanged := true } ∧
            s.Offered none
              (s.broadcast63 .offer
                [s.calls[b].callId.getD 0, byteOf b.val, circuitByte c, byteOf count]) t) ∧
        (s.calls[b].state = .offering → s.calls[b].offerTimer = none → s.calls[b].circuit = some c →
          t.calls = s.calls.set b
              { s.calls[b] with offerCount := some count, offerTimer := some (now' + 5000) } ∧
            t.callUnit = s.callUnit ∧
            s.Offered none
              (s.broadcast63 .offer
                [s.calls[b].callId.getD 0, byteOf b.val, circuitByte c, byteOf count]) t) ∧
        (s.calls[b].state = .connected →
          t.calls = s.calls ∧ t.callUnit = s.callUnit ∧ t.playout = s.playout ∧ t.ports = s.ports ∧
            t.deferred = s.deferred ∧ t.toll = s.toll)) ∧
    (∀ (c : Fin 16) (b : Fin 4) (s : State) (due : Nat) (holdOff : Timer), s.resetHeld = false →
      s.circuits[c] = .heldOwn b (some due) holdOff →
      let now' := max s.now due
      ∃ t, exec (.holdRefreshTimerExpiry c) s = .next t ∧
        t = { s with
              now := now'
              circuits := s.circuits.set c (.heldOwn b (some (now' + 1000)) (some (now' + 100)))
              ports := t.ports, deferred := t.deferred, toll := t.toll } ∧
        s.Offered (some (.claim c)) (s.broadcast63 .claim [circuitByte c, 1]) t) ∧
    (∀ (c : Fin 16) (b : Fin 4) (s : State) (due : Nat) (refresh : Timer), s.resetHeld = false →
      s.circuits[c] = .heldOwn b refresh (some due) →
      exec (.assertHoldOffExpiry c) s =
        .next { s with now := max s.now due, circuits := s.circuits.set c (.heldOwn b refresh none) }) ∧
    (∀ (c : Fin 16) (s : State) (holder heardAt : Nat), s.resetHeld = false →
      s.circuits[c] = .heldOther holder heardAt →
      exec (.heldOtherAgeOut c) s =
        .next { s with now := max s.now (heardAt + 2000), circuits := s.circuits.set c .free })) ∧
  (∀ (b : Fin 4) (s : State) (due : Nat), s.resetHeld = false → s.claims[b].wait = some due →
      let now' := max s.now due
      let yields := if s.claims[b].yields = 3 then 0 else s.claims[b].yields
      ∃ t, exec (.claimWaitTimerExpiry b) s = .next t ∧
        t = { s with
              now := now', circuits := t.circuits, claims := t.claims, calls := t.calls, ports := t.ports,
              deferred := t.deferred, toll := t.toll } ∧
        (s.claims[b].wanted = true → ∀ c, s.LowestFree c →
          t.circuits = s.circuits.set c (.claiming b (some (now' + 40))) ∧
            t.claims = s.claims.set b ⟨true, yields, none⟩ ∧
            t.calls = s.calls.set b { s.calls[b] with circuit := some c } ∧
            s.Offered (some (.claim c)) (s.broadcast63 .claim [circuitByte c, 0]) t) ∧
        (s.claims[b].wanted = true → s.NoneFree →
          t.circuits = s.circuits ∧ t.claims = s.claims.set b ⟨true, yields, some (now' + 1000)⟩ ∧
            t.calls = s.calls ∧ t.ports = s.ports ∧ t.deferred = s.deferred ∧ t.toll = s.toll) ∧
        (s.claims[b].wanted = false →
          t = { s with now := now', claims := s.claims.set b { s.claims[b] with wait := none } }))

/-! ### Emergency calls (chapter 4) -/

/-- A handset that goes off-hook at a fitted port of a JOINED station whose record is IDLE begins a call: it takes the next
call id and is SEIZING, its refreshes run at 10 s, its PROGRESS cadence begins, its INCIDENT is offered, the incident table takes
the station's own notice, which is judged by one immediate evaluation where it is entered, and the call claims the lowest FREE
circuit with a CLAIM or waits (R65, R47, R100, R106, R133, R134). Elsewhere the hook level alone changes, and a port that is
not fitted is not read once JOINED (R63).
It rests on the model's choices of assumptions 11, 31, 35. -/
def Obligations.OffHookBeginsACall : Prop :=
  ∀ (b : Fin 4) (s : State), s.resetHeld = false →
    (s.joined = true → b.val < s.config.boxes → s.calls[b].state = .idle →
      ∃ u v t : State, exec (.hookOffHook b) s = .next t ∧ t.now = s.now ∧
        s.Offered (some (.firstIncident b))
          (s.newFrame .incident 0 s.config.incidentReach [s.callUnit.nextCallId, byteOf b.val]) u ∧
        u = { s with ports := u.ports, deferred := u.deferred, toll := u.toll } ∧
        v = { t with ports := v.ports, deferred := v.deferred, toll := v.toll } ∧
        (s.incidents.wasCleared s.number s.callUnit.nextCallId = true →
          t.incidents = s.incidents ∧ t.speed = s.speed ∧ t.warnings = s.warnings ∧ v.ports = u.ports ∧
            v.deferred = u.deferred ∧ v.toll = u.toll) ∧
        (s.incidents.wasCleared s.number s.callUnit.nextCallId = false →
          (∀ e ∈ s.incidents.table, e.hasKey s.number s.callUnit.nextCallId = false) →
          (s.incidents.table.length < 8 ∨ ∃ e ∈ s.incidents.table, 0 < e.distance) → u.EvaluatedNow v) ∧
        (∀ c, s.LowestFree c → v.Offered (some (.claim c)) (s.broadcast63 .claim [circuitByte c, 0]) t) ∧
        (s.NoneFree → t.ports = v.ports ∧ t.deferred = v.deferred ∧ t.toll = v.toll) ∧
        s.FacesFollow t ∧
        t.callUnit = { s.callUnit with nextCallId := s.callUnit.nextCallId + 1, callsChanged := true } ∧
        t.calls = s.calls.set b
          { offHook := true, state := .seizing, callId := some s.callUnit.nextCallId,
            circuit := t.calls[b].circuit, partner := none, offerCount := none, offeringSince := none,
            offerTimer := none, incidentTimer := some (s.now + 10000), silenceTimer := none, changedAt := s.now } ∧
        (∀ c, s.LowestFree c →
          t.circuits = s.circuits.set c (.claiming b (some (s.now + 40))) ∧ t.calls[b].circuit = some c ∧
            t.claims = s.claims.set b ⟨true, 0, none⟩) ∧
        (s.NoneFree →
          t.circuits = s.circuits ∧ t.calls[b].circuit = none ∧
            t.claims = s.claims.set b ⟨true, 0, some (s.now + 1000)⟩) ∧
        t.playout =
          { s.playout with
            boxes := s.playout.boxes.set b
              { s.playout.boxes[b] with store := emptyStore, sendSeq := 0, sendTimer := none }
            tones := s.playout.tones.set b ⟨.progress, true, some (s.now + 400), false⟩ } ∧
        (s.incidents.table.length < 8 →
          (∀ e ∈ s.incidents.table, ¬(e.origin = s.number ∧ e.callId = s.callUnit.nextCallId)) →
          s.incidents.wasCleared s.number s.callUnit.nextCallId = false →
          t.incidents.table = s.incidents.table ++ [⟨s.number, s.callUnit.nextCallId, b, .own, 0, s.now⟩]) ∧
        t.incidents.cleared = s.incidents.cleared ∧ t.readings = s.readings ∧ t.pages = s.pages ∧
        t.counts = s.counts ∧ t.map = s.map ∧ t.reach = s.reach ∧ t.config = s.config ∧ t.joined = true) ∧
    ((s.joined = false ∨ b.val < s.config.boxes ∧ s.calls[b].state ≠ .idle) →
      exec (.hookOffHook b) s = .next { s with calls := s.calls.set b { s.calls[b] with offHook := true } }) ∧
    (s.joined = true → s.config.boxes ≤ b.val → exec (.hookOffHook b) s = .next s)

/-- A handset put down ends its call: the record is IDLE and keeps its call id, its bound circuit is FREE, its cadence and
voice stop, a CONNECTED call sends a HANGUP to its partner, and a RELEASE follows for a bound circuit (R56, R72). An IDLE
record's hook level alone changes, and so does any port's in STARTING; a port that is not fitted is not read once JOINED
(R63).
It rests on the model's choices of assumptions 35, 48. -/
def Obligations.OnHookEndsTheCall : Prop :=
  (∀ (b : Fin 4) (s : State), s.resetHeld = false →
    (s.joined = false →
      exec (.hookOnHook b) s = .next { s with calls := s.calls.set b { s.calls[b] with offHook := false } }) ∧
    (s.joined = true → s.config.boxes ≤ b.val → exec (.hookOnHook b) s = .next s)) ∧
  ∀ (b : Fin 4) (s : State), s.resetHeld = false → s.joined = true → b.val < s.config.boxes →
    (s.calls[b].state = .idle →
      exec (.hookOnHook b) s = .next { s with calls := s.calls.set b { s.calls[b] with offHook := false } }) ∧
    (s.calls[b].state ≠ .idle →
      ∃ u w t, exec (.hookOnHook b) s = .next t ∧
        t = { s with
              calls := s.calls.set b
                { resetCall with offHook := false, callId := s.calls[b].callId, changedAt := s.now }
              claims := s.claims.set b ⟨false, 0, none⟩
              circuits := (match s.boundCircuit b with | none => s.circuits | some c => s.circuits.set c .free)
              callUnit := { s.callUnit with callsChanged := true }
              playout :=
                { s.playout with
                  boxes := s.playout.boxes.set b
                    { s.playout.boxes[b] with store := emptyStore, sendTimer := none }
                  tones := s.playout.tones.set b silentTone }
              ports := w.ports, toll := w.toll
              deferred := w.deferred.filter fun d => d.tag != .firstIncident b } ∧
        u = { s with ports := u.ports, deferred := u.deferred, toll := u.toll } ∧
        (∀ x, s.calls[b].state = .connected → s.calls[b].partner = some x →
          s.Offered (some .plain) (s.newFrame .hangup x.station 63 [s.calls[b].callId.getD 0, 1]) u) ∧
        (s.calls[b].state ≠ .connected → u = s) ∧
        w = { u with ports := w.ports, deferred := w.deferred, toll := w.toll } ∧
        (∀ c, s.boundCircuit b = some c →
          ({ u with deferred := u.deferred.filter fun d => d.tag != .claim c } : State).Offered (some (.release c))
            (s.broadcast63 .release [circuitByte c]) w) ∧
        (s.boundCircuit b = none → w = u))

/-- The timers of a call. Each expiry of the offer timer sends an OFFER with the next count while the circuit is held, and
else leaves the timer stopped (R67). Each expiry of the incident refresh restarts it at 10 s, offers the INCIDENT once more
and refreshes the station's own entry, or enters it anew, which causes one immediate evaluation (R66, R105, R106, R134). The partner's silence returns a CONNECTED call to OFFERING with its circuit (R70).
It rests on the model's choices of assumptions 1, 4, 31. -/
def Obligations.CallTimersRunOut : Prop :=
  (∀ (b : Fin 4) (s : State) (due : Nat), s.resetHeld = false → s.calls[b].offerTimer = some due →
    let now' := max s.now due
    let count := min 255 (s.calls[b].offerCount.getD 0 + 1)
    (∀ c, s.Holds b c →
      ∃ t, exec (.offerTimerExpiry b) s = .next t ∧
        t = { s with
              now := now'
              calls := s.calls.set b
                { s.calls[b] with offerCount := some count, offerTimer := some (now' + 5000) }
              ports := t.ports, deferred := t.deferred, toll := t.toll } ∧
        s.Offered none
          (s.broadcast63 .offer [s.calls[b].callId.getD 0, byteOf b.val, circuitByte c, byteOf count]) t) ∧
    ((∀ c, ¬s.Holds b c) →
      exec (.offerTimerExpiry b) s =
        .next { s with now := now', calls := s.calls.set b { s.calls[b] with offerTimer := none } })) ∧
  (∀ (b : Fin 4) (s : State) (due : Nat), s.resetHeld = false → s.calls[b].incidentTimer = some due →
    let now' := max s.now due
    let callId := s.calls[b].callId.getD 0
    ∃ u t : State, exec (.incidentRefreshTimerExpiry b) s = .next t ∧ t.now = now' ∧
      s.Offered none (s.newFrame .incident 0 s.config.incidentReach [callId, byteOf b.val]) u ∧
      u = { s with now := now', ports := u.ports, deferred := u.deferred, toll := u.toll } ∧
      (s.incidents.wasCleared s.number callId = true → t.speed = s.speed ∧ t.ports = u.ports ∧
        t.deferred = u.deferred ∧ t.toll = u.toll ∧ t.faces = s.faces) ∧
      (s.incidents.wasCleared s.number callId = false → (∀ e ∈ s.incidents.table, e.hasKey s.number callId = false) →
        (s.incidents.table.length < 8 →
          t.incidents.table = s.incidents.table ++ [⟨s.number, callId, b, .own, 0, now'⟩]) ∧
        (s.incidents.table.length < 8 ∨ (∃ e ∈ s.incidents.table, 0 < e.distance) → u.EvaluatedNow t)) ∧
      (s.incidents.wasCleared s.number callId = false →
        (∀ e ∈ s.incidents.table, e.hasKey s.number callId = true → e.side = .own ∧ e.distance = 0) →
        (∃ e ∈ s.incidents.table, e.hasKey s.number callId = true) →
        t.speed = s.speed ∧ t.warnings = s.warnings ∧ t.ports = u.ports ∧ t.deferred = u.deferred ∧
          t.toll = u.toll ∧ t.faces = s.faces) ∧
      s.FacesFollow t ∧
      t.calls = s.calls.set b { s.calls[b] with incidentTimer := some (now' + 10000) } ∧
      t.circuits = s.circuits ∧ t.claims = s.claims ∧ t.callUnit = s.callUnit ∧ t.playout = s.playout ∧
      t.readings = s.readings ∧ t.pages = s.pages ∧ t.counts = s.counts ∧ t.map = s.map ∧ t.reach = s.reach ∧
      (s.incidents.wasCleared s.number (s.calls[b].callId.getD 0) = true → t.incidents = s.incidents) ∧
      (s.incidents.wasCleared s.number (s.calls[b].callId.getD 0) = false →
        (∃ e ∈ s.incidents.table, e.hasKey s.number (s.calls[b].callId.getD 0) = true) →
        t.incidents.table = s.incidents.table.map fun e =>
          if e.hasKey s.number (s.calls[b].callId.getD 0) then
            ⟨s.number, s.calls[b].callId.getD 0, b, .own, 0, now'⟩
          else e)) ∧
  (∀ (b : Fin 4) (s : State) (due : Nat), s.resetHeld = false → s.calls[b].silenceTimer = some due →
    s.calls[b].state = .connected →
    let now' := max s.now due
    let count := min 255 (s.calls[b].offerCount.getD 0 + 1)
    let offering : CallRecord :=
      { s.calls[b] with
        state := .offering, partner := none, silenceTimer := none, offeringSince := some now', offerTimer := none,
        changedAt := now' }
    ∃ t, exec (.partnerSilenceTimerExpiry b) s = .next t ∧
      t = { s with
            now := now', calls := t.calls, ports := t.ports, deferred := t.deferred, toll := t.toll
            callUnit := { s.callUnit with callsChanged := true }
            playout :=
              { s.playout with
                boxes := s.playout.boxes.set b { s.playout.boxes[b] with store := emptyStore, sendTimer := none }
                tones := s.playout.tones.set b ⟨.progress, true, some (now' + 400), false⟩ } } ∧
      (∀ c, s.Holds b c →
        t.calls = s.calls.set b { offering with offerCount := some count, offerTimer := some (now' + 5000) } ∧
          s.Offered none
            (s.broadcast63 .offer [s.calls[b].callId.getD 0, byteOf b.val, circuitByte c, byteOf count]) t) ∧
      ((∀ c, ¬s.Holds b c) → t.calls = s.calls.set b offering ∧ t.ports = s.ports ∧ t.deferred = s.deferred))

/-- A TAKE is judged against the current call it names: an OFFERING call is CONNECTED with its sender through the port of
arrival, a CONNECTED one ignores its partner's and refuses another station's, a CLEARED one and an id that no current call
carries draw REFUSE(ENDED), and a SEIZING one ignores it (R68, R69). -/
def Obligations.TakeIsJudgedByTheCall : Prop :=
  ∀ (p : Side) (bytes : List Byte) (f : Frame) (callId : Byte) (lane : Fin 2) (s : State), s.Arrives p bytes f →
    s.joined = true → f.TakenBy .take false s.number → parseTake f.payload = some (callId, lane) →
    ∃ t, exec (.lineFrameArrives p bytes) s = .next t ∧
      (s.currentCall callId = none →
        t = { s.reached p f with ports := t.ports, deferred := t.deferred, toll := t.toll } ∧
          (s.reached p f).Offered (some .plain) (s.newFrame .refuse f.origin 63 [callId, 1]) t) ∧
      ∀ b, s.currentCall callId = some b →
        (s.calls[b].state = .offering →
          t = { s.reached p f with
                calls := s.calls.set b
                  { s.calls[b] with
                    state := .connected, partner := some ⟨f.origin, lane, p⟩, offerTimer := none,
                    offeringSince := none, silenceTimer := some (s.now + 2000), changedAt := s.now }
                callUnit := { s.callUnit with callsChanged := true }
                playout :=
                  { s.playout with
                    boxes := s.playout.boxes.set b
                      { s.playout.boxes[b] with store := emptyStore, sendTimer := some (s.now + 20) }
                    tones := s.playout.tones.set b ⟨.answered, true, some (s.now + 200), false⟩ } }) ∧
        (∀ x, s.calls[b].state = .connected → s.calls[b].partner = some x →
          (x.station = f.origin → t = s.reached p f) ∧
          (x.station ≠ f.origin →
            t = { s.reached p f with ports := t.ports, deferred := t.deferred, toll := t.toll } ∧
              (s.reached p f).Offered (some .plain) (s.newFrame .refuse f.origin 63 [callId, 0]) t)) ∧
        (s.calls[b].state = .cleared →
          t = { s.reached p f with ports := t.ports, deferred := t.deferred, toll := t.toll } ∧
            (s.reached p f).Offered (some .plain) (s.newFrame .refuse f.origin 63 [callId, 1]) t) ∧
        (s.calls[b].state = .seizing → t = s.reached p f)

/-- A taken OFFER refreshes its entry of the offer list in its place, or is added at the end, where a full list first
loses the entry heard longest ago; a call that a lane of the station is TAKING is not entered, and for one that a
lane is TALKING the lane sends its TAKE again (R74, R80). An offer not heard for 12 s leaves the list, which sets the
offers-changed mark (R75). A HANGUP of its origin toward the lane takes its entry from the list as well, and returns
every TAKING, TALKING or LOST lane of that call to IDLE (R78, R79, R82).
It rests on the model's choices of assumptions 1, 4. -/
def Obligations.OffersAreListedAndLeave : Prop :=
  (∀ (p : Side) (bytes : List Byte) (f : Frame) (o : OfferFields) (s : State), s.Arrives p bytes f → s.joined = true →
      s.config.answering = true → f.TakenBy .offer true s.number → parseOffer f.payload = some o →
      let offers := s.callUnit.offers
      let unlisted := ∀ x ∈ offers, x.hasKey f.origin o.callId = false
      let laneIn (st : LaneState) (l : Fin 2) : Prop :=
        s.callUnit.lanes[l].state = st ∧ s.callUnit.lanes[l].hasCall f.origin o.callId = true
      let added : Offer := ⟨f.origin, o.callId, o.box, o.circuit, o.count, p, s.now, s.now⟩
      ((∃ x ∈ offers, x.hasKey f.origin o.callId = true) →
        exec (.lineFrameArrives p bytes) s = .next { s.reached p f with callUnit := { s.callUnit with
          offersChanged := true
          offers := offers.map fun x =>
            if x.hasKey f.origin o.callId then
              { x with circuit := o.circuit, count := o.count, port := p, lastHeard := s.now }
            else x } }) ∧
      (unlisted → (∃ l, laneIn .taking l) → exec (.lineFrameArrives p bytes) s = .next (s.reached p f)) ∧
      (unlisted → (∀ l, ¬laneIn .taking l) → ∀ l, laneIn .talking l → (∀ k, k < l → ¬laneIn .talking k) →
        ∃ t, exec (.lineFrameArrives p bytes) s = .next t ∧
          t = { s.reached p f with ports := t.ports, deferred := t.deferred, toll := t.toll } ∧
          (s.reached p f).Offered (some (.take l)) (s.newFrame .take f.origin 63 [o.callId, byteOf l.val]) t) ∧
      (unlisted → (∀ l, ¬laneIn .taking l ∧ ¬laneIn .talking l) →
        (offers.length < 16 →
          exec (.lineFrameArrives p bytes) s = .next { s.reached p f with callUnit := { s.callUnit with
            offersChanged := true, offers := offers ++ [added] } }) ∧
        (16 ≤ offers.length → ∀ (before after : List Offer) (v : Offer), offers = before ++ v :: after →
          (∀ x ∈ before, v.lastHeard < x.lastHeard) → (∀ x ∈ after, v.lastHeard ≤ x.lastHeard) →
          exec (.lineFrameArrives p bytes) s = .next { s.reached p f with callUnit := { s.callUnit with
            offersChanged := true, offers := before ++ after ++ [added] } }))) ∧
  ((∀ (origin : Nat) (callId : Byte) (s : State), s.resetHeld = false →
      (∀ o, (s.callUnit.offers.find? fun o => o.hasKey origin callId) = some o →
        exec (.offerEntryAgeOut origin callId) s =
          .next { s with
            now := max s.now (o.lastHeard + 12000)
            callUnit := { s.callUnit with
              offersChanged := true, offers := s.callUnit.offers.filter fun x => !x.hasKey origin callId } }) ∧
      ((∀ o ∈ s.callUnit.offers, o.hasKey origin callId = false) →
        exec (.offerEntryAgeOut origin callId) s = .next s)) ∧
    (∀ (p : Side) (bytes : List Byte) (f : Frame) (callId : Byte) (s : State), s.Arrives p bytes f → s.joined = true →
      f.TakenBy .hangup false s.number → parseIdBit f.payload = some (callId, true) →
      ∃ t, exec (.lineFrameArrives p bytes) s = .next t ∧
        t = { s.reached p f with
              callUnit := t.callUnit, playout := t.playout, deferred := t.deferred } ∧
        t.callUnit.offers = (s.callUnit.offers.filter fun x => !x.hasKey f.origin callId) ∧
        t.callUnit.nextCallId = s.callUnit.nextCallId ∧
        ∀ l : Fin 2,
          (s.callUnit.lanes[l].state ≠ .idle ∧ s.callUnit.lanes[l].hasCall f.origin callId = true →
            t.callUnit.lanes[l] = { resetLane with outcome := .callerHungUp, changedAt := s.now } ∧
              t.playout.lanes[l].store = emptyStore ∧ t.playout.lanes[l].sendTimer = none ∧
              t.callUnit.callsChanged = true) ∧
          (¬(s.callUnit.lanes[l].state ≠ .idle ∧ s.callUnit.lanes[l].hasCall f.origin callId = true) →
            t.callUnit.lanes[l] = s.callUnit.lanes[l] ∧ t.playout.lanes[l] = s.playout.lanes[l])))

/-- A HANGUP toward the call box clears the current call it names when that is CONNECTED with its sender, and no
other: the record is CLEARED without partner, its timers stop, the CLEARED cadence begins, and a RELEASE of its
circuit follows (R71, R56). A REFUSE returns every TAKING or TALKING lane of the call it names to IDLE, with the
outcome that its reason gives; a LOST lane and a lane of another call ignore it (R78, R79, R82).
It rests on the model's choices of assumptions 34, 48. -/
def Obligations.HangupAndRefuseEndTheirCalls : Prop :=
  (∀ (p : Side) (bytes : List Byte) (f : Frame) (callId : Byte) (s : State), s.Arrives p bytes f → s.joined = true →
      f.TakenBy .hangup false s.number → parseIdBit f.payload = some (callId, false) →
      (∀ (b : Fin 4) (x : Partner), s.currentCall callId = some b → s.calls[b].state = .connected →
        s.calls[b].partner = some x → x.station = f.origin →
        ∃ w t, exec (.lineFrameArrives p bytes) s = .next t ∧
          t = { s.reached p f with
                calls := s.calls.set b
                  { s.calls[b] with
                    state := .cleared, circuit := none, partner := none, offerTimer := none, incidentTimer := none,
                    silenceTimer := none, changedAt := s.now }
                claims := s.claims.set b ⟨false, 0, none⟩
                circuits := (match s.boundCircuit b with | none => s.circuits | some c => s.circuits.set c .free)
                callUnit := { s.callUnit with callsChanged := true }
                playout :=
                  { s.playout with
                    boxes := s.playout.boxes.set b
                      { s.playout.boxes[b] with store := emptyStore, sendTimer := none }
                    tones := s.playout.tones.set b ⟨.cleared, true, some (s.now + 1000), false⟩ }
                ports := w.ports, toll := w.toll
                deferred := w.deferred.filter fun d => d.tag != .firstIncident b } ∧
          (∀ c, s.boundCircuit b = some c →
            ({ s.reached p f with
               deferred := (s.reached p f).deferred.filter fun d => d.tag != .claim c } : State).Offered
              (some (.release c)) (s.broadcast63 .release [circuitByte c]) w) ∧
          (s.boundCircuit b = none → w = s.reached p f)) ∧
      ((∀ (b : Fin 4) (x : Partner), s.currentCall callId = some b → s.calls[b].state = .connected →
          s.calls[b].partner = some x → x.station ≠ f.origin) →
        exec (.lineFrameArrives p bytes) s = .next (s.reached p f))) ∧
  (∀ (p : Side) (bytes : List Byte) (f : Frame) (callId : Byte) (ended : Bool) (s : State), s.Arrives p bytes f →
      s.joined = true → f.TakenBy .refuse false s.number → parseIdBit f.payload = some (callId, ended) →
      ∃ t, exec (.lineFrameArrives p bytes) s = .next t ∧
        t = { s.reached p f with callUnit := t.callUnit, playout := t.playout, deferred := t.deferred } ∧
        t.callUnit.offers = s.callUnit.offers ∧ t.callUnit.nextCallId = s.callUnit.nextCallId ∧
        ∀ l : Fin 2,
          let named :=
            (s.callUnit.lanes[l].state = .taking ∨ s.callUnit.lanes[l].state = .talking) ∧
              s.callUnit.lanes[l].hasCall f.origin callId = true
          (named →
            t.callUnit.lanes[l] =
                { resetLane with outcome := if ended then .ended else .takenElsewhere, changedAt := s.now } ∧
              t.playout.lanes[l].store = emptyStore ∧ t.callUnit.callsChanged = true) ∧
          (¬named → t.callUnit.lanes[l] = s.callUnit.lanes[l] ∧ t.playout.lanes[l] = s.playout.lanes[l]))

/-- TAKE_CALL takes a listed offer onto an IDLE fitted lane: the entry leaves the list, the lane is TAKING with the
offer's call and one send, its take timer runs 2 s and a TAKE is steered to the origin. A bad argument or a lane that
is not fitted, a busy lane, and an offer that is not listed are refused in this order, with nothing changed (R77,
R84, R199). END_CALL brings a fitted lane to IDLE with OPERATOR_ENDED, after a HANGUP to the caller from TAKING and
TALKING and without one from LOST; an IDLE lane stays as it is. Each accepted END_CALL sets the calls-changed mark
(R82, R84).
It rests on the model's choices of assumptions 8, 48. -/
def Obligations.OperatorTakesAndEndsCalls : Prop :=
  (∀ (args : List Word) (s : State), s.Accepts .takeCall args.length →
      (parseTakeCall args = none → exec (.takeCall args) s = .next { s with response := ⟨.badArgument, .takeCall, .none⟩ }) ∧
      ∀ (origin : Nat) (callId : Byte) (l : Fin 2), parseTakeCall args = some (origin, callId, l) →
        (s.config.lanes ≤ l.val →
          exec (.takeCall args) s = .next { s with response := ⟨.badArgument, .takeCall, .none⟩ }) ∧
        (l.val < s.config.lanes → s.callUnit.lanes[l].state ≠ .idle →
          exec (.takeCall args) s = .next { s with response := ⟨.busy, .takeCall, .none⟩ }) ∧
        (l.val < s.config.lanes → s.callUnit.lanes[l].state = .idle →
          (∀ o ∈ s.callUnit.offers, o.hasKey origin callId = false) →
          exec (.takeCall args) s = .next { s with response := ⟨.notFound, .takeCall, .none⟩ }) ∧
        (l.val < s.config.lanes → s.callUnit.lanes[l].state = .idle →
          ∀ o, (s.callUnit.offers.find? fun o => o.hasKey origin callId) = some o →
          ∃ t, exec (.takeCall args) s = .next t ∧
            t = { s with
                  callUnit := { s.callUnit with
                    offers := s.callUnit.offers.filter fun x => !x.hasKey origin callId
                    offersChanged := true
                    callsChanged := true
                    lanes := s.callUnit.lanes.set l
                      { state := .taking, call := some ⟨origin, callId, o.circuit, o.port⟩, takeSends := some 1,
                        takeTimer := some (s.now + 2000), silenceTimer := none, outcome := .none,
                        changedAt := s.now } }
                  playout := { s.playout with
                    lanes := s.playout.lanes.set l { s.playout.lanes[l] with store := emptyStore, sendTimer := none } }
                  response := ⟨.ok, .takeCall, .none⟩
                  ports := t.ports, deferred := t.deferred, toll := t.toll } ∧
            s.Offered (some (.take l)) (s.newFrame .take origin 63 [callId, byteOf l.val]) t)) ∧
  (∀ (w : Word) (l : Fin 2) (s : State), s.Accepts .endCall 1 → w.toNat = l.val →
      (s.config.lanes ≤ l.val →
        exec (.endCall [w]) s = .next { s with response := ⟨.badArgument, .endCall, .none⟩ }) ∧
      (l.val < s.config.lanes → s.callUnit.lanes[l].state = .idle →
        exec (.endCall [w]) s =
          .next { s with
            callUnit := { s.callUnit with callsChanged := true }, response := ⟨.ok, .endCall, .none⟩ }) ∧
      (l.val < s.config.lanes → s.callUnit.lanes[l].state ≠ .idle →
        ∃ u t, exec (.endCall [w]) s = .next t ∧
          t = { s with
                callUnit := { s.callUnit with
                  callsChanged := true
                  lanes := s.callUnit.lanes.set l
                    { resetLane with outcome := .operatorEnded, changedAt := s.now } }
                playout := { s.playout with
                  lanes := s.playout.lanes.set l { s.playout.lanes[l] with store := emptyStore, sendTimer := none } }
                response := ⟨.ok, .endCall, .none⟩
                ports := u.ports, toll := u.toll
                deferred := u.deferred.filter fun d => d.tag != .take l } ∧
          (∀ c, s.callUnit.lanes[l].state = .taking ∨ s.callUnit.lanes[l].state = .talking →
            s.callUnit.lanes[l].call = some c →
            s.Offered (some .plain) (s.newFrame .hangup c.origin 63 [c.callId, 0]) u) ∧
          (s.callUnit.lanes[l].state = .lost → u = s)) ∧
      (∀ v : Word, 2 ≤ v.toNat →
        exec (.endCall [v]) s = .next { s with response := ⟨.badArgument, .endCall, .none⟩ }))

/-- A TAKING lane sends its TAKE again at each expiry of its take timer, and is LOST with NO_ANSWER after three sends; a lane
whose call's voice has been silent for 2 s is LOST with SILENCE. A LOST lane keeps its call, runs no timer and sends
nothing (R78, R79, R82).
It rests on the model's choices of assumptions 1, 4. -/
def Obligations.LaneTimersRunOut : Prop :=
  (∀ (l : Fin 2) (s : State) (due : Nat) (c : LaneCall) (sends : Nat), s.resetHeld = false →
    s.callUnit.lanes[l].takeTimer = some due → s.callUnit.lanes[l].state = .taking →
    s.callUnit.lanes[l].call = some c → s.callUnit.lanes[l].takeSends = some sends →
    let now' := max s.now due
    (sends < 3 →
      ∃ t, exec (.takeTimerExpiry l) s = .next t ∧
        t = { s with
              now := now'
              callUnit := { s.callUnit with
                lanes := s.callUnit.lanes.set l { s.callUnit.lanes[l] with takeSends := some (sends + 1), takeTimer := some (now' + 2000) } }
              ports := t.ports, deferred := t.deferred, toll := t.toll } ∧
        s.Offered (some (.take l)) (s.newFrame .take c.origin 63 [c.callId, byteOf l.val]) t) ∧
    (3 ≤ sends →
      exec (.takeTimerExpiry l) s =
        .next { s with
          now := now'
          callUnit := { s.callUnit with
            callsChanged := true
            lanes := s.callUnit.lanes.set l
              { state := .lost, call := some c, takeSends := none, takeTimer := none, silenceTimer := none,
                outcome := .noAnswer, changedAt := now' } }
          playout := { s.playout with
            lanes := s.playout.lanes.set l { s.playout.lanes[l] with store := emptyStore, sendTimer := none } }
          deferred := s.deferred.filter fun d => d.tag != .take l })) ∧
  (∀ (l : Fin 2) (s : State) (due : Nat), s.resetHeld = false → s.callUnit.lanes[l].silenceTimer = some due →
    s.callUnit.lanes[l].state = .talking →
    exec (.laneSilenceTimerExpiry l) s =
      .next { s with
        now := max s.now due
        callUnit := { s.callUnit with
          callsChanged := true
          lanes := s.callUnit.lanes.set l
            { state := .lost, call := s.callUnit.lanes[l].call, takeSends := none, takeTimer := none,
              silenceTimer := none, outcome := .silence, changedAt := max s.now due } }
        playout := { s.playout with
          lanes := s.playout.lanes.set l { s.playout.lanes[l] with store := emptyStore, sendTimer := none } }
        deferred := s.deferred.filter fun d => d.tag != .take l })

/-! ### Voice, playout and tones (chapter 5) -/

/-- Every 20 ms of a CONNECTED call and of a TALKING lane the send sequence advances and the timer restarts. A call whose
circuit is held, and every lane, builds the VOICE frame of R89 to R91 and offers it to the VL of the port it holds: behind
a frame being sent it joins VL, which drops its oldest when it holds 4 (R31); an IDLE transmitter takes it at once (R32); at
a port that is not UP or DEGRADED the
block is discarded.
It rests on the model's choices of assumptions 1, 33. -/
def Obligations.VoiceBlocksAreSentAndCounted : Prop :=
  (∀ (b : Fin 4) (samples : Vector Byte 160) (s : State) (due : Nat), s.resetHeld = false →
    s.playout.boxes[b].sendTimer = some due →
    let now' := max s.now due
    let counted : Playout :=
      { s.playout with
        boxes := s.playout.boxes.set b { s.playout.boxes[b] with sendSeq := s.playout.boxes[b].sendSeq + 1, sendTimer := some (now' + 20) } }
    (∀ (x : Partner) (callId : Byte) (c : Fin 16), s.calls[b].partner = some x → s.calls[b].callId = some callId →
      s.Holds b c →
      let y := s.ports.get x.port
      let f := s.newFrame .voice x.station 63
        ([circuitByte c, callId, s.playout.boxes[b].sendSeq] ++ samples.toList)
      (y.isUp = true → y.sending.isSome = true →
        exec (.callBoxSendTimerExpiry b samples) s =
          .next { s with
            now := now', playout := counted
            ports := s.ports.set x.port
              { y with
                queues := { y.queues with
                  vl := (if y.queues.vl.length < 4 then y.queues.vl else y.queues.vl.drop 1) ++ [f] } } }) ∧
      (y.isUp = true → y.sending = none → y.queues = emptyQueues →
        exec (.callBoxSendTimerExpiry b samples) s =
          .next { s with
            now := now', playout := counted, ports := s.ports.set x.port { y with sending := some f } }) ∧
      (y.isUp = false →
        exec (.callBoxSendTimerExpiry b samples) s = .next { s with now := now', playout := counted })) ∧
    ((∀ c, ¬s.Holds b c) →
      exec (.callBoxSendTimerExpiry b samples) s = .next { s with now := now', playout := counted })) ∧
  (∀ (l : Fin 2) (samples : Vector Byte 160) (s : State) (due : Nat) (c : LaneCall), s.resetHeld = false →
    s.playout.lanes[l].sendTimer = some due → s.callUnit.lanes[l].call = some c →
    let now' := max s.now due
    let counted : Playout :=
      { s.playout with
        lanes := s.playout.lanes.set l { s.playout.lanes[l] with sendSeq := s.playout.lanes[l].sendSeq + 1, sendTimer := some (now' + 20) } }
    let y := s.ports.get c.port
    let f := s.newFrame .voice c.origin 63
      ([circuitByte c.circuit ||| 0x80, c.callId, s.playout.lanes[l].sendSeq] ++ samples.toList)
    (y.isUp = true → y.sending.isSome = true →
      exec (.laneSendTimerExpiry l samples) s =
        .next { s with
          now := now', playout := counted
          ports := s.ports.set c.port
            { y with
              queues := { y.queues with
                vl := (if y.queues.vl.length < 4 then y.queues.vl else y.queues.vl.drop 1) ++ [f] } } }) ∧
    (y.isUp = true → y.sending = none → y.queues = emptyQueues →
      exec (.laneSendTimerExpiry l samples) s =
        .next { s with
          now := now', playout := counted, ports := s.ports.set c.port { y with sending := some f } }) ∧
    (y.isUp = false →
      exec (.laneSendTimerExpiry l samples) s = .next { s with now := now', playout := counted }))

/-- A taken VOICE block goes to the jitter store of the CONNECTED call, or of the TAKING or TALKING lane, whose partner,
call id and direction it has, and restarts its silence timer; a TAKING lane becomes TALKING, and a lane follows the block's
circuit and port (R70, R78, R81, R93).
It rests on the model's choices of assumption 14. -/
def Obligations.VoiceReachesItsListener : Prop :=
  ∀ (p : Side) (bytes : List Byte) (f : Frame) (v : Voice) (s : State), s.Arrives p bytes f → s.joined = true →
    f.TakenBy .voice false s.number → parseVoice f.payload = some v →
    ∃ t, exec (.lineFrameArrives p bytes) s = .next t ∧
      (v.toward = true →
        t = { s.reached p f with calls := t.calls, playout := t.playout } ∧
        ∀ b : Fin 4,
          ((s.calls[b].state = .connected ∧ (∃ x, s.calls[b].partner = some x ∧ x.station = f.origin) ∧
              s.calls[b].callId = some v.callId) →
            t.calls[b] = { s.calls[b] with silenceTimer := some (s.now + 2000) } ∧
              t.playout.boxes[b] =
                { s.playout.boxes[b] with
                  store := s.playout.boxes[b].store.arrive ⟨v.sequence, v.samples⟩ }) ∧
          (¬(s.calls[b].state = .connected ∧ (∃ x, s.calls[b].partner = some x ∧ x.station = f.origin) ∧
              s.calls[b].callId = some v.callId) →
            t.calls[b] = s.calls[b] ∧ t.playout.boxes[b] = s.playout.boxes[b])) ∧
      (v.toward = false →
        t = { (s.heard p f).showVoice f.counted with callUnit := t.callUnit, playout := t.playout } ∧
        t.playout.boxes = s.playout.boxes ∧
        ∀ l : Fin 2,
          let talked : OpLane :=
            { s.callUnit.lanes[l] with
              state := .talking, call := some ⟨f.origin, v.callId, v.circuit, p⟩, takeSends := none,
              takeTimer := none, silenceTimer := some (s.now + 2000) }
          (s.callUnit.lanes[l].state = .taking → s.callUnit.lanes[l].hasCall f.origin v.callId = true →
            t.callUnit.lanes[l] = { talked with changedAt := s.now } ∧ t.callUnit.callsChanged = true ∧
              t.playout.lanes[l].store = ⟨.prefill, [⟨v.sequence, v.samples⟩], none, 0⟩ ∧
              t.playout.lanes[l].sendSeq = 0 ∧ t.playout.lanes[l].sendTimer = some (s.now + 20)) ∧
          (s.callUnit.lanes[l].state = .talking → s.callUnit.lanes[l].hasCall f.origin v.callId = true →
            t.callUnit.lanes[l] = talked ∧
              t.playout.lanes[l] =
                { s.playout.lanes[l] with
                  store := s.playout.lanes[l].store.arrive ⟨v.sequence, v.samples⟩ }) ∧
          (s.callUnit.lanes[l].hasCall f.origin v.callId = false →
            t.callUnit.lanes[l] = s.callUnit.lanes[l] ∧ t.playout.lanes[l] = s.playout.lanes[l]))

/-- A playout tick plays silence from a store in PREFILL; in PLAYING it plays the expected block, and else the last
block once more at the first miss and silence at the second; the third miss plays silence and empties the store (R97,
R98). The audio goes to the owner's output lane, with the tone added at a call box (R99), where the station is JOINED and that
port or lane is fitted (R205), and the playout timer restarts at 20 ms. While a cadence sounds each sample is added to a
420 Hz sine whose peak is a quarter of the largest amplitude, rounded up or down, limited and companded again (R99, R100). What a jitter store does with a block that is handed to it. In
PREFILL the second distinct block of a stream starts PLAYING from the earlier of the two (R95). In PLAYING a late or
duplicate block is discarded, another is kept in sequence order, and a fifth forces out the earliest, past which the
expected sequence moves (R96). At the end of a phase PROGRESS turns to its other phase, of 400 ms on and 200 ms off,
or twice that once the call has been OFFERING for 60 s; ANSWERED ends; CLEARED turns every second (R100 to R102).
It rests on the model's choices of assumptions 1, 5, 6, 17, 18, 19. -/
def Obligations.PlayoutFollowsTheStoreAndCadence : Prop :=
  ((∀ (st : JitterStore), st.phase = .prefill → st.tick = (List.replicate 160 213, st)) ∧
    (∀ (st : JitterStore) (expected : Byte), st.phase = .playing expected →
      (∀ x, (st.blocks.find? fun x => x.sequence == expected) = some x →
        st.tick.1 = x.samples ∧ st.tick.2.phase = .playing (expected + 1) ∧ st.tick.2.misses = 0 ∧
          st.tick.2.lastPlayed = some x.samples ∧
          ∀ y, y ∈ st.tick.2.blocks ↔
            y ∈ st.blocks ∧ y.sequence ≠ expected ∧ older y.sequence (expected + 1) = false) ∧
      ((∀ x ∈ st.blocks, x.sequence ≠ expected) →
        (st.misses = 0 → st.tick.1 = st.lastPlayed.getD (List.replicate 160 213)) ∧
        (1 ≤ st.misses → st.tick.1 = List.replicate 160 213) ∧
        (st.misses < 2 →
          st.tick.2.phase = .playing (expected + 1) ∧ st.tick.2.misses = st.misses + 1 ∧
            st.tick.2.lastPlayed = st.lastPlayed ∧
            ∀ y, y ∈ st.tick.2.blocks ↔ y ∈ st.blocks ∧ older y.sequence (expected + 1) = false) ∧
        (2 ≤ st.misses → st.tick.2 = ⟨.prefill, [], none, 0⟩))) ∧
    (∀ (b : Fin 4) (s : State) (due : Nat), s.resetHeld = false → s.playout.boxes[b].playoutTimer = some due →
      let a := s.playout.boxes[b]
      exec (.playoutTick (.box b)) s =
        .next { s with
          now := max s.now due
          playout := { s.playout with
            boxes := s.playout.boxes.set b { a with
              store := a.store.tick.2, playoutTimer := some (max s.now due + 20)
              out :=
                if s.joined = true ∧ b.val < s.config.boxes then
                  some (s.playout.tones[b].mix b (max s.now due) a.store.tick.1)
                else a.out } } }) ∧
    (∀ (l : Fin 2) (s : State) (due : Nat), s.resetHeld = false → s.playout.lanes[l].playoutTimer = some due →
      let a := s.playout.lanes[l]
      exec (.playoutTick (.lane l)) s =
        .next { s with
          now := max s.now due
          playout := { s.playout with
            lanes := s.playout.lanes.set l { a with
              store := a.store.tick.2, playoutTimer := some (max s.now due + 20)
              out := if s.joined = true ∧ l.val < s.config.lanes then some a.store.tick.1 else a.out } } }) ∧
    (∀ (t : Tone) (b : Fin 4) (now : Nat) (played : List Byte),
      (t.cadence = .none ∨ t.on = false → t.mix b now played = played) ∧
      (t.cadence ≠ .none → t.on = true → ∀ (due i : Nat) (x : Byte), t.phaseTimer = some due → played[i]? = some x →
        (t.mix b now played)[i]? =
          some (alawCode (max (-32256) (min 32256 (alawLinear x + toneAt b due (8 * now + i))))))) ∧
    (∀ (b : Fin 4) (due position : Nat),
      let sine := sineAt (Config.tonePhase b due + position * 21000000)
      (-8064 ≤ toneAt b due position ∧ toneAt b due position ≤ 8064) ∧
        toneAt b due position * unity < 8064 * sine + unity ∧ 8064 * sine - unity < toneAt b due position * unity) ∧
    (∀ x : Nat,
      sineAt (x + 400000000) = sineAt x ∧ sineAt (x + 200000000) = -sineAt x ∧
        (x ≤ 200000000 → sineAt (200000000 - x) = sineAt x) ∧ -unity ≤ sineAt x ∧ sineAt x ≤ unity) ∧
    (sineAt 0 = 0 ∧ sineAt 100000000 = unity)) ∧
  ((∀ (st : JitterStore) (x : Block), st.phase = .prefill →
      (st.blocks = [] → st.arrive x = { st with blocks := [x] }) ∧
      ∀ b, st.blocks = [b] →
        (x.sequence = b.sequence → st.arrive x = st) ∧
        (newer x.sequence b.sequence = true →
          st.arrive x = { st with blocks := [b, x], phase := .playing b.sequence }) ∧
        (older x.sequence b.sequence = true →
          st.arrive x = { st with blocks := [x, b], phase := .playing x.sequence }) ∧
        ((x.sequence - b.sequence).toNat = 128 → st.arrive x = { st with blocks := [x] })) ∧
    (∀ (st : JitterStore) (x : Block) (expected : Byte), st.phase = .playing expected → st.InOrder →
      (128 ≤ (x.sequence - expected).toNat → st.arrive x = st) ∧
      ((∃ y ∈ st.blocks, y.sequence = x.sequence) → st.arrive x = st) ∧
      ((x.sequence - expected).toNat < 128 → (∀ y ∈ st.blocks, y.sequence ≠ x.sequence) →
        ∃ before after, st.blocks = before ++ after ∧
          (∀ y ∈ before, (y.sequence - expected).toNat < (x.sequence - expected).toNat) ∧
          (∀ y ∈ after, (x.sequence - expected).toNat < (y.sequence - expected).toNat) ∧
          (st.blocks.length < 4 → st.arrive x = { st with blocks := before ++ [x] ++ after }) ∧
          (4 ≤ st.blocks.length → ∀ y ys, before ++ [x] ++ after = y :: ys →
            st.arrive x = { st with blocks := ys, phase := .playing (y.sequence + 1) })))) ∧
  (∀ (b : Fin 4) (s : State) (due : Nat), s.resetHeld = false → s.playout.tones[b].phaseTimer = some due →
      let x := s.playout.tones[b]
      let now' := max s.now due
      let after (t : Tone) : State :=
        { s with now := now', playout := { s.playout with tones := s.playout.tones.set b t } }
      (x.cadence = .progress → x.halfRate = false → (∀ since, s.calls[b].offeringSince = some since → now' < since + 60000) →
        exec (.cadencePhaseEnd b) s =
          .next (after ⟨.progress, !x.on, some (now' + if x.on then 200 else 400), false⟩)) ∧
      (x.cadence = .progress →
        (x.halfRate = true ∨ ∃ since, s.calls[b].offeringSince = some since ∧ since + 60000 ≤ now') →
        exec (.cadencePhaseEnd b) s =
          .next (after ⟨.progress, !x.on, some (now' + if x.on then 400 else 800), true⟩)) ∧
      (x.cadence = .answered → exec (.cadencePhaseEnd b) s = .next (after silentTone)) ∧
      (x.cadence = .cleared →
        exec (.cadencePhaseEnd b) s = .next (after ⟨.cleared, !x.on, some (now' + 1000), x.halfRate⟩)))

/-! ### Incidents, readings and warnings (chapter 6) -/

/-- A taken INCIDENT of a key cleared within 60 s is ignored; a listed one takes its new side, distance and age 0 in its
place; a new one is added at the end while fewer than 8 stand, and else takes the place of the farthest entry, the oldest
and then the foremost among equals, if it is nearer (R105, R107). The INCIDENT warnings follow the table (R122). A new entry, a
refresh to a smaller distance, an INCIDENT warning turned on and an entry nearer to a face than its last evaluation used cause
one immediate evaluation of both faces, and nothing else does (R108, R133, R134). The faces are selected where their sets
change (R118). Hops above 7 are not taken.
It rests on the model's choices of assumptions 11, 31. -/
def Obligations.IncidentsAreEntered : Prop :=
  ∀ (p : Side) (bytes : List Byte) (f : Frame) (callId : Byte) (b : Fin 4) (s : State), s.Arrives p bytes f →
    s.joined = true → f.TakenBy .incident true s.number → parseIncident f.payload = some (callId, b) →
    let e : Incident := ⟨f.origin, callId, b, .ahead p, f.hops + 1, s.now⟩
    let table := s.incidents.table
    (7 < f.hops + 1 → exec (.lineFrameArrives p bytes) s = .next (s.reached p f)) ∧
    (f.hops + 1 ≤ 7 → s.incidents.wasCleared f.origin callId = true →
      exec (.lineFrameArrives p bytes) s = .next (s.reached p f)) ∧
    (f.hops + 1 ≤ 7 → s.incidents.wasCleared f.origin callId = false →
      ∃ t, exec (.lineFrameArrives p bytes) s = .next t ∧
        t = { s.reached p f with
              incidents := t.incidents, warnings := t.warnings, speed := t.speed, faces := t.faces,
              faults := t.faults, ports := t.ports, deferred := t.deferred, toll := t.toll } ∧
        t.incidents.cleared = s.incidents.cleared ∧
        t.warnings = { s.warnings with incident := t.warnings.incident, closeAdvised := t.warnings.closeAdvised } ∧
        s.FacesFollow t ∧
        (let unlisted := ∀ x ∈ table, x.hasKey f.origin callId = false
         let entered := unlisted ∧ t.incidents.table ≠ table
         let approached := ∃ x, (table.find? fun x => x.hasKey f.origin callId) = some x ∧ e.distance < x.distance
         let kept := ∃ x, (table.find? fun x => x.hasKey f.origin callId) = some x ∧ x.side = e.side ∧
           x.distance = e.distance
         let turnedOn := ∃ g : Face, s.warnings.incident.get g = false ∧ t.warnings.incident.get g = true
         let nearer := ∃ (g : Face) (d : Nat), nearestAhead g t.incidents.table = some d ∧
           ∀ u, (s.speed.faces.get g).nearestUsed = some u → d < u
         (entered ∨ approached → (s.reached p f).EvaluatedNow t) ∧
         (¬unlisted → ¬approached → ¬kept → turnedOn ∨ nearer → (s.reached p f).EvaluatedNow t) ∧
         (¬entered ∧ ¬approached ∧ ¬turnedOn ∧ ¬nearer ∨ kept →
           t.speed = s.speed ∧ t.ports = (s.reached p f).ports ∧ t.deferred = (s.reached p f).deferred ∧
             t.toll = (s.reached p f).toll)) ∧
        ((∃ x ∈ table, x.hasKey f.origin callId = true) →
          t.incidents.table = table.map fun x => if x.hasKey f.origin callId then e else x) ∧
        ((∀ x ∈ table, x.hasKey f.origin callId = false) → table.length < 8 → t.incidents.table = table ++ [e]) ∧
        ((∀ x ∈ table, x.hasKey f.origin callId = false) → 8 ≤ table.length →
          (table.map fun x => (x.origin, x.callId)).Nodup →
          ∀ (before after : List Incident) (v : Incident), table = before ++ v :: after →
            (∀ x ∈ before, x.distance < v.distance ∨ x.distance = v.distance ∧ v.touchedAt < x.touchedAt) →
            (∀ x ∈ after, x.distance < v.distance ∨ x.distance = v.distance ∧ v.touchedAt ≤ x.touchedAt) →
            (e.distance < v.distance → t.incidents.table = before ++ after ++ [e]) ∧
            (v.distance ≤ e.distance → t.incidents.table = table)) ∧
        ((table.map fun x => (x.origin, x.callId)).Nodup →
          (∀ g : Face, s.warnings.incident.get g = table.any fun x => x.side.isAhead g) →
          ∀ g : Face, t.warnings.incident.get g = t.incidents.table.any fun x => x.side.isAhead g))

/-- A CLEAR, taken from the line or given by CLEAR_INCIDENT, removes the entry of its key and puts the key in the
recently-cleared list with its timer at 60 s: in its place when it stands there, else at the end of a list that first
loses its oldest when it is full. For an own call it stops the refreshes of the current call of that id (R66, R104,
R109, R110). An entry of the incident table goes at 30 min of age, and the INCIDENT warnings follow (R108, R122); a
key leaves the recently-cleared list when its timer expires (R104).
It rests on the model's choices of assumptions 1, 8, 27, 31, 44. -/
def Obligations.IncidentsLeaveTheTable : Prop :=
  (
    let cleared (origin : Nat) (callId : Byte) (s t : State) : Prop :=
      t.incidents.table = (s.incidents.table.filter fun e => !e.hasKey origin callId) ∧
      (s.incidents.wasCleared origin callId = true →
        t.incidents.cleared = s.incidents.cleared.map fun k =>
          if k.origin = origin ∧ k.callId = callId then ⟨origin, callId, some (s.now + 60000)⟩ else k) ∧
      (s.incidents.wasCleared origin callId = false →
        t.incidents.cleared =
          (if s.incidents.cleared.length < 8 then s.incidents.cleared else s.incidents.cleared.drop 1) ++
            [⟨origin, callId, some (s.now + 60000)⟩]) ∧
      (∀ b : Fin 4,
        t.calls[b] =
          if origin = s.number ∧ s.calls[b].state ≠ .idle ∧ s.calls[b].callId = some callId then
            { s.calls[b] with incidentTimer := none }
          else s.calls[b])
    (∀ (p : Side) (bytes : List Byte) (f : Frame) (origin : Nat) (callId : Byte) (s : State), s.Arrives p bytes f →
      s.joined = true → f.TakenBy .clear true s.number → parseClear f.payload = some (origin, callId) →
      ∃ t, exec (.lineFrameArrives p bytes) s = .next t ∧ cleared origin callId s t ∧
        t = { s.reached p f with
              incidents := t.incidents, calls := t.calls, warnings := t.warnings, speed := t.speed, faces := t.faces,
              faults := t.faults, ports := t.ports, deferred := t.deferred, toll := t.toll }) ∧
    (∀ (args : List Word) (s : State), s.Accepts .clearIncident args.length →
      (parseClearIncident args = none →
        exec (.clearIncident args) s = .next { s with response := ⟨.badArgument, .clearIncident, .none⟩ }) ∧
      ∀ origin callId, parseClearIncident args = some (origin, callId) →
        let u := s.clearIncident origin callId
        ∃ t : State, exec (.clearIncident args) s = .next t ∧ cleared origin callId s t ∧
          t = { s with
                incidents := t.incidents, calls := t.calls, warnings := t.warnings, speed := t.speed,
                faces := t.faces, faults := t.faults, ports := t.ports, deferred := t.deferred, toll := t.toll,
                response := ⟨.ok, .clearIncident, .none⟩ } ∧
          u.Offered (some .plain) (s.broadcast63 .clear [byteOf origin, callId]) t ∧
          u = { s with
                incidents := t.incidents, calls := t.calls, warnings := t.warnings, speed := t.speed,
                faces := u.faces, ports := u.ports, deferred := u.deferred, toll := u.toll } ∧
          s.FacesFollow t ∧
          ((∀ g : Face, (t.speed.faces.get g).d = (s.speed.faces.get g).d) →
            u.ports = s.ports ∧ u.deferred = s.deferred ∧ u.toll = s.toll) ∧
          ((∀ e ∈ s.incidents.table, e.hasKey origin callId = false) →
            u.ports = s.ports ∧ u.deferred = s.deferred ∧ u.toll = s.toll))) ∧
  ((∀ (origin : Nat) (callId : Byte) (s : State) (e : Incident), s.resetHeld = false →
      (s.incidents.table.find? fun e => e.hasKey origin callId) = some e →
      ∃ t, exec (.incidentAgeOut origin callId) s = .next t ∧
        t = { s with
              now := max s.now (e.touchedAt + 1800000)
              incidents := ⟨s.incidents.table.filter fun x => !x.hasKey origin callId, s.incidents.cleared⟩
              warnings := t.warnings, speed := t.speed, faces := t.faces, faults := t.faults, ports := t.ports,
              deferred := t.deferred, toll := t.toll } ∧
        (∀ g : Face, t.warnings.incident.get g = t.incidents.table.any fun x => x.side.isAhead g) ∧
        s.FacesFollow t) ∧
    (∀ (origin : Nat) (callId : Byte) (s : State) (k : ClearedKey) (due : Nat), s.resetHeld = false →
      (s.incidents.cleared.find? fun k => k.origin == origin && k.callId == callId) = some k → k.timer = some due →
      exec (.clearanceTimerExpiry origin callId) s =
        .next { s with
          now := max s.now due
          incidents := { s.incidents with
            cleared := s.incidents.cleared.filter fun k => !(k.origin == origin && k.callId == callId) } }))

/-- An accepted SUBMIT_READING stores the value, brought into its range, under the next sequence of its kind, smooths
visibility, offers a READING of it or keeps it pending while the rate timer runs, evaluates the warnings that read its
kind, and makes one immediate evaluation of both faces, which sends a SPEED where D changes (R112 to R115, R118, R131, R133,
R135, R136).
It rests on the model's choices of assumptions 8, 31. -/
def Obligations.SubmittedReadingIsStoredAndJudged : Prop :=
  ∀ (args : List Word) (s : State), s.Accepts .submitReading args.length →
    (parseSubmitReading args = none →
      exec (.submitReading args) s = .next { s with response := ⟨.badArgument, .submitReading, .none⟩ }) ∧
    ∀ (k : ReadingKind) (given : Int), parseSubmitReading args = some (k, given) →
      let v := max (readingLow k) (min given (readingHigh k))
      let old := s.reading k
      let r : PendingReading := ⟨v, v != given, old.counter⟩
      let told := (s.sendTold (s.broadcast63 .reading (readingPayload k r))).1
      ∃ u t : State, exec (.submitReading args) s = .next t ∧
        u = { s with ports := u.ports, deferred := u.deferred, toll := u.toll } ∧
        (old.rateTimer = none → s.Offered none (s.broadcast63 .reading (readingPayload k r)) u) ∧
        (old.rateTimer.isSome = true → u = s) ∧ u.EvaluatedNow t ∧ s.FacesFollow t ∧
        t = { s with
              readings := t.readings, warnings := t.warnings, speed := t.speed, faces := t.faces,
              faults := t.faults, ports := t.ports, deferred := t.deferred, toll := t.toll
              response := ⟨if v = given then .ok else .okAdjusted, .submitReading, .none⟩ } ∧
        t.readings =
          { kinds := s.readings.kinds.set (readingCode k)
              { value := some v, clamped := v != given, counter := old.counter + 1,
                lastSequence := some old.counter, submittedAt := some s.now
                pending := if old.rateTimer.isSome ∨ told = false then some r else none
                rateTimer := if old.rateTimer.isSome then old.rateTimer else some (s.now + 10000) }
            vs := if k = .visibility then some (smooth s.readings.vs v) else s.readings.vs
            delivery := s.readings.delivery } ∧
        t.warnings =
          { (match k with
              | .visibility => s.warnings.fogBy t.readings.vs
              | .surfaceState | .surfaceTemp =>
                s.warnings.iceBy (icy (t.readingValue .surfaceState) (t.readingValue .surfaceTemp))
              | .gust => s.warnings.windBy v) with
            closeAdvised := t.warnings.closeAdvised }

/-- The smoothed visibility: the first value is taken as it is, one within 3 of the old is taken exactly, and any other moves
it by a quarter of the difference, truncated toward zero. It never passes the new value and stays within 0..2000 (R126). -/
def Obligations.SmoothedVisibilitySettles : Prop :=
  (∀ v : Int, smooth none v = v) ∧
  (∀ old v : Int, -3 ≤ v - old → v - old ≤ 3 → smooth (some old) v = v) ∧
  (∀ old v : Int, 3 < v - old → smooth (some old) v = old + (v - old) / 4) ∧
  (∀ old v : Int, v - old < -3 → smooth (some old) v = old - (old - v) / 4) ∧
  (∀ old v : Int, min old v ≤ smooth (some old) v ∧ smooth (some old) v ≤ max old v) ∧
  (∀ old v : Int, 0 ≤ old → old ≤ 2000 → 0 ≤ v → v ≤ 2000 →
    0 ≤ smooth (some old) v ∧ smooth (some old) v ≤ 2000) ∧
  (smooth none 400 = 400 ∧ smooth (some 400) 100 = 325 ∧ smooth (some 325) 100 = 269 ∧ smooth (some 269) 100 = 227 ∧
    smooth (some 227) 100 = 196 ∧ smooth (some 196) 100 = 172 ∧ smooth (some 172) 100 = 154 ∧
    smooth (some 154) 100 = 141) ∧
  (∀ (args : List Word) (given : Int) (s : State), s.Accepts .submitReading args.length →
    parseSubmitReading args = some (.visibility, given) →
    ∃ t, exec (.submitReading args) s = .next t ∧
      t.readings.vs = some (smooth s.readings.vs (max 0 (min given 2000)))) ∧
  (∀ (s : State) (at' : Nat), s.resetHeld = false → (s.reading .visibility).submittedAt = some at' →
    ∃ t, exec (.readingAgeOut .visibility) s = .next t ∧ t.readings.vs = none) ∧
  ∀ s : State, s.Accepts .restart 0 → ∃ t, exec (.restart []) s = .next t ∧ t.readings.vs = none

/-- The warnings keep their states through their bands: FOG turns on below 150 m and off from 250 m or with no value (R119);
ICE on at the second qualifying submission in a row and off at the third that does not qualify (R120); WIND on from 80
and off at the third submission below 60 in a row (R121). -/
def Obligations.WarningsHaveHysteresis : Prop :=
  (∀ (w : Warnings) (vs : Option Int),
    w.fogBy vs = { w with fog := (w.fogBy vs).fog } ∧
    (vs = none → (w.fogBy vs).fog = false) ∧
    ∀ v, vs = some v →
      (v < 150 → (w.fogBy vs).fog = true) ∧ (150 ≤ v → v < 250 → (w.fogBy vs).fog = w.fog) ∧
        (250 ≤ v → (w.fogBy vs).fog = false)) ∧
  (∀ (surface temp : Option Int),
    icy surface temp = true ↔
      surface = some 4 ∨ ∃ x y, surface = some x ∧ 1 ≤ x ∧ x ≤ 3 ∧ temp = some y ∧ y ≤ 0) ∧
  (∀ w : Warnings, w.icyRun ≤ 2 → w.thawRun ≤ 3 →
    (w.iceBy true).thawRun = 0 ∧ (w.iceBy true).icyRun = min 2 (w.icyRun + 1) ∧
      ((w.iceBy true).ice = true ↔ w.ice = true ∨ 1 ≤ w.icyRun) ∧
      (w.iceBy false).icyRun = 0 ∧ (w.iceBy false).thawRun = min 3 (w.thawRun + 1) ∧
      ((w.iceBy false).ice = true ↔ w.ice = true ∧ w.thawRun < 2)) ∧
  (∀ (w : Warnings) (gust : Int), w.calmCount ≤ 3 →
    (80 ≤ gust → w.windBy gust = { w with wind := true, calmCount := 0 }) ∧
    (60 ≤ gust → gust < 80 → w.windBy gust = { w with calmCount := 0 }) ∧
    (gust < 60 → w.windBy gust =
      { w with calmCount := min 3 (w.calmCount + 1), wind := w.wind && decide (w.calmCount < 2) }))

/-- A reading that reaches 15 min of age becomes absent with its pending broadcast, READINGS_STALE latches, and the
warnings that read it fall (R113, R119 to R121). When its rate timer expires a pending reading is broadcast and the
timer restarts at 10 s; with none pending the timer stops (R115). A collector puts every taken READING at the tail of
its delivery queue, which first loses its oldest when it holds 32, and FETCH_READING takes the head, or answers EMPTY
(R116).
It rests on the model's choices of assumptions 1, 4, 31. -/
def Obligations.ReadingsAgeRepeatAndAreFetched : Prop :=
  ((∀ (k : ReadingKind) (s : State) (at' : Nat), s.resetHeld = false → (s.reading k).submittedAt = some at' →
      ∃ t, exec (.readingAgeOut k) s = .next t ∧
        t = { s with
              now := max s.now (at' + 900000)
              readings :=
                { kinds := s.readings.kinds.set (readingCode k)
                    { s.reading k with
                      value := none, clamped := false, lastSequence := none, submittedAt := none, pending := none }
                  vs := if k = .visibility then none else s.readings.vs
                  delivery := s.readings.delivery }
              warnings := t.warnings, faces := t.faces, faults := t.faults } ∧
        t.faults[4] = { latched := true, count := min 255 (s.faults[4].count + 1) } ∧
        (k = .visibility → t.warnings = { s.warnings with fog := false }) ∧
        (k = .gust → t.warnings = { s.warnings with wind := false, calmCount := 0 }) ∧
        (k = .surfaceState ∨ k = .surfaceTemp →
          t.warnings =
            if t.readingValue .surfaceState = none ∧ t.readingValue .surfaceTemp = none then
              { s.warnings with ice := false, icyRun := 0, thawRun := 0 }
            else s.warnings) ∧
        s.FacesFollow t) ∧
    (∀ (k : ReadingKind) (s : State) (due : Nat), s.resetHeld = false → (s.reading k).rateTimer = some due →
      let now' := max s.now due
      let after (x : Reading) : Readings := { s.readings with kinds := s.readings.kinds.set (readingCode k) x }
      ((s.reading k).pending = none →
        exec (.rateTimerExpiry k) s =
          .next { s with now := now', readings := after { s.reading k with rateTimer := none } }) ∧
      ∀ r, (s.reading k).pending = some r →
        let f := s.broadcast63 .reading (readingPayload k r)
        ∃ t, exec (.rateTimerExpiry k) s = .next t ∧ s.Offered none f t ∧
          t = { s with
                now := now'
                readings := after
                  { s.reading k with
                    pending := if (s.sendTold f).1 then none else some r, rateTimer := some (now' + 10000) }
                ports := t.ports, deferred := t.deferred, toll := t.toll })) ∧
  ((∀ (p : Side) (bytes : List Byte) (f : Frame) (k : ReadingKind) (r : PendingReading) (s : State),
      s.Arrives p bytes f → s.joined = true → f.TakenBy .reading true s.number → parseReading f.payload = some (k, r) →
      (s.config.collector = true →
        exec (.lineFrameArrives p bytes) s =
          .next { s.reached p f with
            readings := { s.readings with
              delivery :=
                (if s.readings.delivery.length < 32 then s.readings.delivery else s.readings.delivery.drop 1) ++
                  [⟨f.origin, k, r.value, r.clamped, r.sequence⟩] } }) ∧
      (s.config.collector = false → exec (.lineFrameArrives p bytes) s = .next (s.reached p f))) ∧
    (∀ s : State, s.Accepts .fetchReading 0 →
      (s.readings.delivery = [] →
        exec (.fetchReading []) s = .next { s with response := ⟨.empty, .fetchReading, .none⟩ }) ∧
      ∀ e es, s.readings.delivery = e :: es →
        exec (.fetchReading []) s =
          .next { s with
            readings := { s.readings with delivery := es }
            response := ⟨.ok, .fetchReading, .fetchedReading e es.length⟩ }))

/-! ### Advisory speed (chapter 7) -/

/-- What an evaluation finds: the four caps of R127 and R128, the least of them and Vmax as a_raw, a_q as the largest
multiple of 10 not above it, a as a_q brought between Vmin and Vmax (R129), and the target limited by the held advert (R130). With limits in force and an
advert of R136 the target is a multiple of 10 from 40 to Vmax. -/
def Obligations.EvaluationComputesTheCascade : Prop :=
  ∀ (g : Face) (s : State),
    let e := s.evaluation g
    let vmax : Int := s.config.vmax
    let vmin : Int := s.config.vmin
    (s.readings.vs = none → e.capVis = vmax) ∧ (∀ v, s.readings.vs = some v → e.capVis = 20 + v / 4) ∧
    (s.readingValue .surfaceState = none ∨ s.readingValue .surfaceState = some 0 → e.capGrip = vmax) ∧
    (s.readingValue .surfaceState = some 1 → e.capGrip = vmax * 95 / 100) ∧
    (s.readingValue .surfaceState = some 2 → e.capGrip = vmax * 85 / 100) ∧
    (s.readingValue .surfaceState = some 3 → e.capGrip = vmax * 65 / 100) ∧
    (s.readingValue .surfaceState = some 4 → e.capGrip = vmax * 45 / 100) ∧
    (s.readingValue .gust = none → e.capWind = vmax) ∧
    (∀ v, s.readingValue .gust = some v → e.capWind = vmax - max 0 (v - 60)) ∧
    ((∀ x ∈ s.incidents.table, x.side.isAhead g = false) → e.capInc = vmax) ∧
    (∀ x ∈ s.incidents.table, x.side.isAhead g = true →
      (∀ y ∈ s.incidents.table, y.side.isAhead g = true → x.distance ≤ y.distance) →
      e.capInc = 40 + 20 * (x.distance : Int)) ∧
    (e.aRaw ≤ vmax ∧ e.aRaw ≤ e.capVis ∧ e.aRaw ≤ e.capGrip ∧ e.aRaw ≤ e.capWind ∧ e.aRaw ≤ e.capInc ∧
      (e.aRaw = vmax ∨ e.aRaw = e.capVis ∨ e.aRaw = e.capGrip ∨ e.aRaw = e.capWind ∨ e.aRaw = e.capInc)) ∧
    (e.aQ % 10 = 0 ∧ e.aQ ≤ e.aRaw ∧ e.aRaw < e.aQ + 10) ∧
    (e.a = if vmax < max vmin e.aQ then vmax else max vmin e.aQ) ∧
    (s.config.valid = true →
      vmin ≤ e.a ∧ e.a ≤ vmax ∧ e.a % 10 = 0 ∧ (vmin ≤ e.aRaw → e.a ≤ e.aRaw ∧ e.aRaw < e.a + 10) ∧
        (e.aRaw < vmin → e.a = vmin)) ∧
    ((s.speed.faces.get g).advert = none → e.t = e.a) ∧
    (∀ h, (s.speed.faces.get g).advert = some h → e.t = min e.a (h.n + 20)) ∧
    (s.config.valid = true → (∀ h ∈ (s.speed.faces.get g).advert, IsAdvert h.n) →
      40 ≤ e.t ∧ e.t ≤ vmax ∧ e.t % 10 = 0)

/-- Each expiry of the evaluation timer evaluates both faces with the values that stand: D follows a lower target at once and
a higher one only at the third expiry in a row that finds one, by at most 20; CLOSE_ADVISED stands exactly where a_raw is
below Vmin; a change of D sends a SPEED built from the new values, which restarts the advert timer, and without one no frame is
offered; a face whose CLOSE_ADVISED changes is selected; the evaluation timer restarts at 10 s (R129, R131, R132, R135 to
R137).
It rests on the model's choices of assumptions 1, 4, 11, 31. -/
def Obligations.EvaluationTimerMovesTheSpeed : Prop :=
  ∀ (s : State) (due : Nat), s.resetHeld = false → s.speed.evaluationTimer = some due →
    let now' := max s.now due
    ∃ t, exec .evaluationTimerExpiry s = .next t ∧
      t = { s with
            now := now', speed := t.speed, warnings := { s.warnings with closeAdvised := t.warnings.closeAdvised }
            faces := t.faces, faults := t.faults, ports := t.ports, deferred := t.deferred, toll := t.toll } ∧
      t.speed.evaluationTimer = some (now' + 10000) ∧
      s.SpeedSent t ∧ s.FacesFollow t ∧
      ∀ g : Face,
        let x := s.speed.faces.get g
        let y := t.speed.faces.get g
        let e := s.evaluation g
        y.last = some e ∧ y.advert = x.advert ∧ y.nearestUsed = nearestAhead g s.incidents.table ∧
        (e.t < x.d → y.d = e.t ∧ y.raiseCount = 0) ∧
        (e.t = x.d → y.d = x.d ∧ y.raiseCount = 0) ∧
        (x.d < e.t → x.raiseCount < 2 → y.d = x.d ∧ y.raiseCount = x.raiseCount + 1) ∧
        (x.d < e.t → 2 ≤ x.raiseCount → y.d = min e.t (x.d + 20) ∧ y.raiseCount = 0) ∧
        (t.warnings.closeAdvised.get g = true ↔ e.aRaw < (s.config.vmin : Int))

/-- Every 5 s a SPEED is built: the advert of a lit face is its D, that of an unlit one the lesser of D and the advert held
for it (R136, R137). A SPEED of the adjacent station sets the advert held for the face on its side (R138), and an advert not
renewed for 15 s is forgotten (R139).
It rests on the model's choices of assumptions 1, 4. -/
def Obligations.AdvertsAreSentHeldAndForgotten : Prop :=
  (∀ (s : State) (due : Nat), s.resetHeld = false → s.speed.advertTimer = some due →
    let advert (g : Face) : Int :=
      if s.lit g then (s.speed.faces.get g).d
      else match (s.speed.faces.get g).advert with
        | none => (s.speed.faces.get g).d
        | some h => min (s.speed.faces.get g).d h.n
    ∃ t, exec .advertTimerExpiry s = .next t ∧
      t = { s with
            now := max s.now due
            speed := { s.speed with advertTimer := some (max s.now due + 5000) }
            ports := t.ports, deferred := t.deferred, toll := t.toll } ∧
      s.Offered none
        (s.newFrame .speed 0 1
          [BitVec.ofInt 8 (advert .east), BitVec.ofInt 8 (advert .west),
            byteOf ((if s.lit .east then 1 else 0) + (if s.lit .west then 2 else 0))]) t) ∧
  (∀ (g : Face) (s : State) (h : HeldAdvert), s.resetHeld = false → (s.speed.faces.get g).advert = some h →
    exec (.heldAdvertAgeOut g) s =
      .next { s with
        now := max s.now (h.setAt + 15000)
        speed := { s.speed with faces := s.speed.faces.set g { s.speed.faces.get g with advert := none } } }) ∧
  (∀ (p : Side) (bytes : List Byte) (f : Frame) (x : SpeedFields) (s : State), s.Arrives p bytes f →
    s.joined = true → f.TakenBy .speed true s.number → parseSpeed f.payload = some x →
    let n := match p with | .east => x.e | .west => x.w
    (0 < f.hops → exec (.lineFrameArrives p bytes) s = .next (s.reached p f)) ∧
    (f.hops = 0 → (s.speed.faces.get p).d ≤ n + 20 →
      exec (.lineFrameArrives p bytes) s =
        .next { s.reached p f with
          speed := { s.speed with
            faces := s.speed.faces.set p
              { s.speed.faces.get p with advert := some ⟨n, f.origin, x.litE, x.litW, s.now⟩ } } }) ∧
    (f.hops = 0 → n + 20 < (s.speed.faces.get p).d →
      ∃ t, exec (.lineFrameArrives p bytes) s = .next t ∧
        t = { s.reached p f with
              speed := t.speed, warnings := { s.warnings with closeAdvised := t.warnings.closeAdvised }
              faces := t.faces, faults := t.faults, ports := t.ports, deferred := t.deferred, toll := t.toll } ∧
        ({ s.reached p f with
           speed := { s.speed with
             faces := s.speed.faces.set p
               { s.speed.faces.get p with
                 advert := some ⟨n, f.origin, x.litE, x.litW, s.now⟩ } } } : State).EvaluatedNow t ∧
        s.FacesFollow t ∧
        (t.speed.faces.get p).advert = some ⟨n, f.origin, x.litE, x.litW, s.now⟩ ∧
        (t.speed.faces.get p).d ≤ n + 20 ∧ (t.speed.faces.get p).raiseCount = 0 ∧
        (t.speed.faces.get p.other).advert = (s.speed.faces.get p.other).advert))

/-! ### Sign pages and faces (chapter 8) -/

/-- A selection event of a selecting face: the candidates are its pages, bound ones with their warning, and the built-in items
of warnings that no page replaces (R151), pages by ascending number and then built-in items in the table's order; the
rotation is the first three of the top priority in that order (R152); and the shown item follows the first case of R153 that
applies. A face that is not selecting stays as it is. A change of a face's warning set is one selection event of it, and of no
face whose set stays (R118, R150).
It rests on the model's choices of assumption 11. -/
def Obligations.SelectionFollowsTheCandidates : Prop :=
  (∀ (g : Face) (s : State), s.selecting g = false → s.select g = s) ∧
  (∀ (g : Face) (s : State) (n : Fin 32),
    .page n ∈ s.candidates g ↔
      ∃ p, s.pageAt n = some p ∧ p.onFace g = true ∧ ∀ w, p.bound = some w → s.warnings.isOn g w = true) ∧
  (∀ (g : Face) (s : State) (w : Warning),
    .builtIn w ∈ s.candidates g ↔
      s.warnings.isOn g w = true ∧ ∀ n p, s.pageAt n = some p → p.bound = some w → p.onFace g = false) ∧
  (let place (i : Item) : Nat :=
     match i with
     | .page n => n.val
     | .builtIn .incident => 32
     | .builtIn .closeAdvised => 33
     | .builtIn .ice => 34
     | .builtIn .fog => 35
     | .builtIn .wind => 36
   ∀ (g : Face) (s : State), (s.candidates g).Pairwise fun a b => place a < place b) ∧
  (∀ w : Warning,
    builtInPriority w = match w with | .incident => 6 | .closeAdvised => 6 | .ice => 5 | .fog => 4 | .wind => 4) ∧
  (∀ (w : Warnings) (s : State),
    s.setWarnings w = { s with warnings := w, faces := (s.setWarnings w).faces } ∧
    ∀ g : Face,
      ((∀ x, s.warnings.isOn g x = w.isOn g x) → (s.setWarnings w).faces.get g = s.faces.get g) ∧
      ((∃ x, s.warnings.isOn g x ≠ w.isOn g x) →
        (s.setWarnings w).faces.get g = (({ s with warnings := w } : State).select g).faces.get g)) ∧
  (∀ (g : Face) (s : State), s.selecting g = true →
    let items := s.candidates g
    let x := (s.faces.get g).selector
    let y := ((s.select g).faces.get g).selector
    let shows (i : Item) : Prop :=
      y.shown = some i ∧ y.dwellTimer = some (s.now + 3000) ∧ y.flashOn = true ∧
        y.flashTimer =
          if s.itemFlash i = .none then none
          else some (s.now + if 4 ≤ s.itemPriority i then 500 else 1000)
    s.select g = { s with faces := s.faces.set g { s.faces.get g with selector := y } } ∧
    (items = [] → y.top = none ∧ y.rotation = [] ∧ y.shown = none ∧ y.dwellTimer = none) ∧
    (∀ top, (∃ i ∈ items, s.itemPriority i = top) → (∀ i ∈ items, s.itemPriority i ≤ top) →
      y.top = some top ∧ y.rotation = (items.filter fun i => s.itemPriority i == top).take 3 ∧
      ∀ first, y.rotation.head? = some first →
        (x.shown = none → shows first) ∧
        ∀ i, x.shown = some i →
          (i ∉ items → shows first) ∧
          (i ∈ items → s.itemPriority i < top → shows first) ∧
          (i ∈ items → top ≤ s.itemPriority i → x.dwellTimer.isSome = true →
            y.shown = some i ∧ y.dwellTimer = x.dwellTimer) ∧
          (i ∈ items → top ≤ s.itemPriority i → x.dwellTimer = none → i ∉ y.rotation → shows first) ∧
          (i ∈ items → top ≤ s.itemPriority i → x.dwellTimer = none →
            ∀ before after, y.rotation = before ++ i :: after → i ∉ before →
              (∀ j, (after ++ before).head? = some j → j ≠ i → shows j) ∧
              (after ++ before = [] → y.shown = some i ∧ y.dwellTimer = none))))

/-- A page, a withdrawal and a PAGE frame are judged against their slot's version mark: a newer version advances the mark,
and within the scope it becomes the slot's content with its validity from now, or empties it, which is a selection event of
both faces (R145, R149, R150). PUBLISH_PAGE and WITHDRAW_PAGE take the next version when none is given, and offer their PAGE
frame whatever the local store did with it (R147, R148). Published values above their ranges are brought into them, lines are
cut to 18 characters and characters outside the sign set made spaces, each of which is answered OK_ADJUSTED (R146).
It rests on the model's choices of assumptions 7, 8, 11, 16, 31, 46. -/
def Obligations.PagesAreJudgedStoredAndSent : Prop :=
  let judged (n : Fin 32) (v : Byte) (scope : Scope) (content : Option StoredPage) (s : State) : Vector Slot 32 :=
    if s.pages[n].mark.all fun m => newer v m then
      s.pages.set n
        ⟨if s.number &&& scope.mask = scope.matchBits &&& scope.mask then content else s.pages[n].content, some v⟩
    else s.pages
  let outcome (n : Fin 32) (v : Byte) (scope : Scope) (s : State) : PublishOutcome :=
    if s.pages[n].mark.all fun m => newer v m then
      if s.number &&& scope.mask = scope.matchBits &&& scope.mask then .stored else .outsideScope
    else .notNewer
  let selects (n : Fin 32) (v : Byte) (scope : Scope) (content : Option StoredPage) (s : State) : Bool :=
    outcome n v scope s == .stored && (s.pages[n].content.isSome || content.isSome)
  let stored (page : Page) (publisher : Nat) (s : State) : StoredPage :=
    ⟨page, publisher, page.validity, page.validity.map fun _ => s.now + 60000⟩
  (∀ (args : List Word) (s : State), s.Accepts .publishPage args.length →
    (parsePublish args = none →
      exec (.publishPage args) s = .next { s with response := ⟨.badArgument, .publishPage, .none⟩ }) ∧
    ∀ a, parsePublish args = some a →
      let v := a.version.getD (match s.pages[a.number].mark with | none => 0 | some m => m + 1)
      let inSet (c : Byte) : Prop := 32 ≤ c.toNat ∧ c.toNat ≤ 95
      let line (l : List Byte) : List Byte :=
        (l.take 18).map fun c => if 32 ≤ c.toNat ∧ c.toNat ≤ 95 then c else 32
      let page : Page :=
        { number := a.number, version := v, priority := min a.priority 7, faceE := a.faceE, faceW := a.faceW
          line1 := line a.line1, line2 := line a.line2, line3 := line a.line3, pictogram := a.pictogram
          flash := a.flash, validity := if a.validity = 0 then none else some (min a.validity 1440)
          bound := a.bound, scope := a.scope }
      ∃ t, exec (.publishPage args) s = .next t ∧
        t = { s with
              pages := judged a.number v a.scope (some (stored page s.number s)) s
              faces := t.faces, faults := t.faults, ports := t.ports, deferred := t.deferred, toll := t.toll
              response :=
                ⟨t.response.code, .publishPage, .published v (outcome a.number v a.scope s)⟩ } ∧
        (7 < a.priority ∨ 1440 < a.validity ∨
            (∃ l ∈ [a.line1, a.line2, a.line3], 18 < l.length ∨ ∃ c ∈ l, ¬inSet c) →
          t.response.code = .okAdjusted) ∧
        (a.priority ≤ 7 → a.validity ≤ 1440 →
            (∀ l ∈ [a.line1, a.line2, a.line3], l.length ≤ 18 ∧ ∀ c ∈ l, inSet c) →
          t.response.code = .ok ∧ page.line1 = a.line1 ∧ page.line2 = a.line2 ∧ page.line3 = a.line3) ∧
        s.FacesFollowPages (selects a.number v a.scope (some (stored page s.number s)) s) t ∧
        s.Offered (some .plain) (s.newFrame .page 0 a.scope.hopLimit page.payload) t) ∧
  (∀ (args : List Word) (s : State), s.Accepts .withdrawPage args.length →
    (parseWithdraw args = none →
      exec (.withdrawPage args) s = .next { s with response := ⟨.badArgument, .withdrawPage, .none⟩ }) ∧
    ∀ n scope, parseWithdraw args = some (n, scope) →
      let v : Byte := match s.pages[n].mark with | none => 0 | some m => m + 1
      ∃ t, exec (.withdrawPage args) s = .next t ∧
        t = { s with
              pages := judged n v scope none s
              faces := t.faces, faults := t.faults, ports := t.ports, deferred := t.deferred, toll := t.toll
              response := ⟨.ok, .withdrawPage, .withdrawn v⟩ } ∧
        s.FacesFollowPages (selects n v scope none s) t ∧
        s.Offered (some .plain)
          (s.newFrame .page 0 scope.hopLimit
            [byteOf n.val, v, 0, 0, 0, 0, 0, 0, 0, byteOf scope.matchBits, byteOf scope.mask,
              byteOf scope.hopLimit, 0, 0, 0]) t) ∧
  (∀ (p : Side) (bytes : List Byte) (f : Frame) (s : State), s.Arrives p bytes f → s.joined = true →
    f.TakenBy .page true s.number →
    (∀ page, parsePage f.payload = some (.publish page) →
      ∃ t, exec (.lineFrameArrives p bytes) s = .next t ∧
        t = { s.reached p f with
              pages := judged page.number page.version page.scope (some (stored page f.origin s)) s
              faces := t.faces, faults := t.faults } ∧
        s.FacesFollowPages (selects page.number page.version page.scope (some (stored page f.origin s)) s) t) ∧
    ∀ n v scope, parsePage f.payload = some (.withdraw n v scope) →
      ∃ t, exec (.lineFrameArrives p bytes) s = .next t ∧
        t = { s.reached p f with
              pages := judged n v scope none s, faces := t.faces, faults := t.faults } ∧
        s.FacesFollowPages (selects n v scope none s) t)

/-- The timers of pages and faces. A page's validity falls by a minute at each expiry, and at 0 the slot is emptied with its
mark kept, which is a selection event of both faces (R149, R150). When a dwell ends the next item of the rotation is shown for 3 s, or the face settles on the only one
(R154). When a flash phase ends the other begins, as long as the shown item's priority gives (R155).
It rests on the model's choices of assumptions 1, 4, 31. -/
def Obligations.SignTimersRunOut : Prop :=
  (∀ (n : Fin 32) (s : State) (c : StoredPage) (due left : Nat), s.resetHeld = false →
    s.pages[n].content = some c → c.minuteTimer = some due → c.remaining = some left →
    (2 ≤ left →
      ∃ t, exec (.pageMinuteTimerExpiry n) s = .next t ∧
        t = { s with
              now := max s.now due
              pages := s.pages.set n
                ⟨some { c with remaining := some (left - 1), minuteTimer := some (max s.now due + 60000) },
                  s.pages[n].mark⟩ }) ∧
    (left ≤ 1 →
      ∃ t, exec (.pageMinuteTimerExpiry n) s = .next t ∧
        t = { s with
              now := max s.now due, pages := s.pages.set n ⟨none, s.pages[n].mark⟩, faces := t.faces,
              faults := t.faults } ∧
        s.FacesFollowPages true t ∧
        ∀ g : Face, s.selecting g = true → (s.faces.get g).selector.shown = some (.page n) →
          (t.faces.get g).selector.shown ≠ some (.page n))) ∧
  (∀ (g : Face) (s : State) (due : Nat) (i : Item), s.resetHeld = false →
    (s.faces.get g).selector.dwellTimer = some due → (s.faces.get g).selector.shown = some i →
    let x := (s.faces.get g).selector
    let now' := max s.now due
    (∀ j, nextItem x.rotation i = some j → j ≠ i →
      ∃ t, exec (.dwellTimerExpiry g) s = .next t ∧
        t = { s with now := now', faces := t.faces, faults := t.faults } ∧
        (t.faces.get g.other).selector = (s.faces.get g.other).selector ∧
        (t.faces.get g).selector =
          { x with
            shown := some j, dwellTimer := some (now' + 3000), flashOn := true
            flashTimer :=
              if s.itemFlash j = .none then none
              else some (now' + if 4 ≤ s.itemPriority j then 500 else 1000) }) ∧
    (x.rotation = [i] →
      exec (.dwellTimerExpiry g) s =
        .next { s with
          now := now'
          faces := s.faces.set g { s.faces.get g with selector := { x with dwellTimer := none } } })) ∧
  (∀ (g : Face) (s : State) (due : Nat) (i : Item), s.resetHeld = false →
    (s.faces.get g).selector.flashTimer = some due → (s.faces.get g).selector.shown = some i →
    ∃ t, exec (.flashTimerExpiry g) s = .next t ∧
      t = { s with now := max s.now due, faces := t.faces, faults := t.faults } ∧
      t.faces.get g.other = s.faces.get g.other ∧
      (t.faces.get g).selector =
        { (s.faces.get g).selector with
          flashOn := !(s.faces.get g).selector.flashOn
          flashTimer := some (max s.now due + if 4 ≤ s.itemPriority i then 500 else 1000) } ∧
      (s.selecting g = true →
        (t.faces.get g).sequence = (s.faces.get g).sequence + 1 ∧
          (t.faces.get g).refreshTimer = some (max s.now due + 200)))

/-- An image takes the face's next sequence, joins the awaited list with a window of 150 ms and restarts the refresh
timer at 200 ms; a fifth awaited image first counts the oldest as missing (R158, R159). A window that ends counts its
image as missing, and the third missing image puts the face in its faulted state and latches its fault (R160). A good
answer that names an awaited image takes it and every older one from the list; OK ends the faulted state, DARK sets
it and latches the fault; any other answer is ignored. An event sends a selecting face one image when it changes what
that holds. SET_FACE_DARK: an unknown face or setting and an unfitted face are refused; the present setting changes
nothing; going dark stops selection, sends one blank image and gives up the awaited ones; going lit starts selection
on an empty selector and sends an image at once (R157).
It rests on the model's choices of assumptions 1, 4, 8, 25, 30, 31. -/
def Obligations.ImagesAwaitTheirAnswers : Prop :=
  (
    let fault (g : Face) : Fin 5 := match g with | .east => 2 | .west => 3
    let latched (g : Face) (s : State) : Vector FaultLatch 5 :=
      s.faults.set (fault g) { latched := true, count := min 255 (s.faults[fault g].count + 1) }
    (∀ (g : Face) (s : State) (due : Nat), s.resetHeld = false → (s.faces.get g).refreshTimer = some due →
      let u := s.faces.get g
      let now' := max s.now due
      let sent (v : FaceUnit) (rest : List Awaited) : FaceUnit :=
        { v with
          image := some (s.imageNow g), sequence := u.sequence + 1
          awaited := rest ++ [⟨u.sequence, some (now' + 150)⟩], refreshTimer := some (now' + 200) }
      (u.awaited.length < 4 →
        exec (.imageRefreshTimerExpiry g) s =
          .next { s with now := now', faces := s.faces.set g (sent u u.awaited) }) ∧
      (4 ≤ u.awaited.length → u.missing < 2 →
        exec (.imageRefreshTimerExpiry g) s =
          .next { s with
            now := now', faces := s.faces.set g (sent { u with missing := u.missing + 1 } (u.awaited.drop 1)) }) ∧
      (4 ≤ u.awaited.length → 2 ≤ u.missing →
        exec (.imageRefreshTimerExpiry g) s =
          .next { s with
            now := now', faults := latched g s
            faces := s.faces.set g (sent { u with missing := 0, faulted := true } (u.awaited.drop 1)) })) ∧
    (∀ (g : Face) (sequence : Byte) (s : State) (a : Awaited) (due : Nat), s.resetHeld = false →
      ((s.faces.get g).awaited.find? fun a => a.sequence == sequence) = some a → a.window = some due →
      let u := { s.faces.get g with awaited := (s.faces.get g).awaited.filter fun a => a.sequence != sequence }
      ((s.faces.get g).missing < 2 →
        exec (.answerWindowExpiry g sequence) s =
          .next { s with now := max s.now due, faces := s.faces.set g { u with missing := u.missing + 1 } }) ∧
      (2 ≤ (s.faces.get g).missing →
        exec (.answerWindowExpiry g sequence) s =
          .next { s with
            now := max s.now due, faults := latched g s
            faces := s.faces.set g { u with missing := 0, faulted := true } })) ∧
    (∀ (g : Face) (r : SignRecord) (s : State), s.resetHeld = false →
      (r.checkGood = false ∨ r.reply = .pixelFault 0 ∨ (∀ a ∈ (s.faces.get g).awaited, a.sequence ≠ r.sequence) →
        exec (.signAnswer g r) s = .next s) ∧
      (∀ (before after : List Awaited) (a : Awaited), r.checkGood = true →
        (s.faces.get g).awaited = before ++ a :: after → a.sequence = r.sequence →
        (∀ x ∈ before, x.sequence ≠ r.sequence) →
        let u := { s.faces.get g with awaited := after, missing := 0, lastAnswer := some r.reply }
        (r.reply = .ok →
          exec (.signAnswer g r) s = .next { s with faces := s.faces.set g { u with faulted := false } }) ∧
        (∀ n, r.reply = .pixelFault n → 1 ≤ n → n ≤ 65535 →
          exec (.signAnswer g r) s = .next { s with faces := s.faces.set g u }) ∧
        (r.reply = .dark →
          exec (.signAnswer g r) s =
            .next { s with faces := s.faces.set g { u with faulted := true }, faults := latched g s }))) ∧
    (∀ (act : State → State) (s : State) (g : Face),
      let u := act s
      let t := s.withImages act
      t = { u with faces := t.faces, faults := t.faults } ∧
      (s.selecting g = false ∨ u.selecting g = false ∨ u.imageKey g = s.imageKey g → t.faces.get g = u.faces.get g) ∧
      (s.selecting g = true → u.selecting g = true → u.imageKey g ≠ s.imageKey g →
        (t.faces.get g).sequence = (u.faces.get g).sequence + 1 ∧ (t.faces.get g).image = some (u.imageNow g) ∧
          (t.faces.get g).refreshTimer = some (u.now + 200))) ∧
    (∀ (g : Face) (s : State),
      (s.imageNow g).sequence = (s.faces.get g).sequence ∧
      (s.imageNow g).roundel =
        (if (s.speed.faces.get g).d = (s.config.vmax : Int) then none else some (s.speed.faces.get g).d) ∧
      (s.imageNow g).phaseOn = (s.faces.get g).selector.flashOn ∧
      ((s.faces.get g).selector.shown = none →
        (s.imageNow g).line1 = [] ∧ (s.imageNow g).line2 = [] ∧ (s.imageNow g).line3 = [] ∧
          (s.imageNow g).pictogram = 0 ∧ (s.imageNow g).flashed = .none) ∧
      (∀ w, (s.faces.get g).selector.shown = some (.builtIn w) →
        (s.imageNow g).line1 = [] ∧ (s.imageNow g).pictogram = builtInPictogram w ∧
          (s.imageNow g).flashed = .picto) ∧
      ∀ n p, (s.faces.get g).selector.shown = some (.page n) → s.pageAt n = some p →
        (s.imageNow g).line1 = p.line1 ∧ (s.imageNow g).line2 = p.line2 ∧ (s.imageNow g).line3 = p.line3 ∧
          (s.imageNow g).pictogram = p.pictogram ∧ (s.imageNow g).flashed = p.flash)) ∧
  (∀ (args : List Word) (s : State), s.Accepts .setFaceDark args.length →
      (parseSetDark args = none →
        exec (.setFaceDark args) s = .next { s with response := ⟨.badArgument, .setFaceDark, .none⟩ }) ∧
      ∀ g dark, parseSetDark args = some (g, dark) →
        let u := s.faces.get g
        (s.config.fitted g = false →
          exec (.setFaceDark args) s = .next { s with response := ⟨.badArgument, .setFaceDark, .none⟩ }) ∧
        (s.config.fitted g = true → u.dark = dark →
          exec (.setFaceDark args) s = .next { s with response := ⟨.ok, .setFaceDark, .none⟩ }) ∧
        (s.config.fitted g = true → u.dark = false → dark = true →
          exec (.setFaceDark args) s =
            .next { s with
              faces := s.faces.set g
                { u with
                  dark := true, selector := emptySelector, sequence := u.sequence + 1, awaited := [], missing := 0
                  refreshTimer := none
                  image := some ⟨u.sequence, none, [], [], [], 0, .none, true⟩ }
              response := ⟨.ok, .setFaceDark, .none⟩ }) ∧
        (s.config.fitted g = true → u.dark = true → dark = false →
          ∃ t, exec (.setFaceDark args) s = .next t ∧
            t = { s with faces := t.faces, faults := t.faults, response := ⟨.ok, .setFaceDark, .none⟩ } ∧
            t.faces.get g.other = s.faces.get g.other ∧
            (t.faces.get g).dark = false ∧ (t.faces.get g).sequence = u.sequence + 1 ∧
            (t.faces.get g).refreshTimer = some (s.now + 200) ∧ (t.faces.get g).lastAnswer = u.lastAnswer ∧
            (t.faces.get g).selector.rotation = s.rotationOf (s.candidates g) ∧
            (t.faces.get g).selector.shown = (s.rotationOf (s.candidates g)).head? ∧
            (t.faces.get g).image = some (({ t with
              faces := t.faces.set g { t.faces.get g with sequence := u.sequence } } : State).imageNow g)))

/-! ### Toll records (chapter 9) -/

/-- An accepted toll record takes the next sequence, is counted in its lane and class (R166, R185), and enters the toll store
as a QUEUED record: with no sink it stays there; toward a chosen sink sending is tried, so that the oldest QUEUED entries go
out while fewer than 8 are SENT and the BL has room, or an IDLE transmitter takes the first at once (R172); at a toll sink the
oldest entries go to the delivery queue while that has room (R176). A bad argument and a
store of 256 records refuse it (R165).
It rests on the model's choices of assumptions 7, 20, 28, 46. -/
def Obligations.TollRecordIsAdmittedAndCounted : Prop :=
  ∀ (args : List Word) (s : State), s.Accepts .submitToll args.length →
    (parseSubmitToll args = none →
      exec (.submitToll args) s = .next { s with response := ⟨.badArgument, .submitToll, .none⟩ }) ∧
    ∀ r, parseSubmitToll args = some r →
      let q := s.toll.counter
      let old := s.counts.lanes[r.lane]
      let counted : Counts :=
        { s.counts with
          lanes := s.counts.lanes.set r.lane
            { classes := old.classes.set r.vehicleClass (min 65535 (old.classes[r.vehicleClass] + 1))
              sum := min 4294967295 (old.sum + r.amount)
              saturated :=
                old.saturated || decide (65535 < old.classes[r.vehicleClass] + 1) ||
                  decide (4294967295 < old.sum + r.amount) }
          lastRecord := some q }
      let entry (sends : Nat) : TollEntry := ⟨q, sends != 0, sends, .record r⟩
      (256 ≤ s.toll.records →
        exec (.submitToll args) s = .next { s with response := ⟨.storeFull, .submitToll, .none⟩ }) ∧
      (s.toll.records < 256 → s.config.sink = false → s.toll.sink = .none →
        exec (.submitToll args) s =
          .next { s with
            toll := { s.toll with store := s.toll.store ++ [entry 0], counter := q + 1 }
            counts := counted
            response := ⟨.ok, .submitToll, .submittedToll q (s.toll.records + 1) none⟩ }) ∧
      (s.toll.records < 256 → s.config.sink = false → ∀ d sink, s.toll.sink = .via d sink →
        (∀ x ∈ s.toll.store, x.sent = true ∧ x.sequence ≠ q) → s.toll.sentCount < 8 → s.Ready d .bl →
        let f := s.newFrame .toll sink 63
          (wordBytes q ++ wordBytes (s.toll.base.getD q) ++ [bitByte s.toll.fresh, 0] ++ r.bytes)
        exec (.submitToll args) s =
          .next { s with
            toll :=
              { s.toll with
                store := s.toll.store ++ [entry 1], counter := q + 1, resendTimer := some (s.now + 2000) }
            ports := s.ports.set d { s.ports.get d with
              queues := (s.ports.get d).queues.set .bl ((s.ports.get d).queues.bl ++ [f]) }
            counts := counted
            response := ⟨.ok, .submitToll, .submittedToll q (s.toll.records + 1) none⟩ }) ∧
      (s.toll.records < 256 → s.config.sink = false → ∀ d sink, s.toll.sink = .via d sink → 8 ≤ s.toll.sentCount →
        exec (.submitToll args) s =
          .next { s with
            toll := { s.toll with store := s.toll.store ++ [entry 0], counter := q + 1 }
            counts := counted
            response := ⟨.ok, .submitToll, .submittedToll q (s.toll.records + 1) none⟩ }) ∧
      (s.toll.records < 256 →
        let u : State :=
          { s with counts := counted, toll := { s.toll with store := s.toll.store ++ [entry 0], counter := q + 1 } }
        ∃ v : State, (s.config.sink = false → u.TollTried v) ∧ (s.config.sink = true → u.OwnDelivered v) ∧
          exec (.submitToll args) s =
            .next { v with
              response :=
                ⟨.ok, .submitToll,
                  .submittedToll q v.toll.records
                    (if s.config.sink then some (v.toll.store.all fun e => e.sequence != q) else none)⟩ }) ∧
      (s.config.sink = true → s.toll.store = [] → s.toll.delivery.length < 64 →
        exec (.submitToll args) s =
          .next { s with
            toll :=
              { s.toll with counter := q + 1, delivery := s.toll.delivery ++ [⟨s.number, q, .record r⟩] }
            counts := counted
            response := ⟨.ok, .submitToll, .submittedToll q 0 (some true)⟩ }) ∧
      (s.toll.records < 256 → s.config.sink = true → 64 ≤ s.toll.delivery.length →
        (∀ x ∈ s.toll.store, x.sequence ≠ q) →
        exec (.submitToll args) s =
          .next { s with
            toll := { s.toll with store := s.toll.store ++ [entry 0], counter := q + 1 }
            counts := counted
            response := ⟨.ok, .submitToll, .submittedToll q (s.toll.records + 1) (some false)⟩ })

/-- A TOLL taken at a toll sink first meets the origin table (R178), and is then judged: the expected sequence is delivered
while the queue has room and acknowledged, an older one is acknowledged through the one before the expected, and any other
only when something has been delivered before (R179). A sink that discards a frame changes nothing for it. -/
def Obligations.TollIsDeliveredInSequence : Prop :=
  (∀ (origin : Nat) (f : TollFrame),
    let afresh : OriginEntry := ⟨origin, f.base, false, f.fresh⟩
    (f.fresh = false → f.sequence = f.base → originFor origin f none = some afresh) ∧
    (f.sequence ≠ f.base → originFor origin f none = none) ∧
    (f.fresh = false → ∀ e, originFor origin f (some e) = some { e with fresh := false }) ∧
    (f.fresh = true → f.sequence = f.base → originFor origin f none = some afresh) ∧
    (f.fresh = true → ∀ e, e.fresh = false →
      (f.sequence = f.base → originFor origin f (some e) = some afresh) ∧
      (f.sequence ≠ f.base → originFor origin f (some e) = none)) ∧
    (f.fresh = true → ∀ e, e.fresh = true →
      (f.sequence = f.base → older f.base e.expected = true → originFor origin f (some e) = some afresh) ∧
      (f.sequence ≠ f.base ∨ older f.base e.expected = false → originFor origin f (some e) = some e))) ∧
  (∀ (room : Bool) (f : TollFrame) (entry : OriginEntry),
    let e := if newer f.base entry.expected then f.base else entry.expected
    let j := judgeToll room f entry
    let through : Option Word := if entry.deliveredBefore then some (e - 1) else none
    (f.sequence = e → room = true →
      j = ⟨{ entry with expected := f.sequence + 1, deliveredBefore := true }, true, some f.sequence⟩) ∧
    (f.sequence = e → room = false → j = ⟨{ entry with expected := e }, false, through⟩) ∧
    (older f.sequence e = true → j = ⟨{ entry with expected := e }, false, some (e - 1)⟩) ∧
    (f.sequence ≠ e → older f.sequence e = false → j = ⟨{ entry with expected := e }, false, through⟩)) ∧
  (∀ (p : Side) (bytes : List Byte) (f : Frame) (x : TollFrame) (s : State), s.Arrives p bytes f → s.joined = true →
    s.config.sink = true → f.TakenBy .toll false s.number → parseToll f.payload = some x →
    (originFor f.origin x (s.toll.originEntry f.origin) = none →
      exec (.lineFrameArrives p bytes) s = .next (s.reached p f)) ∧
    ∀ e, originFor f.origin x (s.toll.originEntry f.origin) = some e →
      let j := judgeToll (decide (s.toll.delivery.length < 64)) x e
      ∃ t, exec (.lineFrameArrives p bytes) s = .next t ∧
        t = { s.reached p f with ports := t.ports, deferred := t.deferred, toll := t.toll } ∧
        t.toll.origins = setOrigin j.entry s.toll.origins ∧
        t.toll.delivery =
          (if j.delivered then s.toll.delivery ++ [⟨f.origin, x.sequence, x.content⟩] else s.toll.delivery) ∧
        (s.toll.sink = .own →
          t.toll = { s.toll with origins := t.toll.origins, delivery := t.toll.delivery }) ∧
        (j.ack = none → t.ports = (s.reached p f).ports ∧ t.deferred = (s.reached p f).deferred) ∧
        ∀ n, j.ack = some n →
          ({ s.reached p f with toll := t.toll } : State).Offered none
            (s.newFrame .tollAck f.origin 63 (wordBytes n)) t)

/-- A TOLLACK that names a sequence from the oldest entry on to the newest removes every entry at or before it and
clears the fresh flag; the report's removal admits the held snapshot behind the entries left (R174, R175, R191). Any
other TOLLACK is ignored, and a toll sink ignores all. Then sending is tried (R172). The resend timer's expiry offers every
SENT entry again, oldest first, each built afresh and counted, and runs another 2 s; from the first that the BL refuses on they
return to QUEUED, and with none left SENT the timer stops, as at a port that is not UP or DEGRADED (R173). An IDLE
transmitter takes the first at once, and sending is tried after that (R41). FETCH_DELIVERY takes the head of the delivery
queue, or answers EMPTY, and the freed place goes to the sink's own oldest entries (R176, R181).
It rests on the model's choices of assumptions 1, 4, 28, 36. -/
def Obligations.TollEntriesAreAckedResentAndFetched : Prop :=
  (∀ (p : Side) (bytes : List Byte) (f : Frame) (n : Word) (s : State), s.Arrives p bytes f → s.joined = true →
      f.TakenBy .tollAck false s.number → parseWord f.payload = some n →
      let u := s.reached p f
      let named := (∃ e ∈ u.toll.store, atOrBefore e.sequence n = true) ∧
        ∃ e, u.toll.store.getLast? = some e ∧ atOrBefore n e.sequence = true
      let left := u.toll.store.filter fun e => !atOrBefore e.sequence n
      let timer (es : List TollEntry) : Timer := if ∃ e ∈ es, e.sent = true then some (s.now + 2000) else none
      (s.config.sink = true ∨ ¬named → exec (.lineFrameArrives p bytes) s = .next u) ∧
      (s.config.sink = false → named →
        let acked (more : List TollEntry) : Toll :=
          { u.toll with
            store := left ++ more, counter := u.toll.counter + BitVec.ofNat 16 more.length, fresh := false
            resendTimer := timer left }
        ∃ t, exec (.lineFrameArrives p bytes) s = .next t ∧
          ((∀ e ∈ u.toll.store, atOrBefore e.sequence n = true → e.content.isReport = false) ∨ s.counts.held = none →
            ({ u with toll := acked [] } : State).TollTried t) ∧
          ∀ r, s.counts.held = some r →
            (∃ e ∈ u.toll.store, atOrBefore e.sequence n = true ∧ e.content.isReport = true) →
            ({ u with
               toll := acked [⟨u.toll.counter, false, 0, .report r⟩]
               counts := { s.counts with held := none } } : State).TollTried t) ∧
      (s.config.sink = false → named → u.toll.sink = .none →
        ((∀ e ∈ u.toll.store, atOrBefore e.sequence n = true → e.content.isReport = false) ∨ s.counts.held = none →
          exec (.lineFrameArrives p bytes) s =
            .next { u with toll := { u.toll with store := left, fresh := false, resendTimer := timer left } }) ∧
        (∀ r, s.counts.held = some r →
          (∃ e ∈ u.toll.store, atOrBefore e.sequence n = true ∧ e.content.isReport = true) →
          exec (.lineFrameArrives p bytes) s =
            .next { u with
              toll :=
                { u.toll with
                  store := left ++ [⟨u.toll.counter, false, 0, .report r⟩], counter := u.toll.counter + 1
                  fresh := false, resendTimer := timer left }
              counts := { s.counts with held := none } })) ∧
      (s.config.sink = false → named →
        ∃ t, exec (.lineFrameArrives p bytes) s = .next t ∧ t.toll.fresh = false ∧
          ∀ e ∈ t.toll.store, ∃ x, (x ∈ left ∨ x.sequence = u.toll.counter) ∧ e.sequence = x.sequence)) ∧
  ((∀ (s : State) (due : Nat) (d : Side) (sink : Nat), s.resetHeld = false → s.toll.resendTimer = some due →
      s.toll.sink = .via d sink → (s.toll.store.map fun e => e.sequence).Nodup →
      let now' := max s.now due
      let sent := s.toll.store.filter fun e => e.sent
      let frame (e : TollEntry) : Frame :=
        s.newFrame .toll sink 63
          (TollFrame.payload ⟨e.sequence, s.toll.base.getD e.sequence, s.toll.fresh, e.content⟩)
      ((s.ports.get d).isUp = true → (s.ports.get d).sending.isSome = true → sent ≠ [] →
        (s.ports.get d).queues.bl.length + sent.length ≤ 16 →
        exec .resendTimerExpiry s =
          .next { s with
            now := now'
            ports := s.ports.set d { s.ports.get d with
              queues := (s.ports.get d).queues.set .bl ((s.ports.get d).queues.bl ++ sent.map frame) }
            toll :=
              { s.toll with
                resendTimer := some (now' + 2000)
                store := s.toll.store.map fun e =>
                  if e.sent then { e with sendCount := min 255 (e.sendCount + 1) } else e } }) ∧
      (let x := s.ports.get d
       let resent (out : List TollEntry) : Toll :=
         { s.toll with
           resendTimer := if out = [] then none else some (now' + 2000)
           store := s.toll.store.map fun e =>
             if e ∈ out then { e with sendCount := min 255 (e.sendCount + 1) } else { e with sent := false } }
       (x.isUp = true → x.sending.isSome = true →
         let out := sent.take (16 - x.queues.bl.length)
         exec .resendTimerExpiry s =
           .next { s with
             now := now', toll := resent out
             ports := s.ports.set d { x with queues := { x.queues with bl := x.queues.bl ++ out.map frame } } }) ∧
       (x.isUp = true → x.sending = none → x.queues = emptyQueues → s.deferred = [] → sent.length ≤ 8 →
         ∀ first rest, sent = first :: rest → ∃ t, exec .resendTimerExpiry s = .next t ∧
           ({ s with
              now := now', toll := resent sent
              ports := s.ports.set d
                { x with
                  sending := some (frame first), waitBL := 0
                  queues := { x.queues with bl := rest.map frame } } } : State).TollTried t)) ∧
      ((s.ports.get d).isUp = false →
        exec .resendTimerExpiry s =
          .next { s with
            now := now'
            toll :=
              { s.toll with
                resendTimer := none, store := s.toll.store.map fun e => { e with sent := false } } })) ∧
    (∀ s : State, s.Accepts .fetchDelivery 0 →
      (s.toll.delivery = [] →
        exec (.fetchDelivery []) s = .next { s with response := ⟨.empty, .fetchDelivery, .none⟩ }) ∧
      ∀ e es, s.toll.delivery = e :: es →
        (∃ v : State, ({ s with toll := { s.toll with delivery := es } } : State).OwnDelivered v ∧
          exec (.fetchDelivery []) s = .next { v with response := ⟨.ok, .fetchDelivery, .delivery e es.length⟩ }) ∧
        (s.toll.store = [] →
          exec (.fetchDelivery []) s =
            .next { s with
              toll := { s.toll with delivery := es }
              response := ⟨.ok, .fetchDelivery, .delivery e es.length⟩ }) ∧
        (es.length = 63 → ∀ x xs, s.toll.store = x :: xs →
          (x.content.isReport = false ∨ s.counts.held = none) →
          exec (.fetchDelivery []) s =
            .next { s with
              toll := { s.toll with store := xs, delivery := es ++ [⟨s.number, x.sequence, x.content⟩] }
              response := ⟨.ok, .fetchDelivery, .delivery e es.length⟩ }) ∧
        (es.length = 63 → ∀ x xs r, s.toll.store = x :: xs → x.content.isReport = true → s.counts.held = some r →
          exec (.fetchDelivery []) s =
            .next { s with
              toll :=
                { s.toll with
                  store := xs ++ [⟨s.toll.counter, false, 0, .report r⟩], counter := s.toll.counter + 1
                  delivery := es ++ [⟨s.number, x.sequence, x.content⟩] }
              counts := { s.counts with held := none }
              response := ⟨.ok, .fetchDelivery, .delivery e es.length⟩ })))

/-- The sink is chosen from the sides whose port is UP or DEGRADED and whose reach view names one: an UP port before a
DEGRADED one, then the nearer sink, then East (R169). A chosen sink is kept until its side is no longer eligible or names
another, or its port is DEGRADED while the other side is eligible and UP (R170). A change of sink, from or to none as well,
returns SENT entries to QUEUED with their send counts and stops the resend timer, and then sending is tried toward the new one
(R170, R172).
It rests on the model's choices of assumptions 12, 28. -/
def Obligations.SinkChoiceIsStable : Prop :=
  (∀ s : State,
    ((∀ d, s.eligible d = none) → s.chooseSink = .none) ∧
    (∀ d e, s.eligible d = some e → s.eligible d.other = none → s.chooseSink = .via d e.station) ∧
    (∀ d e x, s.eligible d = some e → s.eligible d.other = some x →
      (s.ports.get d).state = .up → (s.ports.get d.other).state ≠ .up → s.chooseSink = .via d e.station) ∧
    (∀ d e x, s.eligible d = some e → s.eligible d.other = some x →
      ((s.ports.get d).state = .up ↔ (s.ports.get d.other).state = .up) → e.hops < x.hops →
      s.chooseSink = .via d e.station) ∧
    (∀ e x, s.eligible .east = some e → s.eligible .west = some x →
      (s.ports.east.state = .up ↔ s.ports.west.state = .up) → e.hops = x.hops →
      s.chooseSink = .via .east e.station)) ∧
  (∀ (s : State) (d : Side) (e : RoleEntry),
    s.eligible d = some e ↔ (s.ports.get d).isUp = true ∧ (s.reach.get d).sink = some e) ∧
  (∀ (s : State) (d : Side) (station : Nat), s.toll.sink = .via d station →
    let kept := (∃ e, s.eligible d = some e ∧ e.station = station) ∧
      ¬((s.ports.get d).state = .degraded ∧ (s.eligible d.other).isSome = true ∧
        (s.ports.get d.other).state = .up)
    (kept → s.reviewSink = s) ∧
    (¬kept → s.joined = true → s.config.sink = false → s.chooseSink ≠ s.toll.sink →
      s.reviewSink.toll.sink = s.chooseSink ∧
        (s.reviewSink.toll.store.map fun e => e.sequence) = (s.toll.store.map fun e => e.sequence) ∧
        (s.chooseSink = .none →
          s.reviewSink =
            { s with
              toll :=
                { s.toll with
                  sink := .none, resendTimer := none
                  store := s.toll.store.map fun e => { e with sent := false } } }))) ∧
  (∀ s : State, s.joined = true → s.config.sink = false → s.chooseSink ≠ s.toll.sink →
    (s.toll.sink = .none ∨
      ∃ d station, s.toll.sink = .via d station ∧
        ((∀ e, s.eligible d = some e → e.station ≠ station) ∨
          (s.ports.get d).state = .degraded ∧ (s.eligible d.other).isSome = true ∧
            (s.ports.get d.other).state = .up)) →
    ({ s with
       toll := { s.toll with
         sink := s.chooseSink, resendTimer := none
         store := s.toll.store.map fun e => { e with sent := false } } } : State).TollTried s.reviewSink) ∧
  (∀ s : State, s.toll.sink = .none → s.chooseSink = .none → s.reviewSink = s) ∧
  (∀ s : State, s.joined = false ∨ s.config.sink = true → s.reviewSink = s)

/-! ### Lane counts and epochs (chapter 10) -/

/-- A mark newer than the current epoch, taken from the line or issued here, freezes the live counters into a snapshot,
zeroes them and becomes the epoch (R186 to R188). The snapshot enters the toll store as a report when that holds none, after
which sending is tried, or own-sink delivery at a toll sink (R168, R172, R176); it is
merged into a report not yet sent, and else becomes or is merged into the held snapshot (R189). Merging adds counts and
sums up to their top values (R190).
It rests on the model's choices of assumptions 28, 29. -/
def Obligations.EpochMarkTakesASnapshot : Prop :=
  (∀ (s : State) (e : Word),
    let snapshot : Report := ⟨s.counts.epoch, e, s.counts.lastRecord, s.counts.lanes⟩
    let zeroed : Counts := { s.counts with lanes := Vector.replicate 8 zeroLane, epoch := some e }
    (reportIn s.toll.store = none → s.config.sink = false → s.toll.sink = .none →
      s.applyMark e = { s with
        counts := zeroed
        toll :=
          { s.toll with
            store := s.toll.store ++ [⟨s.toll.counter, false, 0, .report snapshot⟩]
            counter := s.toll.counter + 1 } }) ∧
    (reportIn s.toll.store = none →
      let u : State :=
        { s with
          counts := zeroed
          toll := { s.toll with
            store := s.toll.store ++ [⟨s.toll.counter, false, 0, .report snapshot⟩], counter := s.toll.counter + 1 } }
      (s.config.sink = false → u.TollTried (s.applyMark e)) ∧ (s.config.sink = true → u.OwnDelivered (s.applyMark e))) ∧
    (s.toll.store = [] → s.config.sink = true → s.toll.delivery.length < 64 → s.counts.held = none →
      s.applyMark e = { s with
        counts := zeroed
        toll :=
          { s.toll with
            counter := s.toll.counter + 1
            delivery := s.toll.delivery ++ [⟨s.number, s.toll.counter, .report snapshot⟩] } }) ∧
    (∀ x r, reportIn s.toll.store = some (x, r) →
      (x.sendCount = 0 →
        s.applyMark e = { s with
          counts := zeroed
          toll :=
            { s.toll with
              store := s.toll.store.map fun y =>
                if y.sequence = x.sequence then { y with content := .report (r.merge snapshot) } else y } }) ∧
      (x.sendCount ≠ 0 → s.counts.held = none →
        s.applyMark e = { s with counts := { zeroed with held := some snapshot } }) ∧
      (x.sendCount ≠ 0 → ∀ h, s.counts.held = some h →
        s.applyMark e = { s with counts := { zeroed with held := some (h.merge snapshot) } }))) ∧
  (∀ a b : Report,
    (a.merge b).firstEpoch = a.firstEpoch ∧ (a.merge b).lastEpoch = b.lastEpoch ∧
    (b.lastSequence = none → (a.merge b).lastSequence = a.lastSequence) ∧
    (∀ q, b.lastSequence = some q → (a.merge b).lastSequence = some q) ∧
    ∀ l : Fin 8,
      (∀ i : Fin 5,
        (a.merge b).lanes[l].classes[i] = min 65535 (a.lanes[l].classes[i] + b.lanes[l].classes[i])) ∧
      (a.merge b).lanes[l].sum = min 4294967295 (a.lanes[l].sum + b.lanes[l].sum) ∧
      ((a.merge b).lanes[l].saturated = true ↔
        a.lanes[l].saturated = true ∨ b.lanes[l].saturated = true ∨
          (∃ i : Fin 5, (a.merge b).lanes[l].classes[i] = 65535) ∨ (a.merge b).lanes[l].sum = 4294967295)) ∧
  (∀ (s : State) (seed : Word), s.Accepts .issueEpoch 1 →
    let e := match s.counts.epoch with | none => seed | some x => x + 1
    ∃ t, exec (.issueEpoch [seed]) s = .next t ∧
      t = { s.applyMark e with
            ports := t.ports, deferred := t.deferred, toll := t.toll
            response := ⟨.ok, .issueEpoch, .epoch e⟩ } ∧
      (s.applyMark e).Offered (some .plain) (s.broadcast63 .epoch (wordBytes e)) t) ∧
  (∀ (p : Side) (bytes : List Byte) (f : Frame) (e : Word) (s : State), s.Arrives p bytes f → s.joined = true →
    f.TakenBy .epoch true s.number → parseWord f.payload = some e →
    (s.counts.epoch = none → exec (.lineFrameArrives p bytes) s = .next ((s.reached p f).applyMark e)) ∧
    ∀ x, s.counts.epoch = some x →
      (1 ≤ (e - x).toNat → (e - x).toNat ≤ 32767 →
        exec (.lineFrameArrives p bytes) s = .next ((s.reached p f).applyMark e)) ∧
      (e = x ∨ 32768 ≤ (e - x).toNat → exec (.lineFrameArrives p bytes) s = .next (s.reached p f)))

/-! ### The cabinet port (chapter 11) -/

/-- A command is judged against the station state, then the roles, then the argument count, then its own tests, and a refused
command changes no state: its response code is all it leaves, with no mark and no flag cleared (R199). The job commands,
from READ_CIRCUITS to READ_COUNTERS, are refused in STARTING. -/
def Obligations.RefusedCommandsChangeNothing : Prop :=
  ∀ (c : Command) (args : List Word) (s : State), s.resetHeld = false →
    let refused (code : ResponseCode) : State := { s with response := ⟨code, c, .none⟩ }
    (c.acceptedIn s.joined = false → exec (commandRow c args) s = .next (refused .wrongState)) ∧
    (s.joined = false → 8 ≤ c.code → c.code ≤ 36 → exec (commandRow c args) s = .next (refused .wrongState)) ∧
    (c.acceptedIn s.joined = true → c.roleHeld s.config = false →
      exec (commandRow c args) s = .next (refused .wrongRole)) ∧
    (c.acceptedIn s.joined = true → c.roleHeld s.config = true → c.takesCount args.length = false →
      exec (commandRow c args) s = .next (refused .badArgument)) ∧
    ∃ t, exec (commandRow c args) s = .next t ∧ t.response.answered = c ∧
      (t.response.code ≠ .ok → t.response.code ≠ .okAdjusted → t = refused t.response.code)

/-- A frame that fails a test is not executed: the pending response becomes FETCH's with the fault, by length, then
check, then code (R196). A frame that carries a command with its arguments and their check is executed as that
command with those arguments, whatever words are clocked after the check word; every other frame is a frame fault
(R195, R196).
It rests on the model's choices of assumptions 10, 24. -/
def Obligations.CabinetFramesAreReadOrFault : Prop :=
  (∀ (s : State), s.resetHeld = false →
      let fault (code : ResponseCode) : Result := .next { s with response := ⟨code, .fetch, .none⟩ }
      exec (.cabinetFrameFault []) s = fault .frameShort ∧
      ∀ (w : Word) (rest : List Word),
        let n := (loByte w).toNat
        (rest.length < n + 1 → exec (.cabinetFrameFault (w :: rest)) s = fault .frameShort) ∧
        ∀ (args ignored : List Word) (check : Word), rest = args ++ check :: ignored → args.length = n →
          (check ≠ crcWords (w :: args) → exec (.cabinetFrameFault (w :: rest)) s = fault .crcFault) ∧
          (check = crcWords (w :: args) → (∀ c : Command, c.code ≠ (hiByte w).toNat) →
            exec (.cabinetFrameFault (w :: rest)) s = fault .unknownCommand) ∧
          ∀ c : Command, check = crcWords (w :: args) → c.code = (hiByte w).toNat →
            exec (.cabinetFrameFault (w :: rest)) s = .next s) ∧
  ((∀ (c : Command) (args extra : List Word), args.length ≤ 255 →
      decodeCabinetFrame (encodeCabinetFrame c args ++ extra) = commandRow c args) ∧
    (∀ words : List Word,
      (∀ (c : Command) (args extra : List Word), args.length ≤ 255 → words ≠ encodeCabinetFrame c args ++ extra) →
      decodeCabinetFrame words = .cabinetFrameFault words))

/-- The status word shows the station state, the response code, the five attention flags and the command answered, each in
its bits (R198), and ATTN is asserted while at least one flag is set (R200). A frame clocks out the status word, the response
words, their check and then zeros (R195), and zeros alone while pin reset is held (R203). The response words are as many as
section 11.4 gives: that the lists of READ_CIRCUITS, READ_CALLS and the like are laid out so is the model's inference.
It rests on the model's choices of assumption 9. -/
def Obligations.StatusWordShowsTheFlags : Prop :=
  ∀ s : State,
    s.statusWord.getLsbD 15 = s.joined ∧
    (s.statusWord.extractLsb' 11 4).toNat = s.response.code.value ∧
    s.statusWord.getLsbD 10 = (s.callUnit.callsChanged || s.callUnit.offersChanged) ∧
    (s.statusWord.getLsbD 9 = true ↔ s.toll.delivery ≠ []) ∧
    (s.statusWord.getLsbD 8 = true ↔ s.readings.delivery ≠ []) ∧
    s.statusWord.getLsbD 7 = s.lineFlag ∧
    (s.statusWord.getLsbD 6 = true ↔ ∃ i : Fin 5, s.faults[i].latched = true) ∧
    (s.statusWord.extractLsb' 0 6).toNat = s.response.answered.code ∧
    (s.attn = true ↔ ∃ i : Fin 5, s.statusWord.getLsbD (6 + i.val) = true) ∧
    (s.resetHeld = false →
      ∃ check, s.outputFrame = (s.statusWord :: s.response.answer.words) ++ [check] ∧
        check = crcWords (s.statusWord :: s.response.answer.words)) ∧
    (∀ n i : Nat, i < n → (s.clockedOut n)[i]? = some (s.outputFrame.getD i 0)) ∧
    (∀ n : Nat, s.resetHeld = true → s.clockedOut n = List.replicate n 0) ∧
    (∀ r, (Answer.line r).words.length = 18) ∧
    (∀ es, (Answer.map es).words.length = 1 + 2 * es.length) ∧
    (∀ es cs, (Answer.circuits es cs).words.length = 3 * es.length + 2 * cs.length) ∧
    (∀ bs ls, (Answer.calls bs ls).words.length = 8 * bs.length + 8 * ls.length) ∧
    (∀ es, (Answer.offers es).words.length = 1 + 5 * es.length) ∧
    (∀ es n, (Answer.incidents es n).words.length = 3 + 4 * es.length) ∧
    (∀ r, r.kinds.length = 4 → (Answer.readings r).words.length = if r.delivery.isSome then 30 else 29) ∧
    (∀ e n, (Answer.fetchedReading e n).words.length = 4) ∧ (∀ r, (Answer.speed r).words.length = 32) ∧
    (∀ v o, (Answer.published v o).words.length = 2) ∧ (∀ fs, (Answer.sign fs).words.length = 28) ∧
    (∀ q n straight, (Answer.submittedToll q n straight).words.length = 3) ∧
    (∀ r, r.entries.length ≤ 16 → (Answer.tollStore r).words.length ≤ 48) ∧
    (∀ q origin left (r : Report), (Answer.delivery ⟨origin, q, .report r⟩ left).words.length = 72) ∧
    (∀ r, (Answer.counters r).words.length =
      68 + (if r.report.isSome then 7 else 0) + (if r.held.isSome then 5 else 0))

/-- CLEAR_FAULTS clears the latched flags and counts of its mask and leaves the others, and its answer is the set left; a
mask with a bit above the five is refused. An occurrence before it is cleared with the rest, and one after it latches afresh
with a count of 1 (R202). -/
def Obligations.ClearFaultsClearsItsMask : Prop :=
  ∀ (mask : Word) (s : State), s.resetHeld = false →
    (32 ≤ mask.toNat → exec (.clearFaults [mask]) s = .next { s with response := ⟨.badArgument, .clearFaults, .none⟩ }) ∧
    (mask.toNat ≤ 31 → ∃ t, exec (.clearFaults [mask]) s = .next t ∧
      t = { s with faults := t.faults, response := ⟨.ok, .clearFaults, .cleared t.faults⟩ } ∧
      (∀ i : Fin 5, t.faults[i] = if mask.getLsbD i.val then ⟨false, 0⟩ else s.faults[i]) ∧
      (∃ w : Word, t.response.answer.words = [w] ∧ (∀ i : Fin 5, w.getLsbD i.val = t.faults[i].latched) ∧
        w.toNat ≤ 31) ∧
      (t.faultFlag = true ↔ ∃ i : Fin 5, mask.getLsbD i.val = false ∧ s.faults[i].latched = true) ∧
      ∀ f : FaultName, mask.getLsbD f.index.val = true →
        exec (.clearFaults [mask]) (s.latch f) = .next t ∧
        (t.latch f).faults = t.faults.set f.index ⟨true, 1⟩ ∧ (t.latch f).faultFlag = true) ∧
    ∀ args : List Word, args.length ≠ 1 →
      exec (.clearFaults args) s = .next { s with response := ⟨.badArgument, .clearFaults, .none⟩ }

/-- The read commands of both states and of the lines and calls answer from the state, change nothing but the pending
response, and clear their own flag or mark: READ_LINE the LINE flag, READ_CALLS and READ_OFFERS their marks (R27,
R28, R62, R84 to R86, R201). The read commands of the road state, the signs, the toll store and the counters answer
from the state and change nothing but the pending response (R111, R117, R140, R161, R162, R182, R193); an argument
that names no page or no station is refused.
It rests on the model's choices of assumptions 8, 43, 45. -/
def Obligations.ReadCommandsAnswerFromTheState : Prop :=
  (∀ s : State, s.resetHeld = false →
      let tenths (period at' : Nat) : Nat := min period ((s.now - at') / 100)
      let seconds (at' : Nat) : Nat := min 65535 ((s.now - at') / 1000)
      let left (t : Timer) : Nat := t.getD 0 - s.now
      (exec (.fetch []) s = .next { s with response := ⟨.ok, .fetch, .none⟩ }) ∧
      (exec (.readFaults []) s = .next { s with response := ⟨.ok, .readFaults, .faults s.faults⟩ } ∧
        ∃ set, (Answer.faults s.faults).words = set :: s.faults.toList.map (fun l => BitVec.ofNat 16 l.count) ∧
          (∀ i : Fin 5, set.getLsbD i.val = s.faults[i].latched) ∧ set.toNat ≤ 31) ∧
      (exec (.readLine []) s =
        .next { s with
          lineFlag := false
          response :=
            ⟨.ok, .readLine,
              .line
                { joined := s.joined, number := s.number, eastEnd := s.ports.east.endStrap
                  westEnd := s.ports.west.endStrap, reach := s.reach
                  ports :=
                    ⟨⟨s.ports.east.state, s.ports.east.signal, (s.ports.east.history.filter fun ok => !ok).length,
                        s.ports.east.history.length, s.ports.east.probes⟩,
                      ⟨s.ports.west.state, s.ports.west.signal, (s.ports.west.history.filter fun ok => !ok).length,
                        s.ports.west.history.length, s.ports.west.probes⟩⟩ }⟩ }) ∧
      (∀ w : Word,
        (1 ≤ w.toNat → w.toNat ≤ 63 → ∃ entries : List MapReport,
          exec (.readMap [w]) s = .next { s with response := ⟨.ok, .readMap, .map entries⟩ } ∧
          entries =
            ((s.map.filter fun e => w.toNat ≤ e.station).take 31).map fun e =>
              ⟨e.station, e.port, e.distance, tenths 99 e.heardAt⟩) ∧
        (w.toNat = 0 ∨ 63 < w.toNat →
          exec (.readMap [w]) s = .next { s with response := ⟨.badArgument, .readMap, .none⟩ })) ∧
      (s.joined = true →
        (∃ (entries : List CircuitReport) (claims : List ClaimReport),
          exec (.readCircuits []) s = .next { s with response := ⟨.ok, .readCircuits, .circuits entries claims⟩ } ∧
          entries.length = 16 ∧ claims.length = min 4 s.config.boxes ∧
          (∀ c : Fin 16,
            entries[c.val]? =
              some
                (match s.circuits[c] with
                | .free => ⟨c.val + 1, .free, 0, none, none, none⟩
                | .claiming b t => ⟨c.val + 1, .claiming, s.number, some b, none, some (min 40 (left t))⟩
                | .heldOwn b _ _ => ⟨c.val + 1, .heldOwn, s.number, some b, none, none⟩
                | .heldOther h at' => ⟨c.val + 1, .heldOther, h, none, some (tenths 20 at'), none⟩)) ∧
          ∀ b : Fin 4, b.val < s.config.boxes →
            claims[b.val]? =
              some ⟨s.claims[b].wanted, s.claims[b].yields, min 10 (left s.claims[b].wait / 100)⟩) ∧
        (∃ (boxes : List CallReport) (lanes : List LaneReport),
          exec (.readCalls []) s =
            .next { s with
              callUnit := { s.callUnit with callsChanged := false }
              response := ⟨.ok, .readCalls, .calls boxes lanes⟩ } ∧
          boxes.length = min 4 s.config.boxes ∧ lanes.length = min 2 s.config.lanes ∧
          (∀ b : Fin 4, b.val < s.config.boxes →
            let r := s.calls[b]
            boxes[b.val]? =
              some ⟨b, r.offHook, r.state, r.callId, r.circuit, r.partner.map fun x => (x.station, x.lane),
                r.offerCount.getD 0, seconds r.changedAt⟩) ∧
          ∀ l : Fin 2, l.val < s.config.lanes →
            let r := s.callUnit.lanes[l]
            lanes[l.val]? = some ⟨l, r.state, r.call, r.takeSends.getD 0, r.outcome, seconds r.changedAt⟩) ∧
        (s.config.answering = true →
          exec (.readOffers []) s =
            .next { s with
              callUnit := { s.callUnit with offersChanged := false }
              response :=
                ⟨.ok, .readOffers,
                  .offers
                    (s.callUnit.offers.map fun o =>
                      ⟨o.origin, o.callId, o.box, o.circuit, o.count, o.port, seconds o.firstHeard,
                        tenths 120 o.lastHeard⟩)⟩ }))) ∧
  (∀ s : State, s.resetHeld = false → s.joined = true →
      let left (t : Timer) : Nat := t.getD 0 - s.now
      let reading (k : Fin 4) : ReadingReport :=
        let x := s.readings.kinds[k]
        { value := x.value, clamped := x.clamped, lastSequence := x.lastSequence, pending := x.pending.isSome
          ageSeconds := match x.submittedAt with | none => 0 | some at' => min 900 ((s.now - at') / 1000) }
      let warned (f : Face) : WarningSet :=
        ⟨s.warnings.fog, s.warnings.ice, s.warnings.wind, s.warnings.incident.get f, s.warnings.closeAdvised.get f⟩
      let speedOf (f : Face) : FaceSpeedReport :=
        let x := s.speed.faces.get f
        { d := x.d, raiseCount := x.raiseCount, last := x.last.map fun e => ⟨e.capVis, e.capGrip, e.capWind, e.capInc, e.aRaw, e.a, e.t⟩
          closeAdvised := s.warnings.closeAdvised.get f
          advert :=
            if s.lit f then x.d else (match x.advert with | none => x.d | some h => min x.d h.n)
          held := x.advert.map fun h => ⟨h.n, h.origin, h.litE, h.litW, min 150 ((s.now - h.setAt) / 100)⟩ }
      let signOf (f : Face) : Option SignReport :=
        let u := s.faces.get f
        let x := u.selector
        if s.config.fitted f then
          some
            { dark := u.dark, faulted := u.faulted, lit := !u.dark && !u.faulted
              roundel :=
                if u.dark ∨ (s.speed.faces.get f).d = (s.config.vmax : Int) then none
                else some (s.speed.faces.get f).d
              shown := x.shown.map fun i => (i, s.itemPriority i)
              rotation := x.rotation, top := x.top, dwellTenths := min 30 (left x.dwellTimer / 100)
              flashed := (match x.shown with | none => .none | some i => s.itemFlash i)
              phaseOn := x.flashOn, lastImage := u.image.map fun i => i.sequence, awaited := u.awaited.length
              missing := u.missing, lastAnswer := u.lastAnswer }
        else none
      (∃ nearest : PerSide (Option Nat),
        exec (.readIncidents []) s =
          .next { s with
            response :=
              ⟨.ok, .readIncidents,
                .incidents
                  (s.incidents.table.map fun e =>
                    ⟨e.origin, e.callId, e.box, e.side, e.distance, min 1800 ((s.now - e.touchedAt) / 1000)⟩)
                  nearest⟩ } ∧
        ∀ f : Face,
          (nearest.get f = none ↔ ∀ e ∈ s.incidents.table, e.side ≠ .own ∧ e.side ≠ .ahead f) ∧
          ∀ d, nearest.get f = some d →
            (∃ e ∈ s.incidents.table, (e.side = .own ∨ e.side = .ahead f) ∧ e.distance = d) ∧
            ∀ e ∈ s.incidents.table, e.side = .own ∨ e.side = .ahead f → d ≤ e.distance) ∧
      (exec (.readReadings []) s =
        .next { s with
          response :=
            ⟨.ok, .readReadings,
              .readings
                { kinds := [reading 0, reading 1, reading 2, reading 3], vs := s.readings.vs
                  icyRun := s.warnings.icyRun, thawRun := s.warnings.thawRun, calmCount := s.warnings.calmCount
                  sets := ⟨warned .east, warned .west⟩
                  delivery := if s.config.collector then some s.readings.delivery.length else none }⟩ }) ∧
      (exec (.readSpeed []) s =
        .next { s with
          response :=
            ⟨.ok, .readSpeed,
              .speed
                { vmax := s.config.vmax, vmin := s.config.vmin, faces := ⟨speedOf .east, speedOf .west⟩
                  nextTenths := min 100 (left s.speed.evaluationTimer / 100) }⟩ }) ∧
      (∀ w : Word,
        (∀ n : Fin 32, w.toNat = n.val →
          exec (.readPage [w]) s =
            .next { s with
              response :=
                ⟨.ok, .readPage,
                  .page ⟨s.pages[n].mark, s.pages[n].content.map fun c => (c.page, c.publisher, c.remaining)⟩⟩ }) ∧
        (32 ≤ w.toNat → exec (.readPage [w]) s = .next { s with response := ⟨.badArgument, .readPage, .none⟩ })) ∧
      (exec (.readSign []) s =
        .next { s with response := ⟨.ok, .readSign, .sign ⟨signOf .east, signOf .west⟩⟩ }) ∧
      (∀ w : Word,
        (w.toNat ≤ 63 → ∃ r : TollReport,
          exec (.readTollStore [w]) s = .next { s with response := ⟨.ok, .readTollStore, .tollStore r⟩ } ∧
          r.nextSequence = s.toll.counter ∧
          r.records = (s.toll.store.filter fun e => !e.content.isReport).length ∧
          (r.report = none ↔ ∀ e ∈ s.toll.store, e.content.isReport = false) ∧
          r.sent = (s.toll.store.filter fun e => e.sent).length ∧
          r.queued = (s.toll.store.filter fun e => !e.sent).length ∧
          r.base = s.toll.store.head?.map (fun e => e.sequence) ∧
          (s.toll.sink = .none → r.sink = .none) ∧ (s.toll.sink = .own → r.sink = .own) ∧
          (∀ d station, s.toll.sink = .via d station → ∃ hops, r.sink = .via d station hops ∧
            ∀ e, (s.reach.get d).sink = some e → e.station = station → hops = some e.hops) ∧
          r.resendTenths = min 20 (left s.toll.resendTimer / 100) ∧ r.fresh = s.toll.fresh ∧
          r.entries =
            (s.toll.store.take 16).map (fun e => ⟨e.sequence, e.content.isReport, e.sent, e.sendCount⟩) ∧
          (s.config.sink = false → r.tables = none) ∧
          (s.config.sink = true →
            r.tables =
              some ⟨s.toll.delivery.length, s.toll.origins.length,
                if w.toNat = 0 then none
                else some (s.toll.origins.find? fun e => e.origin == w.toNat)⟩)) ∧
        (64 ≤ w.toNat →
          exec (.readTollStore [w]) s = .next { s with response := ⟨.badArgument, .readTollStore, .none⟩ })) ∧
      (∃ report : Option ReportEntryReport,
        exec (.readCounters []) s =
          .next { s with
            response :=
              ⟨.ok, .readCounters,
                .counters
                  { epoch := s.counts.epoch, lanes := s.counts.lanes, report := report
                    held := s.counts.held.map fun r => (r.firstEpoch, r.lastEpoch, r.lastSequence) }⟩ } ∧
        ((∀ e ∈ s.toll.store, e.content.isReport = false) → report = none) ∧
        ∀ (before after : List TollEntry) (e : TollEntry) (r : Report), s.toll.store = before ++ e :: after →
          (∀ x ∈ before, x.content.isReport = false) → e.content = .report r →
          report = some ⟨e.sequence, e.sent, e.sendCount, r.firstEpoch, r.lastEpoch, r.lastSequence⟩))

/-- CONFIGURE takes its four words when they are the words of a configuration in the ranges of R205, which replaces
the one held and is answered in the same words; any other arguments are refused and the configuration held stays.
JOIN is refused at a station of number 0. Otherwise the station is JOINED, the sink is chosen, each fitted call box
that is off-hook begins a call under the next call id, and each selecting face is sent an image. Where no handset is
off-hook and transmitters are busy, the SPEED is all that joins the queues and the speed unit has its JOIN values
(R206, R65, R125, R163, R169). Ports, map, reach views and configuration stay.
It rests on the model's choices of assumptions 11, 21, 31. -/
def Obligations.ConfigureAndJoinStartTheStation : Prop :=
  (∀ (args : List Word) (s : State), s.resetHeld = false → s.joined = false →
      let inRange (c : StationConfig) : Prop :=
        c.boxes ≤ 4 ∧ c.lanes ≤ 2 ∧ (c.lanes ≠ 0 → c.answering = true) ∧
          c.vmax ∈ [60, 70, 80, 90, 100, 110, 120, 130] ∧ c.vmin ∈ [40, 50, 60, 70, 80] ∧ c.vmin + 20 ≤ c.vmax ∧
          1 ≤ c.incidentReach ∧ c.incidentReach ≤ 7
      let words (c : StationConfig) : List Word :=
        [wordOf (bitByte c.faceE ||| bitByte c.faceW <<< 1)
            (bitByte c.answering ||| bitByte c.sink <<< 1 ||| bitByte c.collector <<< 2),
          wordOf (byteOf c.boxes) (byteOf c.lanes), wordOf (byteOf c.vmax) (byteOf c.vmin),
          wordOf 0 (byteOf c.incidentReach)]
      (∀ c, inRange c → args = words c →
        exec (.configure args) s = .next { s with config := c, response := ⟨.ok, .configure, .config c⟩ } ∧
          (Answer.config c).words = args) ∧
      ((∀ c, inRange c → args ≠ words c) →
        exec (.configure args) s = .next { s with response := ⟨.badArgument, .configure, .none⟩ })) ∧
  (∀ s : State, s.resetHeld = false → s.joined = false →
      (s.number = 0 → exec (.join []) s = .next { s with response := ⟨.wrongState, .join, .none⟩ }) ∧
      (s.number ≠ 0 → (∀ b : Fin 4, s.calls[b].state = .idle) →
        let begins (b : Fin 4) : Bool := decide (b.val < s.config.boxes) && s.calls[b].offHook
        let sink : SinkChoice := if s.config.sink then .own else s.chooseSink
        let speed : Speed :=
          { faces := ⟨⟨(s.config.vmax : Int), 0, none, none, none⟩, ⟨(s.config.vmax : Int), 0, none, none, none⟩⟩
            evaluationTimer := some (s.now + 10000), advertTimer := some (s.now + 5000) }
        let f := s.newFrame .speed 0 1
          (SpeedFields.payload ⟨(s.config.vmax : Int), (s.config.vmax : Int), s.lit .east, s.lit .west⟩)
        ∃ t, exec (.join []) s = .next t ∧ t.joined = true ∧ t.response = ⟨.ok, .join, .none⟩ ∧ t.toll.sink = sink ∧
          t.map = s.map ∧ t.reach = s.reach ∧ t.config = s.config ∧ t.number = s.number ∧ t.lineFlag = s.lineFlag ∧
          t.now = s.now ∧ t.pages = s.pages ∧ t.readings = s.readings ∧
          (∀ p : Side, (t.ports.get p).state = (s.ports.get p).state ∧
            (t.ports.get p).history = (s.ports.get p).history ∧
            (t.ports.get p).probeSendTimer = (s.ports.get p).probeSendTimer) ∧
          (∀ b : Fin 4, begins b = false → t.calls[b] = s.calls[b]) ∧
          (∀ b : Fin 4, begins b = true → t.calls[b].state = .seizing ∧ t.calls[b].offHook = true ∧
            t.calls[b].callId =
              some (s.callUnit.nextCallId +
                BitVec.ofNat 8 (([0, 1, 2, 3] : List (Fin 4)).filter fun x => decide (x < b) && begins x).length) ∧
            t.calls[b].incidentTimer = some (s.now + 10000) ∧ t.callUnit.callsChanged = true) ∧
          (∀ g : Face,
            (t.selecting g = false → t.faces.get g = s.faces.get g) ∧
            (t.selecting g = true → (t.faces.get g).sequence = (s.faces.get g).sequence + 1 ∧
              (t.faces.get g).image.map (fun i => i.sequence) = some (s.faces.get g).sequence ∧
              (t.faces.get g).refreshTimer = some (s.now + 200))) ∧
          ((∀ g : Face, (s.faces.get g).awaited.length < 4) → t.faults = s.faults) ∧
          ((∀ b : Fin 4, begins b = false) →
            (∀ p : Side, (s.ports.get p).isUp = true → (s.ports.get p).sending.isSome = true) → s.toll.store = [] →
            t =
              { s with
                joined := true, speed := speed, faces := t.faces, faults := t.faults
                ports := s.portsAfterOffer s.upPorts .cl f
                toll := { s.toll with sink := sink, resendTimer := none }
                response := ⟨.ok, .join, .none⟩ })))

/-- RESTART empties the local queues and the deferred list, hangs up and releases every call, returns calls, lanes,
claims, playout, incidents, readings, warnings and speeds to their start, and builds a SPEED and an image for each
selecting face; queues from elsewhere, held circuits of other stations, the toll unit, the counters, pages, dark
settings, the map, the configuration and the latched faults are kept (R207, R42, R60, R88, R103, R104, R113, R118,
R141, R164). Stated where no handset is off-hook, so that no new call begins, and transmitters are busy. RESTART with
handsets off-hook: when all has been ended, each fitted call box that is off-hook begins a new call under the next
call id, every other record is IDLE, and the station keeps what R207 keeps; before that, where the transmitters are busy, the
HANGUP of each CONNECTED call and of each TAKING or TALKING lane and the RELEASE of each circuit claimed or held have been
offered to the emptied queues (R60, R88). Both change marks are set where a call, a lane or the offer list changed (R88).
It rests on the model's choices of assumptions 11, 31. -/
def Obligations.RestartEmptiesAndKeeps : Prop :=
  (∀ s : State, s.resetHeld = false → s.joined = true → s.CircuitsBound →
      (∀ b : Fin 4, b.val < s.config.boxes → s.calls[b].offHook = false) →
      (∀ p : Side, (s.ports.get p).isUp = true → (s.ports.get p).sending.isSome = true) →
      let speed : Speed :=
        { faces := ⟨⟨(s.config.vmax : Int), 0, none, none, none⟩, ⟨(s.config.vmax : Int), 0, none, none, none⟩⟩
          evaluationTimer := some (s.now + 10000), advertTimer := some (s.now + 5000) }
      let speedFrame := s.newFrame .speed 0 1
        (SpeedFields.payload ⟨(s.config.vmax : Int), (s.config.vmax : Int), s.lit .east, s.lit .west⟩)
      let hangup (station : Nat) (callId : Byte) (towardLane : Bool) :=
        s.newFrame .hangup station 63 [callId, bitByte towardLane]
      ∃ t, exec (.restart []) s = .next t ∧
        t =
          { s with
            circuits := t.circuits, claims := t.claims, calls := t.calls, callUnit := t.callUnit
            playout := t.playout, incidents := ⟨[], []⟩, readings := t.readings
            warnings := noWarnings, speed := speed, ports := t.ports, deferred := t.deferred
            faces := t.faces, response := ⟨.ok, .restart, .none⟩ } ∧
        (∀ p : Side,
          t.ports.get p =
            { s.ports.get p with
              queues := { (s.ports.get p).queues with vl := [], cl := (t.ports.get p).queues.cl, bl := [] }
              waitCL := 0, waitBL := 0 } ∧
          ((s.ports.get p).isUp = false → (t.ports.get p).queues.cl = []) ∧
          ((s.ports.get p).isUp = true → (t.ports.get p).queues.cl.getLast? = some speedFrame)) ∧
        (∀ c : Fin 16,
          t.circuits[c] = match s.circuits[c] with | .heldOther h at' => .heldOther h at' | _ => .free) ∧
        (∀ b : Fin 4,
          t.claims[b] = ⟨false, 0, none⟩ ∧
          (s.calls[b].state = .idle → t.calls[b] = s.calls[b]) ∧
          (s.calls[b].state ≠ .idle →
            t.calls[b] =
              { resetCall with
                offHook := s.calls[b].offHook, callId := s.calls[b].callId, changedAt := s.now } ∧
              t.callUnit.callsChanged = true) ∧
          (∀ (c : Fin 16) (p : Side), s.calls[b].circuit = some c → (s.ports.get p).isUp = true →
            s.newFrame .release 0 63 [circuitByte c] ∈ (t.ports.get p).queues.cl) ∧
          ∀ x callId, s.calls[b].state = .connected → s.calls[b].partner = some x →
            s.calls[b].callId = some callId →
            (∀ p ∈ s.routes x.station, hangup x.station callId true ∈ (t.ports.get p).queues.cl) ∧
            (s.routes x.station = [] → ∃ d ∈ t.deferred, d.frame = hangup x.station callId true)) ∧
        (∀ l : Fin 2,
          t.callUnit.lanes[l] =
            { resetLane with
              changedAt := if s.callUnit.lanes[l].state = .idle then s.callUnit.lanes[l].changedAt else s.now } ∧
          ∀ c, s.callUnit.lanes[l].state = .taking ∨ s.callUnit.lanes[l].state = .talking →
            s.callUnit.lanes[l].call = some c →
            t.callUnit.callsChanged = true ∧
            ∀ p ∈ s.routes c.origin, hangup c.origin c.callId false ∈ (t.ports.get p).queues.cl) ∧
        t.callUnit.nextCallId = s.callUnit.nextCallId ∧ t.callUnit.offers = [] ∧
        ((∃ b : Fin 4, s.calls[b].state ≠ .idle) ∨
            (∃ l : Fin 2, s.callUnit.lanes[l].state ≠ .idle ∨ s.callUnit.lanes[l].outcome ≠ .none) ∨
            s.callUnit.offers ≠ [] →
          t.callUnit.callsChanged = true ∧ t.callUnit.offersChanged = true) ∧
        (∀ b : Fin 4,
          t.playout.boxes[b].store = emptyStore ∧ t.playout.boxes[b].sendSeq = 0 ∧
            t.playout.boxes[b].sendTimer = none ∧
            t.playout.boxes[b].playoutTimer = s.playout.boxes[b].playoutTimer ∧
            t.playout.tones[b].cadence = .none) ∧
        (∀ l : Fin 2,
          t.playout.lanes[l].store = emptyStore ∧ t.playout.lanes[l].sendSeq = 0 ∧
            t.playout.lanes[l].sendTimer = none ∧
            t.playout.lanes[l].playoutTimer = s.playout.lanes[l].playoutTimer) ∧
        (∀ k : Fin 4, t.readings.kinds[k] = { resetReading with counter := s.readings.kinds[k].counter }) ∧
        t.readings.vs = none ∧ t.readings.delivery = s.readings.delivery ∧
        ∀ g : Face,
          (s.selecting g = false → t.faces.get g = s.faces.get g) ∧
          (s.selecting g = true →
            (t.faces.get g).dark = false ∧ (t.faces.get g).faulted = (s.faces.get g).faulted ∧
              (t.faces.get g).missing = 0 ∧ (t.faces.get g).lastAnswer = (s.faces.get g).lastAnswer ∧
              (t.faces.get g).sequence = (s.faces.get g).sequence + 1 ∧
              (t.faces.get g).awaited = [⟨(s.faces.get g).sequence, some (s.now + 150)⟩] ∧
              (t.faces.get g).refreshTimer = some (s.now + 200) ∧
              (t.faces.get g).selector.rotation = t.rotationOf (t.candidates g) ∧
              (t.faces.get g).selector.shown = (t.rotationOf (t.candidates g)).head?)) ∧
  (∀ s : State, s.resetHeld = false → s.joined = true →
      let begins (b : Fin 4) : Bool := decide (b.val < s.config.boxes) && s.calls[b].offHook
      ∃ t, exec (.restart []) s = .next t ∧ t.response = ⟨.ok, .restart, .none⟩ ∧
        (∀ b : Fin 4,
          t.calls[b].offHook = s.calls[b].offHook ∧
          (begins b = false → t.calls[b].state = .idle) ∧
          (begins b = true → t.calls[b].state = .seizing ∧ t.calls[b].incidentTimer = some (s.now + 10000) ∧
            t.calls[b].callId =
              some (s.callUnit.nextCallId +
                BitVec.ofNat 8 (([0, 1, 2, 3] : List (Fin 4)).filter fun x => decide (x < b) && begins x).length) ∧
            t.claims[b].wanted = true ∧ t.callUnit.callsChanged = true)) ∧
        (∀ l : Fin 2, t.callUnit.lanes[l].state = .idle) ∧ t.callUnit.offers = [] ∧
        (∀ (c : Fin 16) h at', s.circuits[c] = .heldOther h at' → t.circuits[c] = .heldOther h at') ∧
        t.joined = true ∧ t.config = s.config ∧ t.map = s.map ∧ t.reach = s.reach ∧ t.pages = s.pages ∧
        t.counts = s.counts ∧ t.faults = s.faults ∧ t.lineFlag = s.lineFlag ∧ t.now = s.now ∧
        t.toll.counter = s.toll.counter ∧ t.toll.sink = s.toll.sink ∧ t.toll.fresh = s.toll.fresh ∧
        t.toll.origins = s.toll.origins ∧ t.toll.delivery = s.toll.delivery ∧
        ((∃ b : Fin 4, s.calls[b].state ≠ .idle) ∨
            (∃ l : Fin 2, s.callUnit.lanes[l].state ≠ .idle ∨ s.callUnit.lanes[l].outcome ≠ .none) ∨
            s.callUnit.offers ≠ [] →
          t.callUnit.callsChanged = true ∧ t.callUnit.offersChanged = true) ∧
        (s.CircuitsBound → s.Busy →
          (∀ b : Fin 4,
            (∀ (c : Fin 16) (p : Side), s.calls[b].circuit = some c → (s.ports.get p).isUp = true →
              s.newFrame .release 0 63 [circuitByte c] ∈ (t.ports.get p).queues.cl) ∧
            ∀ x callId, s.calls[b].state = .connected → s.calls[b].partner = some x →
              s.calls[b].callId = some callId →
              let f := s.newFrame .hangup x.station 63 [callId, 1]
              (∀ p ∈ s.routes x.station, f ∈ (t.ports.get p).queues.cl) ∧
                (s.routes x.station = [] → ∃ d ∈ t.deferred, d.frame = f)) ∧
          ∀ (l : Fin 2) (c : LaneCall),
            s.callUnit.lanes[l].state = .taking ∨ s.callUnit.lanes[l].state = .talking →
            s.callUnit.lanes[l].call = some c →
            let f := s.newFrame .hangup c.origin 63 [c.callId, 0]
            (∀ p ∈ s.routes c.origin, f ∈ (t.ports.get p).queues.cl) ∧
              (s.routes c.origin = [] → ∃ d ∈ t.deferred, d.frame = f)) ∧
        (∀ p : Side, (t.ports.get p).state = (s.ports.get p).state ∧
          (t.ports.get p).history = (s.ports.get p).history ∧
          (t.ports.get p).probeTimer = (s.ports.get p).probeTimer))

/-! ### Payloads -/

/-- Every payload that the part can send is read back as what was put into it, with every field at every value of its range
and whatever bytes follow (R24, R47, R67, R68, R71, R89, R105, R109, R115, R136, R144, R171, R174, R186, R192). -/
def Obligations.PayloadsReadBack : Prop :=
  ∀ more : List Byte,
    (∀ x : ProbeFields,
      (∀ r ∈ x.answeringBeyond, 1 ≤ r.station ∧ r.station ≤ 63 ∧ 1 ≤ r.hops ∧ r.hops ≤ 63) →
      (∀ r ∈ x.sinkBeyond, 1 ≤ r.station ∧ r.station ≤ 63 ∧ 1 ≤ r.hops ∧ r.hops ≤ 63) →
      parseProbe (x.payload ++ more) = some x) ∧
    (∀ v : Voice, v.samples.length = 160 → parseVoice (v.payload ++ more) = some v) ∧
    (∀ c held, parseClaim (claimPayload c held ++ more) = some (c, held)) ∧
    (∀ c, parseRelease (releasePayload c ++ more) = some c) ∧
    (∀ o : OfferFields, 1 ≤ o.count → o.count ≤ 255 → parseOffer (o.payload ++ more) = some o) ∧
    (∀ i l, parseTake (takePayload i l ++ more) = some (i, l)) ∧
    (∀ i b, parseIdBit (refusePayload i b ++ more) = some (i, b) ∧
      parseIdBit (hangupPayload i b ++ more) = some (i, b)) ∧
    (∀ i b, parseIncident (incidentPayload i b ++ more) = some (i, b)) ∧
    (∀ o i, 1 ≤ o → o ≤ 63 → parseClear (clearPayload o i ++ more) = some (o, i)) ∧
    (∀ (k : ReadingKind) (r : PendingReading), readingLow k ≤ r.value → r.value ≤ readingHigh k →
      parseReading (readingPayload k r ++ more) = some (k, r)) ∧
    (∀ x : SpeedFields, IsAdvert x.e → IsAdvert x.w → parseSpeed (x.payload ++ more) = some x) ∧
    (∀ p : Page, 1 ≤ p.priority → p.priority ≤ 7 → (p.faceE = true ∨ p.faceW = true) → p.pictogram ≤ 31 →
      (∀ v ∈ p.validity, 1 ≤ v ∧ v ≤ 1440) →
      1 ≤ p.scope.matchBits → p.scope.matchBits ≤ 63 → p.scope.mask ≤ 63 → 1 ≤ p.scope.hopLimit →
      p.scope.hopLimit ≤ 63 →
      (∀ l ∈ [p.line1, p.line2, p.line3], l.length ≤ 18 ∧ ∀ c ∈ l, 32 ≤ c.toNat ∧ c.toNat ≤ 95) →
      parsePage (p.payload ++ more) = some (.publish p)) ∧
    (∀ n v (x : Scope), 1 ≤ x.matchBits → x.matchBits ≤ 63 → x.mask ≤ 63 → 1 ≤ x.hopLimit → x.hopLimit ≤ 63 →
      parsePage (withdrawalPayload n v x ++ more) = some (.withdraw n v x)) ∧
    (∀ (q base : Word) (fresh : Bool) (r : TollRecord), r.amount ≤ 65535 → r.timestamp.length = 6 →
      4 ≤ r.tag.length → r.tag.length ≤ 12 → (∀ p ∈ r.plate, p.length = 8) →
      parseToll (TollFrame.payload ⟨q, base, fresh, .record r⟩ ++ more) = some ⟨q, base, fresh, .record r⟩) ∧
    (∀ (q base : Word) (fresh : Bool) (r : Report), (∀ i : Fin 8, r.lanes[i].Within) →
      parseToll (TollFrame.payload ⟨q, base, fresh, .report r⟩ ++ more) = some ⟨q, base, fresh, .report r⟩) ∧
    ∀ w : Word, parseWord (wordBytes w ++ more) = some w

/-! ### What every step keeps -/

/-- Every step keeps the ports' queues within their capacities and their counts in range (R14, R29), leaves nothing
but probes at a port that is not UP or DEGRADED, and keeps an end port DOWN and silent (R19, R20). Every step keeps
the station map in order, one entry for a station and none for the own number (R22), and the deferred list within 16
frames with one CLAIM or RELEASE of a circuit and one TAKE of a lane (R38). -/
def Obligations.StepsKeepPortsMapAndDeferred : Prop :=
  (∀ s t : State, s.PortsWithin → s.PortsQuiet → step s = .next t → t.PortsWithin ∧ t.PortsQuiet) ∧
  (∀ s t : State, s.MapInOrder → s.DeferredInOrder → step s = .next t → t.MapInOrder ∧ t.DeferredInOrder)

/-- Every step keeps circuits and calls bound one to one: a circuit that a call claims or holds is the one its record names,
an IDLE call has none and wants none, and a call that waits to claim has none (R45, R46, R56). -/
def Obligations.StepsKeepCircuitsBound : Prop :=
  ∀ s t : State, s.CircuitsBound → step s = .next t → t.CircuitsBound

/-- Every step keeps the jitter stores in sequence order with at most four blocks (R94 to R97), the lists of calls, incidents,
readings and images within their lengths with no key twice (R73, R104, R116, R159), the counters at or below their top
values (R184, R190), and each fault latched exactly while its count is above 0 (R201). -/
def Obligations.StepsKeepRecordsInRange : Prop :=
  (∀ s t : State, s.StoresInOrder → step s = .next t → t.StoresInOrder) ∧
    (∀ s t : State, s.ListsWithin → step s = .next t → t.ListsWithin) ∧
    (∀ s t : State, s.CountsWithin → step s = .next t → t.CountsWithin) ∧
    ∀ s t : State, s.FaultsWithin → step s = .next t → t.FaultsWithin

/-- Every step keeps each shown speed and each held advert a multiple of 10 from 40 to 130, with the speed limits in their
ranges (R123, R129, R131, R136); at a JOINED station it keeps D at or below Vmax, at or below N plus 20 while N is held, and at
or below the greater of Vmin and 40 plus 20 d while an incident lies at distance d ahead (R131, R134). It gives a face that is not
selecting the empty selector and a selecting one at most three different items (R150, R152), and keeps the selector of a
selecting face current: the shown item is always a candidate of the top priority (R152, R153). -/
def Obligations.StepsKeepSpeedsAndSelectors : Prop :=
  (∀ s t : State, s.SpeedsWithin → step s = .next t → t.SpeedsWithin) ∧
  (∀ s t : State, s.ListsWithin → s.SpeedsBounded → step s = .next t → t.SpeedsBounded) ∧
  (∀ (s : State) (f : Face) (e : Incident), s.SpeedsBounded → s.joined = true → e ∈ s.incidents.table →
    e.side.isAhead f = true →
    (s.speed.faces.get f).d ≤ max (s.config.vmin : Int) (40 + 20 * (e.distance : Int))) ∧
  (∀ s t : State, s.SelectorsInOrder → step s = .next t → t.SelectorsInOrder) ∧
  ∀ s t : State, s.SelectorsInOrder → s.SelectorsCurrent → step s = .next t → t.SelectorsCurrent

/-- Every step keeps the toll store within 256 records and one report, its entries numbered in a row up to the counter, at
most eight of them SENT and these the oldest (R166, R167, R172, R181). -/
def Obligations.StepsKeepTheTollWindow : Prop :=
  ∀ s t : State, s.TollWithin → s.TollWindow → step s = .next t → t.TollWithin ∧ t.TollWindow

/-- What every step keeps holds right after pin reset, whatever the inputs show when it ends. (`State.reset` is the part that the
inputs of assumption 2 give.)
It rests on the model's choices of assumptions 2, 13, 23. -/
def Obligations.InvariantsHoldAtReset : Prop :=
  let kept (t : State) : Prop :=
    t.PortsWithin ∧ t.PortsQuiet ∧ t.MapInOrder ∧ t.DeferredInOrder ∧ t.CircuitsBound ∧ t.StoresInOrder ∧
      t.ListsWithin ∧ t.CountsWithin ∧ t.FaultsWithin ∧ t.SpeedsWithin ∧ t.SpeedsBounded ∧ t.SelectorsInOrder ∧
      t.SelectorsCurrent ∧ t.TollWithin ∧ t.TollWindow
  kept State.reset ∧ ∀ (i : ResetInputs) (s : State), ∃ t, exec (.pinResetEnds i) s = .next t ∧ kept t
end

