-- ==== Sys2Proof/Laws/Responses.lean ====
section
/-! SUPPORT. Byte strings in words, and what a frame clocks out (R195, R203). -/

namespace Sys2Proof.Machine

open Sys2Proof

theorem packBytes_length : ∀ l : List Byte, (packBytes l).length = (l.length + 1) / 2
  | [] => rfl
  | [_] => by simp [packBytes]
  | _ :: _ :: rest => by
    simp only [packBytes, List.length_cons, packBytes_length rest]
    omega

theorem wordBytes_wordOf (a b : Byte) : wordBytes (wordOf a b) = [a, b] := by
  have h (i : Nat) : (wordOf a b).getLsbD i = if i < 8 then b.getLsbD i else a.getLsbD (i - 8) := by
    simpa [wordOf, cond_eq_ite] using BitVec.getLsbD_append (x := a) (y := b) (i := i)
  simp only [wordBytes, hiByte, loByte, List.cons.injEq, and_true]
  constructor <;> ext i hi <;> simp [h, hi, BitVec.getLsbD_eq_getElem]

/-- The packed bytes read back. -/
theorem take_bytesOfWords_packBytes : ∀ l : List Byte, (bytesOfWords (packBytes l)).take l.length = l
  | [] => rfl
  | [a] => by simp [packBytes, bytesOfWords, wordBytes_wordOf]
  | a :: b :: rest => by
    have ih := take_bytesOfWords_packBytes rest
    simp only [bytesOfWords] at ih
    simp [packBytes, bytesOfWords, wordBytes_wordOf, ih]

/-- A byte string that a response or an argument carries reads back, with the words that follow it. -/
theorem takePacked_stringWords (max : Nat) (l : List Byte) (rest : List Word) (h : l.length ≤ max) (hm : max < 65536) :
    takePacked max (stringWords l ++ rest) = some (l, rest) := by
  have hw : (natWord l.length).toNat = l.length := by simp [natWord]; omega
  simp [takePacked, stringWords, hw, h, ← packBytes_length, take_bytesOfWords_packBytes]

/-- A part held in reset has nothing to clock out. -/
@[simp] theorem State.outputFrame_held (s : State) (h : s.resetHeld = true) : s.outputFrame = [] := by
  simp [State.outputFrame, h]

@[simp] theorem State.clockedOut_length (n : Nat) (s : State) : (s.clockedOut n).length = n := by
  simp [State.clockedOut]

end Sys2Proof.Machine
end

