-- ==== Sys2Proof/WellFormed.lean ====
section
/-! DEFINITION. Which commands and events the world can bring: the ranges that the rules give the parts of an event that is
named from outside. The meanings are total, so `exec` needs none of these. -/

namespace Sys2Proof

open Sys2Proof.Machine

/-- At most as many argument words as the count field of the command word can say (R195). -/
def argsFit (args : List Word) : Bool := args.length ≤ 255

/-- The event or command lies in its ranges: station numbers 1..63 (R22, R73, R104), a failed-pixel count of 16 bits (R159),
frame words that fail a test of R196, argument counts of one byte (R195). -/
def Instr.wellFormed (i : Instr) : Bool :=
  match i with
  | .lineFrameArrives _ _ => true
  | .signalDetectLost _ => true
  | .probeTimerExpiry _ => true
  | .stationMapAgeOut station => isStation station
  | .probeSendTimerExpiry _ => true
  | .transmitComplete _ => true
  | .claimTimerExpiry _ => true
  | .holdRefreshTimerExpiry _ => true
  | .assertHoldOffExpiry _ => true
  | .claimWaitTimerExpiry _ => true
  | .heldOtherAgeOut _ => true
  | .hookOffHook _ => true
  | .hookOnHook _ => true
  | .offerTimerExpiry _ => true
  | .incidentRefreshTimerExpiry _ => true
  | .partnerSilenceTimerExpiry _ => true
  | .offerEntryAgeOut origin _ => isStation origin
  | .takeTimerExpiry _ => true
  | .laneSilenceTimerExpiry _ => true
  | .callBoxSendTimerExpiry _ _ => true
  | .laneSendTimerExpiry _ _ => true
  | .playoutTick _ => true
  | .cadencePhaseEnd _ => true
  | .incidentAgeOut origin _ => isStation origin
  | .clearanceTimerExpiry origin _ => isStation origin
  | .readingAgeOut _ => true
  | .rateTimerExpiry _ => true
  | .evaluationTimerExpiry => true
  | .advertTimerExpiry => true
  | .heldAdvertAgeOut _ => true
  | .pageMinuteTimerExpiry _ => true
  | .dwellTimerExpiry _ => true
  | .flashTimerExpiry _ => true
  | .imageRefreshTimerExpiry _ => true
  | .answerWindowExpiry _ _ => true
  | .signAnswer _ record => (match record.reply with | .pixelFault n => n ≤ 65535 | _ => true)
  | .resendTimerExpiry => true
  | .cabinetFrameFault words => (frameFault words).isSome
  | .fetch args => argsFit args
  | .configure args => argsFit args
  | .join args => argsFit args
  | .restart args => argsFit args
  | .readLine args => argsFit args
  | .readMap args => argsFit args
  | .readCircuits args => argsFit args
  | .readCalls args => argsFit args
  | .readOffers args => argsFit args
  | .takeCall args => argsFit args
  | .endCall args => argsFit args
  | .readIncidents args => argsFit args
  | .clearIncident args => argsFit args
  | .submitReading args => argsFit args
  | .readReadings args => argsFit args
  | .fetchReading args => argsFit args
  | .readSpeed args => argsFit args
  | .publishPage args => argsFit args
  | .withdrawPage args => argsFit args
  | .readPage args => argsFit args
  | .readSign args => argsFit args
  | .setFaceDark args => argsFit args
  | .submitToll args => argsFit args
  | .readTollStore args => argsFit args
  | .fetchDelivery args => argsFit args
  | .issueEpoch args => argsFit args
  | .readCounters args => argsFit args
  | .readFaults args => argsFit args
  | .clearFaults args => argsFit args
  | .pinResetAsserted => true
  | .pinResetEnds _ => true
  | .signalDetectReturns _ => true

end Sys2Proof
end

