-- ==== Sys2Proof/Tests/Slice0.lean ====
section
/-! SUPPORT. Tests: what the range checks refuse, worked values of the manual, and states that meet the hypotheses of the
statements, clause by clause. -/

namespace Sys2Proof.Tests

open Sys2Proof Sys2Proof.Machine

/-! ### Helpers -/

/-- A frame of hop limit 63. -/
def fr (kind origin target hops : Nat) (payload : List Byte) : Frame := ⟨kind, origin, target, hops, 63, payload⟩

/-- A port in UP that is sending. -/
def busy : Port := { resetPort with state := .up, probeTimer := some 300, sending := some (fr 11 5 0 0 [120, 120, 3]) }

/-- A JOINED station 5 with every role, four call boxes, two lanes and both faces, between two busy ports. -/
def base : State :=
  { State.reset with
    joined := true, number := 5, ports := ⟨busy, busy⟩
    config := ⟨true, true, true, true, true, 4, 2, 120, 40, 3⟩ }

/-- The base station in STARTING. -/
def starting : State := { base with joined := false }

/-- The base station with another East port. -/
def withEast (x : Port) : State := { base with ports := ⟨x, busy⟩ }

/-- The base station without the sink role. -/
def noSink : State := { base with config := { base.config with sink := false } }

/-- What follows a command. -/
def after (i : Instr) (s : State) : State := match exec i s with | .next t => t | _ => s

/-- A call of port 0 in a state, with call id 7. -/
def call (st : CallState) : CallRecord := { resetCall with offHook := true, state := st, callId := some 7 }

/-- The base station with a call at port 0. -/
def withCall (r : CallRecord) : State := { base with calls := base.calls.set 0 r }

/-- The base station with a lane 0. -/
def withLane (r : OpLane) : State := { base with callUnit := { base.callUnit with lanes := base.callUnit.lanes.set 0 r } }

/-- A lane of station 9's call 7. -/
def lane (st : LaneState) : OpLane :=
  { resetLane with state := st, call := some ⟨9, 7, 3, .east⟩, takeSends := some 1, takeTimer := some 2000 }

/-- A port in UP whose transmitter is IDLE. -/
def upIdle : Port := { resetPort with state := .up, probeTimer := some 300 }

theorem test_base_is_busy : base.Busy := by intro p; cases p <;> decide +kernel

/-! ### What the range checks refuse -/

theorem test_wellFormed_refuses_map_station_0 : (Instr.stationMapAgeOut 0).wellFormed = false := by decide +kernel
theorem test_wellFormed_refuses_map_station_64 : (Instr.stationMapAgeOut 64).wellFormed = false := by decide +kernel
theorem test_wellFormed_refuses_offer_station_0 : (Instr.offerEntryAgeOut 0 1).wellFormed = false := by decide +kernel
theorem test_wellFormed_refuses_incident_station_64 : (Instr.incidentAgeOut 64 1).wellFormed = false := by decide +kernel
theorem test_wellFormed_refuses_clearance_station_0 : (Instr.clearanceTimerExpiry 0 1).wellFormed = false := by decide +kernel
theorem test_wellFormed_refuses_pixel_count :
    (Instr.signAnswer .east ⟨true, 0, .pixelFault 65536⟩).wellFormed = false := by decide +kernel
theorem test_wellFormed_refuses_good_frame_as_fault :
    (Instr.cabinetFrameFault (encodeCabinetFrame .fetch [])).wellFormed = false := by decide +kernel
theorem test_wellFormed_refuses_256_arguments :
    (Instr.fetch (List.replicate 256 0)).wellFormed = false := by decide +kernel
theorem test_wellFormed_admits :
    (Instr.stationMapAgeOut 63).wellFormed = true ∧ (Instr.fetch []).wellFormed = true ∧
      (Instr.cabinetFrameFault []).wellFormed = true := by decide +kernel

/-! ### Worked values of the manual -/

/-- R2: the check of the nine characters "123456789". -/
theorem test_check_of_123456789 : crc [0x31, 0x32, 0x33, 0x34, 0x35, 0x36, 0x37, 0x38, 0x39] = 0x29B1 := by decide +kernel

/-- The worked sequence of section 2.2 up to take 9, less the voice block that joins on the way. -/
theorem test_insertion_guarantee :
    Port.takes 8
        { busy with
          queues :=
            { vt := [fr 1 1 0 0 [], fr 1 1 0 0 []], vl := [], ct := List.replicate 6 (fr 4 1 0 0 []),
              cl := [fr 5 5 0 0 []], bt := List.replicate 3 (fr 10 1 0 0 []), bl := [fr 13 5 0 0 []] } } =
      [.vt, .vt, .ct, .ct, .ct, .ct, .cl, .bl] := by decide +kernel

/-- A voice block of one sample, for the worked sequence of section 5.4. -/
def blk (n : Byte) : Block := ⟨n, [n]⟩

/-- Section 5.4, from the arrival of block 5: a full store gives up block 4, and the expected block is 5. -/
theorem test_fifth_block_forces_out_the_earliest :
    ((((⟨.playing 4, [blk 4], some [3], 0⟩ : JitterStore).arrive (blk 5)).arrive (blk 6)).arrive (blk 7)).arrive (blk 8) =
      ⟨.playing 5, [blk 5, blk 6, blk 7, blk 8], some [3], 0⟩ := by decide +kernel

/-- Section 5.4: with block 2 missing the tick repeats block 1, and block 2 comes too late. -/
theorem test_missing_block_is_repeated :
    (⟨.playing 2, [blk 3], some [1], 0⟩ : JitterStore).tick = ([1], ⟨.playing 3, [blk 3], some [1], 1⟩) ∧
      (⟨.playing 3, [blk 3], some [1], 1⟩ : JitterStore).arrive (blk 2) = ⟨.playing 3, [blk 3], some [1], 1⟩ := by
  decide +kernel

/-- The worked sequence of section 6.3: ice forms at the fourth submission and thaws at the eighth. -/
theorem test_ice_forms_and_thaws :
    ([false, false, true, true, true, false, false, false].scanl (fun w q => w.iceBy q) noWarnings).map
        (fun w => (w.icyRun, w.thawRun, w.ice)) =
      [(0, 0, false), (0, 1, false), (0, 2, false), (1, 0, false), (2, 0, true), (2, 0, true), (0, 1, true),
        (0, 2, true), (0, 3, false)] := by decide +kernel

/-- The limits of section 7.5: storm, its rounding, dense fog and near fog. -/
theorem test_limits_of_the_local_advisory :
    capWind 120 (some 200) = -20 ∧ localAdvisory 40 120 (quantised (-20)) = 40 ∧ capWind 120 (some 205) = -25 ∧
      quantised (-25) = -30 ∧ capGrip 60 (some 4) = 27 ∧ capVis 120 (some 79) = 39 ∧
      localAdvisory 40 120 (quantised 39) = 40 ∧ capVis 120 (some 227) = 76 ∧
      localAdvisory 40 120 (quantised 76) = 70 ∧ capInc 120 (some 1) = 60 := by decide +kernel

/-- Section 7.5: a SPEED from station 13 with E advert 40 brings D from 100 to 60 at once, on the E face alone. -/
theorem test_speed_frame_lowers_the_face :
    let s : State := { base with speed := { base.speed with faces := ⟨startFaceSpeed 100, startFaceSpeed 100⟩ }
                                 readings := { base.readings with kinds := base.readings.kinds.set 1 { resetReading with value := some 2 } } }
    let t := after (.lineFrameArrives .east (fr 11 13 0 0 [40, 120, 3]).bytes) s
    (t.speed.faces.east.d, t.speed.faces.west.d) = (60, 100) := by decide +kernel

/-- The worked sequence of section 11.1: the second FETCH_READING empties the queue, the next is refused as EMPTY. -/
theorem test_fetch_reading_to_the_end :
    let e : HeardReading := ⟨9, .gust, 30, false, 4⟩
    let s : State := { base with readings := { base.readings with delivery := [e] } }
    (after (.fetchReading []) s).readings.delivery = [] ∧
      (after (.fetchReading []) (after (.fetchReading []) s)).response.code = .empty := by decide +kernel

/-- Section 11.1: a corrupted check gives CRC_FAULT with FETCH as the command answered, and nothing is executed. -/
theorem test_corrupted_check_is_a_fault :
    (after (decodeCabinetFrame [0x1400, 0x1234]) base).response = ⟨.crcFault, .fetch, .none⟩ := by decide +kernel

/-- FETCH with its check words, written out from R195: command code 0, no arguments. -/
theorem test_fetch_frame_decodes : decodeCabinetFrame [0x0000, crcWords [0x0000], 7, 7] = .fetch [] := by decide +kernel

/-- A PROBE written out from R1 and R24: JOINED, both roles, an answering station 12 three hops beyond, no sink beyond. -/
theorem test_probe_payload_reads :
    parseProbe [1, 3, 12, 3, 0, 0] = some ⟨true, true, true, some ⟨12, 3⟩, none⟩ := by decide +kernel

/-- Section 10.3: EPOCH 5 at a station of epoch 4 with no sink chosen enters report 204 in the store. -/
theorem test_mark_enters_a_report :
    let s : State := { noSink with
      toll := { resetToll with counter := 204 }, counts := { base.counts with epoch := some 4, lastRecord := some 203 } }
    let t := s.applyMark 5
    t.toll.store.map (fun e => (e.sequence, e.sent, e.content.isReport)) = [(204, false, true)] ∧
      t.counts.epoch = some 5 ∧ t.toll.counter = 205 := by decide +kernel

/-- R205 and R206: a station of number 0 is not let join. -/
theorem test_number_0_does_not_join :
    (after (.join []) { starting with number := 0 }).response.code = .wrongState := by decide +kernel

/-- R44's queues at reset: nothing is queued, and the first probe is due at once. -/
theorem test_reset_probes_at_once : State.reset.ports.east.probeSendTimer = some 0 := by decide +kernel

/-! ### States that meet the hypotheses of the statements

One theorem a statement, with a conjunct for each clause that has hypotheses of its own. -/

theorem test_hyps_FrontCommandIsExecutedOnTheRest : State.reset.pending = [] := by decide +kernel

theorem test_hyps_HeldPartFollowsItsInputsAlone :
    let s : State := { State.reset with resetHeld := true }
    s.resetHeld = true ∧ isInput (.fetch []) = false ∧ s.joined = false := by decide +kernel

/-- A relayed frame of an unassigned kind. -/
def other : Frame := fr 16 9 0 0 [1]

theorem test_hyps_FramesAreJudgedByPortState :
    (base.resetHeld = false ∧ (withEast { busy with endStrap := true }).ports.east.endStrap = true) ∧
      busy.endStrap = false ∧ resetPort.state = .down ∧ parseFrame [] = none ∧
      ({ busy with state := .listening } : Port).state = .listening ∧
      (parseFrame other.bytes = some other ∧ other.kind ≠ 0) ∧ busy.isUp = true ∧
      (List.replicate 32 true).length ≤ 32 ∧ busy.state = .up ∧
      ({ busy with state := .degraded } : Port).state = .degraded := by decide +kernel

theorem test_hyps_OwnOriginFrameLatchesNumberClash :
    (base.resetHeld = false ∧ busy.endStrap = false ∧ parseFrame (fr 16 5 0 0 []).bytes = some (fr 16 5 0 0 []) ∧
      (fr 16 5 0 0 []).origin = base.number ∧ base.ports.east.isUp = true) ∧
      (parseFrame (fr 0 5 0 0 []).bytes = some (fr 0 5 0 0 []) ∧ (fr 0 5 0 0 []).origin = base.number ∧
        resetPort.isUp = false ∧ resetPort.endStrap = false ∧ (fr 0 5 0 0 []).kind = 0) := by decide +kernel

theorem test_hyps_GoodFrameSetsItsMapEntry :
    base.resetHeld = false ∧ base.ports.east.endStrap = false ∧ parseFrame other.bytes = some other ∧
      other.origin ≠ base.number ∧ base.ports.east.isUp = true := by decide +kernel

/-- Queues that hold one frame each. -/
def oneEach : Queues := ⟨[other], [other], [other], [other], [other], [other]⟩

/-- Queues that are full. -/
def full : Queues :=
  ⟨List.replicate 8 other, List.replicate 4 other, List.replicate 8 other, List.replicate 16 other,
    List.replicate 16 other, List.replicate 16 other⟩

theorem test_hyps_RelayByTransitQueue :
    base.Arrives .east other.bytes other ∧ 16 ≤ other.kind ∧
      ((fr 1 9 5 0 []).target = base.number ∧ (fr 1 9 6 63 []).hopLimit ≤ (fr 1 9 6 63 []).hops ∧
        (withEast resetPort).ports.east.isUp = false) ∧
      (other.target ≠ base.number ∧ other.hops < other.hopLimit ∧ busy.sending.isSome = true ∧
        (busy.queues.get .bt).length < QueueName.bt.capacity) ∧
      QueueName.vt.capacity ≤ (full.get .vt).length ∧ (classOf 1).transitQueue = .vt ∧
      QueueName.ct.capacity ≤ (full.get .ct).length ∧ (classOf 2).transitQueue ≠ .vt ∧
      (upIdle.isUp = true ∧ upIdle.sending = none ∧ upIdle.queues = emptyQueues) := by
  unfold State.Arrives; decide +kernel

/-- A probe of the JOINED station 9, which has both roles. -/
def probe : Frame := ⟨0, 9, 0, 0, 1, [1, 3, 0, 0, 63, 62]⟩

/-- What that probe says. -/
def probeSays : ProbeFields := ⟨true, true, true, none, some ⟨63, 62⟩⟩

theorem test_hyps_ProbesRaiseThePortAndItsView :
    base.ValidProbe .east probe.bytes probe probeSays ∧ busy.isUp = true ∧
      ((withEast resetPort).ValidProbe .east probe.bytes probe probeSays ∧ resetPort.state = .down) ∧
      ((withEast { resetPort with state := .listening, probes := 1 }).ValidProbe .east probe.bytes probe probeSays ∧
        ({ resetPort with state := .listening, probes := 1 } : Port).probes < 2) ∧
      (withEast { resetPort with state := .listening, probes := 2 }).ValidProbe .east probe.bytes probe probeSays ∧
      2 ≤ ({ resetPort with state := .listening, probes := 2 } : Port).probes := by
  unfold State.ValidProbe; decide +kernel

/-- A station whose East port is one probe from UP, with frames that wait in the deferred list. -/
def rising (s : State) : State :=
  { s with
    ports := ⟨{ resetPort with state := .listening, probes := 2, sending := some probe }, busy⟩
    deferred := [⟨.plain, fr 15 5 0 0 [0, 1]⟩, ⟨.release 3, fr 3 5 0 0 [4]⟩] }

theorem test_hyps_ProbesRaiseThePortAndItsView_reoffer :
    (∀ s ∈ [rising base, rising noSink], s.ValidProbe .east probe.bytes probe probeSays) ∧ probe.hopLimit = 1 ∧
      ((rising base).ports.east.state = .listening ∧ 2 ≤ (rising base).ports.east.probes ∧
        (rising base).ports.east.sending.isSome = true) ∧
      ((rising base).Busy ∧ (rising noSink).Busy) ∧
      ((rising base).config.sink = true ∧ (rising noSink).joined = true ∧ (rising noSink).config.sink = false) ∧
      (after (.lineFrameArrives .east probe.bytes) (rising base)).deferred = [] := by
  refine ⟨by unfold State.ValidProbe; decide +kernel, by decide, by decide +kernel,
    ⟨?_, ?_⟩, by decide +kernel, by decide +kernel⟩ <;> intro p <;> cases p <;> decide +kernel

/-- A map entry of station 9. -/
def heard9 : MapEntry := ⟨9, .east, 4, 0⟩

/-- The base station with station 9 in its map, a call that is CONNECTED with it and a lane that is TALKING with it. -/
def linked : State :=
  { base with
    map := [heard9]
    calls := base.calls.set 0 { call .connected with partner := some ⟨9, 1, .east⟩, silenceTimer := some 2000 }
    callUnit := { base.callUnit with lanes := base.callUnit.lanes.set 0 (lane .talking) } }

theorem test_hyps_LineLossesReachTheBlocks :
    (base.resetHeld = false ∧ base.ports.east.state ≠ .down ∧ base.ports.east.probeTimer = some 300) ∧
      ((withEast resetPort).ports.east.state = .down ∧ resetPort.probeTimer = none) ∧
      base.mapEntry 9 = none ∧ linked.mapEntry 9 = some heard9 ∧
      (linked.calls[(0 : Fin 4)].state = .connected ∧ linked.calls[(0 : Fin 4)].partner = some ⟨9, 1, .east⟩) ∧
      linked.callUnit.lanes[(0 : Fin 2)].state = .talking ∧
      linked.callUnit.lanes[(0 : Fin 2)].call = some ⟨9, 7, 3, .east⟩ := by decide +kernel

theorem test_hyps_ProbeSentEveryPeriod :
    resetPort.probeSendTimer = some 0 ∧
      (busy.sending.isSome = true ∧ ({ full with cl := List.replicate 15 other } : Queues).cl.length < 16) ∧
      16 ≤ full.cl.length ∧
      (resetPort.sending = none ∧ resetPort.queues = emptyQueues ∧ State.reset.deferred = []) := by decide +kernel

theorem test_hyps_TransmitterTakesInOrder_follow_up :
    (base.Busy ∧ (base.ports.get .east).sending.isSome = true) ∧
      ({ busy with waitCL := 4, queues := oneEach } : Port).takeNext.2 = some .cl ∧
      ({ busy with waitBL := 4, queues := oneEach } : Port).takeNext.2 = some .bl ∧
      ({ busy with queues := oneEach } : Port).takeNext.2 = some .vt ∧
      (({ noSink with toll := { resetToll with sink := .via .east 9 } } : State).sinkOn .east = true ∧
        base.sinkOn .east = false) :=
  ⟨⟨test_base_is_busy, by decide +kernel⟩, by decide +kernel⟩

theorem test_hyps_TransmitterTakesInOrder :
    (base.resetHeld = false ∧ base.ports.east.isUp = true ∧ base.ports.east.sending.isSome = true ∧
      base.deferred = [] ∧ base.sinkOn .east = false) ∧
      (({ busy with waitCL := 4, queues := oneEach } : Port).waitCL = 4 ∧ oneEach.cl = other :: []) ∧
      (({ busy with waitBL := 4, queues := oneEach } : Port).waitBL = 4 ∧ busy.waitCL ≠ 4 ∧
        oneEach.bl = other :: []) ∧
      oneEach.get .vt = other :: [] ∧ (busy.queues.vt = [] ∧ busy.queues.bl = []) ∧
      (resetPort.isUp = false ∧
        ({ emptyQueues with cl := [probe] } : Queues) = { emptyQueues with cl := probe :: [] } ∧ probe.kind = 0 ∧
        resetPort.sending = none) ∧
      (let x : Port := { busy with waitCL := 3, queues := oneEach }
       x.waitCL ≤ 4 ∧ x.queues.cl ≠ [] ∧ QueueName.cl ∉ x.takes 3 ∧ x.waitBL ≤ 4 ∧ x.queues.bl ≠ [] ∧
        QueueName.bl ∉ x.takes 3) := by decide +kernel

theorem test_hyps_SteeringQueuesAndDefers : classOf 2 ≠ .voice ∧ classOf 10 ≠ .voice := by decide +kernel

/-- A CLAIM of circuit 4 by a station. -/
def claim (origin : Nat) (held : Bool) : Frame := fr 2 origin 0 0 [4, bitByte held]

/-- A RELEASE of circuit 4 by station 9. -/
def release : Frame := fr 3 9 0 0 [4]

/-- The base station with its entry of circuit 4. -/
def withCircuit (c : Circuit) : State := { base with circuits := base.circuits.set 3 c }

theorem test_hyps_CircuitTableRecordsOthers :
    (base.Arrives .east (claim 9 true).bytes (claim 9 true) ∧ base.joined = true ∧
      (claim 9 true).TakenBy .claim true base.number ∧ parseClaim (claim 9 true).payload = some (3, true)) ∧
      base.circuits[(3 : Fin 16)] = .free ∧
      ((withCircuit (.heldOther 9 0)).circuits[(3 : Fin 16)] = .heldOther 9 0 ∧ (claim 9 true).origin ≤ 9) ∧
      ((withCircuit (.heldOther 8 0)).circuits[(3 : Fin 16)] = .heldOther 8 0 ∧ 8 < (claim 9 true).origin) ∧
      base.Arrives .east release.bytes release ∧ release.TakenBy .release true base.number ∧
      parseRelease release.payload = some 3 := by
  unfold State.Arrives Frame.TakenBy; decide +kernel

/-- A VOICE frame from a call box, circuit 4, call 7, with no end of its samples. -/
def voice (target : Nat) (circuit : Byte) : Frame := fr 1 9 target 0 ([circuit, 7, 0] ++ List.replicate 160 213)

/-- Such a frame reads back, whatever its check. -/
theorem test_voice_reads_back :
    parseFrame (voice 5 4).bytes = some (voice 5 4) ∧ parseFrame (voice 6 4).bytes = some (voice 6 4) ∧
      parseFrame (voice 5 0x84).bytes = some (voice 5 0x84) := by
  have key : ∀ f ∈ [voice 5 4, voice 6 4, voice 5 0x84], parseFrame f.bytes = some f := by
    intro f hf
    have hr : f.inRange = true ∧ f.payload.length = 163 ∧ byteOf 163 = 163 ∧
        (byteOf f.kind).toNat = f.kind ∧ (byteOf f.origin).toNat = f.origin ∧ (byteOf f.target).toNat = f.target ∧
        (byteOf f.hops).toNat = f.hops ∧ (byteOf f.hopLimit).toNat = f.hopLimit := by
      revert f; decide +kernel
    obtain ⟨hr, hl, hb, h1, h2, h3, h4, h5⟩ := hr
    simp [parseFrame, Frame.bytes, Frame.body, hl, hb, h1, h2, h3, h4, h5, hr, wordBytes]
  exact ⟨key _ (by simp), key _ (by simp), key _ (by simp)⟩

theorem test_hyps_RivalClaimsAreSettled :
    (base.Arrives .east (claim 6 false).bytes (claim 6 false) ∧ (claim 6 false).TakenBy .claim true 5 ∧
      parseClaim (claim 6 false).payload = some (3, false) ∧ base.number < (claim 6 false).origin) ∧
      (parseFrame (claim 4 false).bytes = some (claim 4 false) ∧ (claim 4 false).origin < base.number) ∧
      (withCircuit (.claiming 0 (some 40))).circuits[(3 : Fin 16)] = .claiming 0 (some 40) ∧
      base.claims[(0 : Fin 4)].yields < 2 ∧ base.LowestFree 0 ∧
      ({ base with circuits := Vector.replicate 16 (.heldOther 9 0) } : State).NoneFree ∧
      (withCircuit (.heldOwn 0 (some 1000) none)).circuits[(3 : Fin 16)] = .heldOwn 0 (some 1000) none ∧
      base.Arrives .east (voice 6 4).bytes (voice 6 4) ∧
      ((voice 6 4).kind = FrameKind.voice.code ∧ (voice 6 4).target ≠ base.number ∧
        parseVoiceShown (voice 6 4).payload = some (3, false)) ∧
      parseVoiceShown (voice 6 0x84).payload ≠ some (3, false) ∧
      (base.Arrives .east (voice 5 4).bytes (voice 5 4) ∧ (voice 5 4).target = base.number ∧
        parseVoiceShown (voice 5 4).payload = some (3, false) ∧
        base.Arrives .east (voice 5 0x84).bytes (voice 5 0x84) ∧
        parseVoiceShown (voice 5 0x84).payload ≠ some (3, false)) := by
  refine ⟨by unfold State.Arrives Frame.TakenBy; decide +kernel, by decide +kernel, by decide +kernel, by decide +kernel,
    by unfold State.LowestFree; decide +kernel, by unfold State.NoneFree; decide +kernel, by decide +kernel,
    ⟨by decide, by decide, by decide, test_voice_reads_back.2.1, by decide⟩, by decide +kernel, by decide +kernel,
    ⟨by decide, by decide, by decide, test_voice_reads_back.1, by decide⟩, by decide +kernel, by decide +kernel,
    ⟨by decide, by decide, by decide, test_voice_reads_back.2.2, by decide⟩, by decide +kernel⟩

theorem test_hyps_CircuitTimersRunOut :
    (base.resetHeld = false ∧
      (withCircuit (.claiming 0 (some 40))).circuits[(3 : Fin 16)] = .claiming 0 (some 40) ∧
      (withCall { call .seizing with circuit := some 3 }).calls[(0 : Fin 4)].circuit = some 3 ∧
      (call .seizing).state = .seizing) ∧
      ((call .offering).state = .offering ∧ (call .offering).offerTimer = none ∧
        (call .connected).state = .connected) ∧
      (withCircuit (.heldOwn 0 (some 1000) (some 100))).circuits[(3 : Fin 16)] =
        .heldOwn 0 (some 1000) (some 100) ∧
      (withCircuit (.heldOther 9 0)).circuits[(3 : Fin 16)] = .heldOther 9 0 ∧
      (let s : State := { base with claims := base.claims.set 0 ⟨true, 3, some 1000⟩ }
       s.claims[(0 : Fin 4)].wait = some 1000 ∧ s.claims[(0 : Fin 4)].wanted = true ∧ s.LowestFree 0) ∧
      ({ base with circuits := Vector.replicate 16 (.heldOther 9 0) } : State).NoneFree ∧
      ({ base with claims := base.claims.set 0 ⟨false, 3, some 1000⟩ } : State).claims[(0 : Fin 4)].wanted =
        false := by
  unfold State.LowestFree State.NoneFree; decide +kernel

theorem test_hyps_OffHookBeginsACall :
    (base.resetHeld = false ∧ base.joined = true ∧ (3 : Fin 4).val < base.config.boxes ∧
      base.calls[(3 : Fin 4)].state = .idle ∧ base.LowestFree 0 ∧ base.incidents.table.length < 8 ∧
      base.incidents.wasCleared base.number base.callUnit.nextCallId = false) ∧
      ({ base with circuits := Vector.replicate 16 (.heldOther 9 0) } : State).NoneFree ∧
      (starting.joined = false ∧ (withCall (call .cleared)).calls[(0 : Fin 4)].state ≠ .idle) ∧
      ({ base.config with boxes := 3 } : StationConfig).boxes ≤ (3 : Fin 4).val ∧
      ({ base with incidents := ⟨[], [⟨5, 0, some 60000⟩]⟩ } : State).incidents.wasCleared base.number
          base.callUnit.nextCallId = true ∧
      (base.incidents.table = [] ∧ ∃ e ∈ [(⟨9, 7, 0, .ahead .east, 3, 0⟩ : Incident)],
        0 < e.distance ∧ e.hasKey base.number base.callUnit.nextCallId = false) := by
  unfold State.LowestFree State.NoneFree; decide +kernel

/-- The base station with a CONNECTED call that holds circuit 4. -/
def connected : State :=
  { withCircuit (.heldOwn 0 (some 1000) none) with
    calls := base.calls.set 0
      { call .connected with circuit := some 3, partner := some ⟨9, 1, .east⟩, silenceTimer := some 2000 } }

theorem test_hyps_OnHookEndsTheCall :
    connected.resetHeld = false ∧ connected.joined = true ∧ (0 : Fin 4).val < connected.config.boxes ∧
      connected.calls[(0 : Fin 4)].state = .connected ∧
      connected.calls[(0 : Fin 4)].partner = some ⟨9, 1, .east⟩ ∧ connected.boundCircuit 0 = some 3 ∧
      base.calls[(0 : Fin 4)].state = .idle ∧ (withCall (call .seizing)).boundCircuit 0 = none ∧
      (starting.resetHeld = false ∧ starting.joined = false) ∧
      ({ base.config with boxes := 3 } : StationConfig).boxes ≤ (3 : Fin 4).val := by decide +kernel

theorem test_hyps_CallTimersRunOut :
    (withCall { call .offering with offerTimer := some 5000 }).calls[(0 : Fin 4)].offerTimer = some 5000 ∧
      (connected.Holds 0 3) ∧
      (withCall { call .offering with incidentTimer := some 10000 }).calls[(0 : Fin 4)].incidentTimer = some 10000 ∧
      (base.incidents.wasCleared base.number 7 = false ∧
        ({ base with incidents := ⟨[], [⟨5, 7, some 60000⟩]⟩ } : State).incidents.wasCleared 5 7 = true ∧
        (⟨5, 7, 0, .own, 0, 0⟩ : Incident).hasKey base.number 7 = true ∧
        (⟨5, 7, 0, .own, 0, 0⟩ : Incident).side = .own ∧ (base.incidents.table = [] ∧ base.incidents.table.length < 8) ∧
        (⟨9, 7, 0, .ahead .east, 3, 0⟩ : Incident).hasKey base.number 7 = false) ∧
      connected.calls[(0 : Fin 4)].silenceTimer = some 2000 ∧
      connected.calls[(0 : Fin 4)].state = .connected := by
  refine ⟨by decide +kernel, ⟨by decide +kernel, some 1000, none, by decide +kernel⟩, ?_⟩
  decide +kernel

theorem test_hyps_nothing_held : ∀ c : Fin 16, ¬(withCall (call .offering)).Holds 0 c := by
  rintro c ⟨h, -⟩
  have : (withCall (call .offering)).calls[(0 : Fin 4)].circuit = none := by decide +kernel
  rw [this] at h
  cases h

/-- A TAKE of call 7 by station 9's lane 1. -/
def take : Frame := fr 5 9 5 0 [7, 1]

theorem test_hyps_TakeIsJudgedByTheCall :
    (base.Arrives .east take.bytes take ∧ base.joined = true ∧ take.TakenBy .take false base.number ∧
      parseTake take.payload = some (7, 1)) ∧
      base.currentCall 7 = none ∧ (withCall (call .offering)).currentCall 7 = some 0 ∧
      (withCall (call .cleared)).currentCall 7 = some 0 ∧ (withCall (call .seizing)).currentCall 7 = some 0 ∧
      connected.currentCall 7 = some 0 ∧
      (connected.calls[(0 : Fin 4)].partner = some ⟨9, 1, .east⟩ ∧ take.origin = 9) ∧
      (⟨8, 1, .east⟩ : Partner).station ≠ take.origin := by
  unfold State.Arrives Frame.TakenBy; decide +kernel

/-- An OFFER of station 9's call 7. -/
def offer : Frame := fr 4 9 0 0 [7, 0, 4, 1]

/-- The entry of an offer. -/
def entry (origin : Nat) (heardAt : Nat) : Offer := ⟨origin, 7, 0, 3, 1, .east, 0, heardAt⟩

/-- The base station with these offers. -/
def withOffers (os : List Offer) : State := { base with callUnit := { base.callUnit with offers := os } }

/-- A HANGUP of station 9's call 7, toward the lane or the call box. -/
def hangup (towardLane : Bool) : Frame := fr 7 9 5 0 [7, bitByte towardLane]

theorem test_hyps_OffersAreListedAndLeave :
    (base.Arrives .east offer.bytes offer ∧ base.joined = true ∧ base.config.answering = true ∧
      offer.TakenBy .offer true base.number ∧ parseOffer offer.payload = some ⟨7, 0, 3, 1⟩) ∧
      (entry 9 0).hasKey 9 7 = true ∧ base.callUnit.offers = [] ∧
      ((withLane (lane .taking)).callUnit.lanes[(0 : Fin 2)].state = .taking ∧ (lane .taking).hasCall 9 7 = true) ∧
      ((withLane (lane .talking)).callUnit.lanes[(0 : Fin 2)].state = .talking ∧
        (lane .talking).hasCall 9 7 = true) ∧
      ((List.replicate 15 (entry 8 1)).length < 16 ∧ 16 ≤ (entry 8 0 :: List.replicate 15 (entry 8 1)).length ∧
        (entry 8 0 :: List.replicate 15 (entry 8 1)) = [] ++ entry 8 0 :: List.replicate 15 (entry 8 1)) ∧
      ((withOffers [entry 9 0]).callUnit.offers.find? fun o => o.hasKey 9 7) = some (entry 9 0) ∧
      (base.Arrives .east (hangup true).bytes (hangup true) ∧ (hangup true).TakenBy .hangup false base.number ∧
        parseIdBit (hangup true).payload = some (7, true)) := by
  unfold State.Arrives Frame.TakenBy; decide +kernel

/-- A REFUSE of call 7 by station 9. -/
def refuse : Frame := fr 6 9 5 0 [7, 1]

theorem test_hyps_HangupAndRefuseEndTheirCalls :
    (connected.Arrives .east (hangup false).bytes (hangup false) ∧ connected.joined = true ∧
      (hangup false).TakenBy .hangup false connected.number ∧
      parseIdBit (hangup false).payload = some (7, false)) ∧
      (connected.currentCall 7 = some 0 ∧ connected.calls[(0 : Fin 4)].state = .connected ∧
        connected.calls[(0 : Fin 4)].partner = some ⟨9, 1, .east⟩ ∧ connected.boundCircuit 0 = some 3) ∧
      base.currentCall 7 = none ∧
      (base.Arrives .east refuse.bytes refuse ∧ refuse.TakenBy .refuse false base.number ∧
        parseIdBit refuse.payload = some (7, true)) ∧
      ((lane .taking).state = .taking ∧ (lane .talking).state = .talking ∧ (lane .taking).hasCall 9 7 = true) := by
  unfold State.Arrives Frame.TakenBy; decide +kernel

theorem test_hyps_OperatorTakesAndEndsCalls :
    (base.Accepts .takeCall 2 ∧ parseTakeCall [0x0907, 1] = some (9, 7, 1) ∧ parseTakeCall [0x0007, 0] = none) ∧
      ({ base.config with lanes := 1 } : StationConfig).lanes ≤ (1 : Fin 2).val ∧
      ((1 : Fin 2).val < base.config.lanes ∧ (withLane (lane .lost)).callUnit.lanes[(0 : Fin 2)].state ≠ .idle ∧
        base.callUnit.lanes[(1 : Fin 2)].state = .idle ∧ base.callUnit.offers = []) ∧
      ((withOffers [entry 9 0]).callUnit.offers.find? fun o => o.hasKey 9 7) = some (entry 9 0) ∧
      (base.Accepts .endCall 1 ∧ (1 : Word).toNat = (1 : Fin 2).val ∧ 2 ≤ (2 : Word).toNat) ∧
      ((lane .taking).state = .taking ∧ (lane .talking).state = .talking ∧ (lane .lost).state = .lost ∧
        (lane .taking).call = some ⟨9, 7, 3, .east⟩) := by
  unfold State.Accepts; decide +kernel

theorem test_hyps_LaneTimersRunOut :
    (base.resetHeld = false ∧ (lane .taking).takeTimer = some 2000 ∧ (lane .taking).state = .taking ∧
      (lane .taking).call = some ⟨9, 7, 3, .east⟩ ∧ ({ lane .taking with takeSends := some 2 } : OpLane).takeSends = some 2) ∧
      (2 < 3 ∧ 3 ≤ 3) ∧
      ({ lane .talking with silenceTimer := some 2000 } : OpLane).silenceTimer = some 2000 ∧
      (lane .talking).state = .talking := by decide +kernel

theorem test_hyps_VoiceBlocksAreSentAndCounted :
    (({ resetAudio with sendTimer := some 20 } : Audio).sendTimer = some 20 ∧
      connected.calls[(0 : Fin 4)].partner = some ⟨9, 1, .east⟩ ∧ connected.calls[(0 : Fin 4)].callId = some 7 ∧
      (connected.ports.get .east).isUp = true ∧ (connected.ports.get .east).sending.isSome = true) ∧
      (withEast resetPort).ports.east.isUp = false ∧
      ((withEast upIdle).ports.east.isUp = true ∧ upIdle.sending = none ∧ upIdle.queues = emptyQueues) ∧
      (withLane (lane .talking)).callUnit.lanes[(0 : Fin 2)].call = some ⟨9, 7, 3, .east⟩ := by decide +kernel

theorem test_hyps_VoiceReachesItsListener :
    base.Arrives .east (voice 5 4).bytes (voice 5 4) ∧ ((voice 5 4).TakenBy .voice false base.number ∧
      parseVoice (voice 5 4).payload = some ⟨3, false, 7, 0, List.replicate 160 213⟩) ∧
      parseVoice (voice 5 0x84).payload = some ⟨3, true, 7, 0, List.replicate 160 213⟩ ∧
      (connected.calls[(0 : Fin 4)].state = .connected ∧ connected.calls[(0 : Fin 4)].callId = some 7 ∧
        (voice 5 0x84).origin = 9) ∧
      ((lane .taking).hasCall 9 7 = true ∧ (lane .talking).hasCall 9 7 = true ∧ resetLane.hasCall 9 7 = false) := by
  refine ⟨⟨by decide, by decide, by decide, test_voice_reads_back.1, by decide⟩, ?_⟩
  unfold Frame.TakenBy; decide +kernel

theorem test_hyps_PlayoutFollowsTheStoreAndCadence :
    emptyStore.phase = .prefill ∧
      (let st : JitterStore := ⟨.playing 4, [blk 4], some [3], 2⟩
       st.phase = .playing 4 ∧ (st.blocks.find? fun x => x.sequence == 4) = some (blk 4)) ∧
      (let st : JitterStore := ⟨.playing 4, [blk 5], some [3], 2⟩
       (∀ x ∈ st.blocks, x.sequence ≠ 4) ∧ 2 ≤ st.misses) ∧
      (let st : JitterStore := ⟨.playing 4, [blk 5], some [3], 1⟩
       st.misses < 2 ∧ 1 ≤ st.misses) ∧
      (⟨.playing 4, [], none, 0⟩ : JitterStore).misses = 0 ∧
      (resetAudio.playoutTimer = some 20 ∧ State.reset.resetHeld = false) ∧
      (silentTone.cadence = .none ∧
        (⟨.progress, true, some 400, false⟩ : Tone).phaseTimer = some 400 ∧
        (⟨.progress, true, some 400, true⟩ : Tone).halfRate = true ∧
        (⟨.answered, true, some 200, false⟩ : Tone).cadence = .answered ∧
        (⟨.cleared, true, some 1000, false⟩ : Tone).cadence = .cleared) ∧
      (({ call .offering with offeringSince := some 0 } : CallRecord).offeringSince = some 0 ∧ 0 + 60000 ≤ 60000 ∧
        59999 < 0 + 60000) ∧
      ((⟨.cleared, true, some 1000, false⟩ : Tone).cadence ≠ .none ∧ silence[159]? = some 213 ∧
        (base.joined = true ∧ (3 : Fin 4).val < base.config.boxes ∧ (1 : Fin 2).val < base.config.lanes ∧
          starting.joined = false)) := by decide +kernel

/-- R100: a quarter of the largest amplitude at the peaks of the sine, half of it 30 degrees on, and its sign after half a
cycle. -/
theorem test_the_tone_is_a_sine :
    alawPeak / 4 = 8064 ∧ sineAt 100000000 = unity ∧ sineAt 300000000 = -unity ∧
      (sineAt 33333333 - unity / 2).natAbs < 10000000000 ∧ toneStep * 8000 = 420 * (4 * quarterCycle) := by
  decide +kernel

theorem test_hyps_JitterStoreTakesBlocks :
    (⟨.prefill, [blk 4], none, 0⟩ : JitterStore).blocks = [blk 4] ∧
      (newer (blk 131).sequence (blk 4).sequence = true ∧ older (blk 3).sequence (blk 4).sequence = true ∧
        ((blk 132).sequence - (blk 4).sequence).toNat = 128) ∧
      (let st : JitterStore := ⟨.playing 4, [blk 4, blk 6, blk 7, blk 131], none, 0⟩
       st.phase = .playing 4 ∧ st.blocks.length = 4 ∧ 128 ≤ ((132 : Byte) - 4).toNat ∧
        ((131 : Byte) - 4).toNat < 128) ∧
      (⟨.playing 4, [blk 4, blk 6, blk 7, blk 131], none, 0⟩ : JitterStore).InOrder := by
  unfold JitterStore.InOrder aheadOf; decide +kernel

/-- An INCIDENT of station 9's call 7. -/
def incident (hops : Nat) : Frame := fr 8 9 0 hops [7, 0]

/-- A table entry of side E. -/
def inc (origin distance touchedAt : Nat) : Incident := ⟨origin, 7, 0, .ahead .east, distance, touchedAt⟩

theorem test_hyps_IncidentsAreEntered :
    (base.Arrives .east (incident 6).bytes (incident 6) ∧ base.joined = true ∧
      (incident 6).TakenBy .incident true base.number ∧ parseIncident (incident 6).payload = some (7, 0)) ∧
      ((incident 6).hops + 1 ≤ 7 ∧ base.incidents.wasCleared 9 7 = false) ∧
      (parseFrame (incident 7).bytes = some (incident 7) ∧ 7 < (incident 7).hops + 1) ∧
      ({ base with incidents := ⟨[], [⟨9, 7, some 60000⟩]⟩ } : State).incidents.wasCleared 9 7 = true ∧
      (inc 9 3 0).hasKey 9 7 = true ∧
      (let table := (List.range 8).map fun i => inc (i + 10) (if i = 0 then 7 else 6) 0
       8 ≤ table.length ∧ (table.map fun x => (x.origin, x.callId)).Nodup ∧
        table = [] ++ inc 10 7 0 :: table.drop 1 ∧ ∀ x ∈ table.drop 1, x.distance < 7) := by
  unfold State.Arrives Frame.TakenBy; decide +kernel

/-- The base station with an incident that INCIDENT frames now bring from the other side, at the distance it had. -/
def crossing : State :=
  { base with
    incidents := ⟨[⟨9, 7, 0, .ahead .west, 7, 0⟩], []⟩
    warnings := { noWarnings with incident := ⟨false, true⟩ } }

theorem test_hyps_IncidentsAreEntered_evaluations :
    ((inc 9 7 0).distance < 8 ∧ (⟨9, 7, 0, .ahead .east, 8, 0⟩ : Incident).hasKey 9 7 = true) ∧
      ((⟨9, 7, 0, .ahead .west, 7, 0⟩ : Incident).hasKey 9 7 = true ∧ (⟨9, 7, 0, .ahead .west, 7, 0⟩ : Incident).side ≠ .ahead .east ∧
        crossing.incidents.wasCleared 9 7 = false) ∧
      (let t := after (.lineFrameArrives .east (incident 6).bytes) crossing
       (crossing.warnings.incident.east = false ∧ t.warnings.incident.east = true) ∧
        (nearestAhead .east t.incidents.table = some 7 ∧ crossing.speed.faces.east.nearestUsed = none)) := by
  decide +kernel

/-- A CLEAR of station 9's call 7. -/
def clear : Frame := fr 9 1 0 0 [9, 7]

theorem test_hyps_IncidentsLeaveTheTable :
    (base.Arrives .east clear.bytes clear ∧ clear.TakenBy .clear true base.number ∧
      parseClear clear.payload = some (9, 7)) ∧
      (base.Accepts .clearIncident 2 ∧ parseClearIncident [63, 255] = some (63, 255) ∧
        parseClearIncident [64, 0] = none) ∧
      (([inc 9 3 0].find? fun e => e.hasKey 9 7) = some (inc 9 3 0)) ∧
      (([⟨9, 7, some 60000⟩] : List ClearedKey).find? fun k => k.origin == 9 && k.callId == 7) =
        some ⟨9, 7, some 60000⟩ := by
  unfold State.Arrives Frame.TakenBy State.Accepts; decide +kernel

theorem test_hyps_SubmittedReadingIsStoredAndJudged :
    base.Accepts .submitReading 2 ∧ parseSubmitReading [0, 2001] = some (.visibility, 2001) ∧
      parseSubmitReading [1, 5] = none ∧ parseSubmitReading [4, 0] = none ∧
      ((base.reading .visibility).rateTimer = none ∧
        ({ resetReading with rateTimer := some 10000 } : Reading).rateTimer.isSome = true) := by
  unfold State.Accepts; decide +kernel

/-- The base station with a visibility of 100 m. -/
def visible : State :=
  { base with
    readings :=
      { base.readings with kinds := base.readings.kinds.set 0 { resetReading with value := some 100, submittedAt := some 0 } } }

theorem test_hyps_SmoothedVisibilitySettles :
    (-3 ≤ (397 : Int) - 400 ∧ (397 : Int) - 400 ≤ 3) ∧ 3 < (404 : Int) - 400 ∧ (396 : Int) - 400 < -3 ∧
      (visible.reading .visibility).submittedAt = some 0 ∧
      base.Accepts .restart 0 := by
  unfold State.Accepts; decide +kernel

theorem test_hyps_WarningsHaveHysteresis :
    (noWarnings.icyRun ≤ 2 ∧ noWarnings.thawRun ≤ 3 ∧ noWarnings.calmCount ≤ 3) ∧
      ((149 : Int) < 150 ∧ (150 : Int) < 250 ∧ 250 ≤ (250 : Int)) ∧
      (80 ≤ (80 : Int) ∧ (60 : Int) ≤ 79 ∧ (59 : Int) < 60) := by decide +kernel

/-- A READING of kind GUST. -/
def readingFrame : Frame := fr 10 9 0 0 [3, 0, 250, 1, 4]

/-- A reading that was submitted, with a pending broadcast. -/
def aReading : Reading :=
  { resetReading with value := some 3, submittedAt := some 0, pending := some ⟨3, false, 1⟩, rateTimer := some 10000 }

theorem test_hyps_ReadingsAgeRepeatAndAreFetched :
    (base.resetHeld = false ∧ aReading.submittedAt = some 0 ∧ aReading.rateTimer = some 10000 ∧
      aReading.pending = some ⟨3, false, 1⟩ ∧ resetReading.pending = none) ∧
      (base.Arrives .east readingFrame.bytes readingFrame ∧ readingFrame.TakenBy .reading true base.number ∧
        parseReading readingFrame.payload = some (.gust, ⟨250, true, 4⟩) ∧ base.config.collector = true ∧
        ({ base.config with collector := false } : StationConfig).collector = false) ∧
      (base.Accepts .fetchReading 0 ∧ base.readings.delivery = []) := by
  unfold State.Arrives Frame.TakenBy State.Accepts; decide +kernel

theorem test_hyps_EvaluationComputesTheCascade :
    base.config.valid = true ∧ base.readings.vs = none ∧ (inc 9 3 0).side.isAhead .east = true ∧
      (startFaceSpeed 120).advert = none ∧ IsAdvert 40 ∧ IsAdvert 130 := by
  unfold IsAdvert; decide +kernel

theorem test_hyps_EvaluationTimerMovesTheSpeed :
    ({ base with speed := { base.speed with evaluationTimer := some 10000 } } : State).speed.evaluationTimer =
        some 10000 ∧
      ((base.evaluation .east).t = base.speed.faces.east.d ∧ (startFaceSpeed 120).raiseCount < 2) ∧
      (let s : State := { base with speed := { base.speed with faces := ⟨{ startFaceSpeed 60 with raiseCount := 2 }, startFaceSpeed 130⟩ } }
       s.speed.faces.east.d < (s.evaluation .east).t ∧ 2 ≤ s.speed.faces.east.raiseCount ∧
        (s.evaluation .west).t < s.speed.faces.west.d) ∧
      (let s : State := { base with speed := { base.speed with evaluationTimer := some 10000 } }
       let u : State := { s with speed := { s.speed with faces := ⟨startFaceSpeed 130, startFaceSpeed 120⟩ } }
       (after .evaluationTimerExpiry s).speed.faces.east.d = s.speed.faces.east.d ∧
        (after .evaluationTimerExpiry s).speed.faces.west.d = s.speed.faces.west.d ∧
        (after .evaluationTimerExpiry u).speed.faces.east.d ≠ u.speed.faces.east.d) := by decide +kernel

/-- A SPEED frame of the adjacent station. -/
def speedFrame (hops : Nat) : Frame := fr 11 9 0 hops [40, 120, 3]

theorem test_hyps_AdvertsAreSentHeldAndForgotten :
    (base.resetHeld = false ∧ ({ base.speed with advertTimer := some 5000 } : Speed).advertTimer = some 5000) ∧
      ({ startFaceSpeed 120 with advert := some ⟨40, 9, true, true, 0⟩ } : FaceSpeed).advert =
        some ⟨40, 9, true, true, 0⟩ ∧
      (base.Arrives .east (speedFrame 0).bytes (speedFrame 0) ∧ (speedFrame 0).TakenBy .speed true base.number ∧
        parseSpeed (speedFrame 0).payload = some ⟨40, 120, true, true⟩ ∧ (speedFrame 0).hops = 0 ∧
        (40 : Int) + 20 < base.speed.faces.east.d ∧ base.speed.faces.west.d ≤ 120 + 20) ∧
      (parseFrame (speedFrame 1).bytes = some (speedFrame 1) ∧ 0 < (speedFrame 1).hops) := by
  unfold State.Arrives Frame.TakenBy; decide +kernel

/-- The base station with FOG and INCIDENT on. -/
def warned : State := { base with warnings := { noWarnings with fog := true, incident := ⟨true, true⟩ } }

/-- The warned station whose E face shows an item. -/
def showing (i : Option Item) (dwell : Timer) : State :=
  { warned with faces := ⟨{ resetFace with selector := { emptySelector with shown := i, dwellTimer := dwell } }, resetFace⟩ }

theorem test_hyps_SelectionFollowsTheCandidates :
    (starting.selecting .east = false ∧ base.selecting .east = true ∧ base.candidates .east = []) ∧
      ((∃ i ∈ warned.candidates .east, warned.itemPriority i = 6) ∧
        ∀ i ∈ warned.candidates .east, warned.itemPriority i ≤ 6) ∧
      (showing none none).faces.east.selector.shown = none ∧
      (Item.builtIn .ice ∉ warned.candidates .east ∧ Item.builtIn .fog ∈ warned.candidates .east ∧
        warned.itemPriority (.builtIn .fog) < 6 ∧ 6 ≤ warned.itemPriority (.builtIn .incident)) ∧
      (showing (some (.builtIn .incident)) (some 3000)).faces.east.selector.dwellTimer.isSome = true ∧
      (showing (some (.builtIn .incident)) none).rotationOf (warned.candidates .east) =
        [] ++ Item.builtIn .incident :: [] ∧
      (base.warnings.isOn .east .fog ≠ warned.warnings.isOn .east .fog ∧
        base.warnings.isOn .east .ice = warned.warnings.isOn .east .ice) := by decide +kernel

/-- A page of one line. -/
def page (version : Byte) (validity : Option Nat) : Page :=
  ⟨3, version, 7, true, true, [65], [], [], 31, .none, validity, none, ⟨1, 0, 63⟩⟩

/-- A PAGE frame. -/
def pageFrame (n : PageNotice) : Frame := fr 12 9 0 0 n.payload

/-- PUBLISH_PAGE's words for page 3, version auto, faces E and W, one line, and what stands behind the lines: pictogram 31 with
no flash, this validity, no bound warning, and the scope of match 1, mask 0 and hop limit 63. -/
def publishWords (priority : Byte) (line : List Word) (validity : Word) : List Word :=
  [3, 256, wordOf priority 3] ++ line ++ [0, 0, 0x1F00, validity, 0x0001, 0x003F]

/-- R195 and R146: a line of one character stands in the upper half of its word, behind its length. -/
theorem test_publish_words_read :
    parsePublish (publishWords 7 [1, 0x4100] 1440) =
      some ⟨3, none, 7, true, true, [65], [], [], 31, .none, 1440, none, ⟨1, 0, 63⟩⟩ := by decide +kernel

theorem test_hyps_PagesAreJudgedStoredAndSent_adjusted :
    (∃ a, parsePublish (publishWords 8 [1, 0x4100] 1441) = some a ∧ 7 < a.priority ∧ 1440 < a.validity) ∧
      (∃ a, parsePublish (publishWords 7 [2, 0x4161] 0) = some a ∧ a.line1 = [0x41, 0x61] ∧ 95 < (0x61 : Byte).toNat) ∧
      ∃ a, parsePublish (publishWords 7 ([19] ++ List.replicate 10 0x4142) 0) = some a ∧ 18 < a.line1.length := by
  refine ⟨⟨_, rfl, ?_⟩, ⟨_, rfl, ?_⟩, ⟨_, rfl, ?_⟩⟩ <;> decide +kernel

theorem test_hyps_PagesAreJudgedStoredAndSent :
    (base.Accepts .publishPage 11 ∧ (parsePublish (publishWords 7 [1, 0x4100] 1440)).isSome = true ∧
      (publishWords 7 [1, 0x4100] 1440).length = 11 ∧ parsePublish [] = none) ∧
      (base.Accepts .withdrawPage 4 ∧ parseWithdraw [31, 63, 63, 63] = some (31, ⟨63, 63, 63⟩) ∧
        parseWithdraw [32, 1, 0, 1] = none) ∧
      (base.Arrives .east (pageFrame (.publish (page 0 none))).bytes (pageFrame (.publish (page 0 none))) ∧
        (pageFrame (.publish (page 0 none))).TakenBy .page true base.number ∧
        parsePage (pageFrame (.publish (page 0 none))).payload = some (.publish (page 0 none))) ∧
      (parseFrame (pageFrame (.withdraw 3 1 ⟨1, 0, 63⟩)).bytes = some (pageFrame (.withdraw 3 1 ⟨1, 0, 63⟩)) ∧
        parsePage (pageFrame (.withdraw 3 1 ⟨1, 0, 63⟩)).payload = some (.withdraw 3 1 ⟨1, 0, 63⟩)) := by
  unfold State.Arrives Frame.TakenBy State.Accepts; decide +kernel

theorem test_hyps_SignTimersRunOut :
    (base.resetHeld = false ∧
      (let c : StoredPage := ⟨page 0 (some 2), 9, some 2, some 60000⟩
       c.minuteTimer = some 60000 ∧ c.remaining = some 2)) ∧
      ((showing (some (.builtIn .fog)) (some 3000)).faces.east.selector.dwellTimer = some 3000 ∧
        (showing (some (.builtIn .fog)) (some 3000)).faces.east.selector.shown = some (.builtIn .fog)) ∧
      (nextItem [.builtIn .fog, .builtIn .wind] (.builtIn .fog) = some (.builtIn .wind) ∧
        Item.builtIn .wind ≠ .builtIn .fog) ∧
      ({ emptySelector with flashTimer := some 500, shown := some (.builtIn .fog) } : Selector).flashTimer =
        some 500 := by decide +kernel

/-- A face that waits for answers. -/
def waits (n missing : Nat) : FaceUnit :=
  { resetFace with
    awaited := (List.range n).map fun i => ⟨byteOf i, some 150⟩, missing := missing, refreshTimer := some 200 }

theorem test_hyps_ImagesAwaitTheirAnswers :
    ((waits 3 0).refreshTimer = some 200 ∧ (waits 3 0).awaited.length < 4 ∧ 4 ≤ (waits 4 1).awaited.length ∧
      (waits 4 1).missing < 2 ∧ 2 ≤ (waits 4 2).missing) ∧
      (((waits 4 2).awaited.find? fun a => a.sequence == 1) = some ⟨1, some 150⟩) ∧
      ((⟨false, 0, .ok⟩ : SignRecord).checkGood = false ∧ (⟨true, 0, .pixelFault 0⟩ : SignRecord).reply = .pixelFault 0 ∧
        (∀ a ∈ (waits 4 0).awaited, a.sequence ≠ (⟨true, 9, .ok⟩ : SignRecord).sequence)) ∧
      (waits 2 0).awaited = [⟨0, some 150⟩] ++ ⟨1, some 150⟩ :: [] := by decide +kernel

theorem test_hyps_ImagesAwaitTheirAnswers_commands :
    (base.selecting .east = true ∧ warned.imageKey .east = base.imageKey .east ∧
        (showing (some (.builtIn .fog)) none).imageKey .east ≠ base.imageKey .east) ∧
      (base.Accepts .setFaceDark 2 ∧ parseSetDark [1, 1] = some (.east, true) ∧
        parseSetDark [2, 0] = some (.west, false) ∧ parseSetDark [3, 0] = none ∧ base.config.fitted .east = true ∧
        State.reset.config.fitted .east = false ∧ base.faces.east.dark = false) := by
  unfold State.Accepts; decide +kernel

/-- SUBMIT_TOLL's words for lane 8, class 5, amount 450, a tag of four bytes and no plate. -/
def tollWords : List Word := [0x0805, 450, 1, 2, 3, 4, 0x0102, 0x0304, 0]

/-- The record of these words. -/
def record : TollRecord := ⟨7, 4, 450, [0, 1, 0, 2, 0, 3], [1, 2, 3, 4], none⟩

/-- A toll store of `n` records before the sequence 300, the first `k` of them SENT. -/
def tolls (n k : Nat) : List TollEntry :=
  (List.range n).map fun i => ⟨BitVec.ofNat 16 (300 - n + i), decide (i < k), if i < k then 1 else 0, .record record⟩

/-- A station without the sink role, with this store and sink. -/
def withStore (n k : Nat) (sink : SinkChoice) : State :=
  { noSink with toll := { resetToll with store := tolls n k, counter := 300, sink := sink, resendTimer := some 2000 } }

theorem test_hyps_TollRecordIsAdmittedAndCounted :
    (base.Accepts .submitToll 9 ∧ parseSubmitToll tollWords = some record ∧ parseSubmitToll [] = none) ∧
      256 ≤ (withStore 256 0 .none).toll.records ∧ (withStore 255 0 .none).toll.records < 256 ∧
      (noSink.config.sink = false ∧ (withStore 3 3 (.via .east 9)).toll.sink = .via .east 9) ∧
      ((∀ x ∈ (withStore 7 7 (.via .east 9)).toll.store, x.sent = true ∧ x.sequence ≠ 300) ∧
        (withStore 7 7 (.via .east 9)).toll.sentCount < 8 ∧ (withStore 7 7 (.via .east 9)).Ready .east .bl) ∧
      8 ≤ (withStore 9 8 (.via .east 9)).toll.sentCount ∧
      (base.config.sink = true ∧ base.toll.store = [] ∧ base.toll.delivery.length < 64 ∧
        64 ≤ (List.replicate 64 (⟨9, 1, .record record⟩ : Delivery)).length) := by
  unfold State.Accepts State.Ready; decide +kernel

/-- The same station with another East port. -/
def withStoreAt (x : Port) (n k : Nat) (sink : SinkChoice) : State := { withStore n k sink with ports := ⟨x, busy⟩ }

/-- The forms of a try: each transmitter, a store with entries to send, and none. -/
theorem test_hyps_TollTried :
    (∀ x ∈ [resetPort, busy, upIdle],
      let s := withStoreAt x 3 1 (.via .east 9)
      s.toll.sink = .via .east 9 ∧ (s.toll.store.map fun e => e.sequence).Nodup ∧
        (s.toll.store.filter fun e => !e.sent) ≠ []) ∧
      (resetPort.isUp = false ∧ (busy.isUp = true ∧ busy.sending.isSome = true) ∧
        (upIdle.isUp = true ∧ upIdle.sending = none ∧ upIdle.queues = emptyQueues)) ∧
      ((withStoreAt upIdle 3 3 (.via .east 9)).toll.store.filter fun e => !e.sent) = [] ∧
      (withStoreAt upIdle 3 3 (.via .east 9)).deferred = [] ∧ (withStore 3 1 .none).toll.sink = .none := by
  decide +kernel

/-- A TOLL of station 9. -/
def tollFrame : TollFrame := ⟨4, 4, true, .record record⟩

/-- The line frame that carries it. -/
def tollLine : Frame := fr 13 9 5 0 tollFrame.payload

theorem test_hyps_TollIsDeliveredInSequence :
    (tollFrame.fresh = true ∧ tollFrame.sequence = tollFrame.base) ∧
      (older (4 : Word) 5 = true ∧ older (4 : Word) 4 = false ∧ (4 : Word) ≠ 32772) ∧
      (base.Arrives .east tollLine.bytes tollLine ∧ base.joined = true ∧ base.config.sink = true ∧
        tollLine.TakenBy .toll false base.number ∧ parseToll tollLine.payload = some tollFrame) ∧
      originFor 9 tollFrame none = some ⟨9, 4, false, true⟩ ∧
      originFor 9 { tollFrame with sequence := 5 } none = none ∧
      ((judgeToll true tollFrame ⟨9, 4, false, true⟩).ack = some 4 ∧
        (judgeToll false tollFrame ⟨9, 4, false, true⟩).ack = none) := by
  unfold State.Arrives Frame.TakenBy; decide +kernel

/-- A TOLLACK of sequence 298. -/
def ackFrame : Frame := fr 14 9 5 0 (wordBytes 298)

theorem test_hyps_TollEntriesAreAckedResentAndFetched :
    (let s := withStore 3 3 .none
     s.Arrives .east ackFrame.bytes ackFrame ∧ s.joined = true ∧ ackFrame.TakenBy .tollAck false s.number ∧
      parseWord ackFrame.payload = some 298 ∧
      (∃ e ∈ s.toll.store, atOrBefore e.sequence 298 = true) ∧
      s.toll.store.getLast?.map (fun e => atOrBefore 298 e.sequence) = some true) ∧
      (let s := withStore 3 3 (.via .east 9)
       s.resetHeld = false ∧ s.toll.resendTimer = some 2000 ∧ (s.toll.store.map fun e => e.sequence).Nodup ∧
        (s.ports.get .east).isUp = true ∧ (s.ports.get .east).sending.isSome = true ∧
        (s.ports.get .east).queues.bl.length + 3 ≤ 16 ∧ (s.toll.store.filter fun e => e.sent) ≠ []) ∧
      (withEast resetPort).ports.east.isUp = false ∧
      (let s := withStoreAt upIdle 3 3 (.via .east 9)
       s.toll.resendTimer = some 2000 ∧ (s.toll.store.filter fun e => e.sent).length ≤ 8 ∧
        (s.toll.store.filter fun e => e.sent) =
          (tolls 3 3).headD ⟨0, true, 0, .record record⟩ :: (tolls 3 3).drop 1) ∧
      ((∀ e ∈ (withStore 3 3 .none).toll.store, e.content.isReport = false) ∧
        (withStore 3 3 .none).counts.held = none ∧
        (⟨298, true, 1, .report ⟨none, 5, none, Vector.replicate 8 zeroLane⟩⟩ : TollEntry).content.isReport = true ∧
        atOrBefore (298 : Word) 298 = true) ∧
      (base.Accepts .fetchDelivery 0 ∧ base.toll.delivery = [] ∧ base.toll.store = [] ∧
        (List.replicate 63 (⟨9, 1, .record record⟩ : Delivery)).length = 63 ∧
        (TollContent.record record).isReport = false) := by
  unfold State.Arrives Frame.TakenBy State.Accepts; decide +kernel

/-- A station without the sink role, with a sink in sight on both sides. -/
def sinks (east west : Nat) (eastState : PortState) : State :=
  { noSink with
    ports := ⟨{ busy with state := eastState }, busy⟩
    reach := ⟨⟨none, some ⟨9, east⟩⟩, ⟨none, some ⟨2, west⟩⟩⟩
    toll := { resetToll with sink := .via .east 9 } }

theorem test_hyps_SinkChoiceIsStable :
    ((∀ d ∈ [Side.east, .west], base.eligible d = none) ∧ (sinks 1 2 .up).eligible .east = some ⟨9, 1⟩ ∧
      (sinks 1 2 .up).eligible .west = some ⟨2, 2⟩ ∧ (sinks 1 2 .down).eligible .east = none) ∧
      ((sinks 1 2 .degraded).ports.west.state = .up ∧ (sinks 1 2 .degraded).ports.east.state ≠ .up) ∧
      (sinks 1 1 .up).toll.sink = .via .east 9 ∧
      ((sinks 1 1 .degraded).joined = true ∧ (sinks 1 1 .degraded).config.sink = false ∧
        (sinks 1 1 .degraded).chooseSink ≠ (sinks 1 1 .degraded).toll.sink) ∧
      (let s : State := { sinks 1 2 .up with toll := { resetToll with sink := .none } }
       s.joined = true ∧ s.config.sink = false ∧ s.chooseSink = .via .east 9 ∧ s.toll.sink = .none) ∧
      (let s : State := { sinks 1 2 .up with toll := { resetToll with sink := .via .east 8 } }
       s.eligible .east = some ⟨9, 1⟩ ∧ s.chooseSink ≠ s.toll.sink) ∧
      ((sinks 1 1 .degraded).ports.east.state = .degraded ∧ ((sinks 1 1 .degraded).eligible .west).isSome = true ∧
        (sinks 1 1 .degraded).ports.west.state = .up) ∧
      (noSink.toll.sink = .none ∧ noSink.chooseSink = .none ∧ base.config.sink = true) := by decide +kernel

/-- An EPOCH of number 32772. -/
def epochFrame : Frame := fr 15 9 0 0 (wordBytes 32772)

/-- A report. -/
def report : Report := ⟨some 4, 5, none, Vector.replicate 8 zeroLane⟩

theorem test_hyps_EpochMarkTakesASnapshot :
    (reportIn noSink.toll.store = none ∧ noSink.config.sink = false ∧ noSink.toll.sink = .none) ∧
      (base.toll.store = [] ∧ base.config.sink = true ∧ base.toll.delivery.length < 64 ∧ base.counts.held = none) ∧
      reportIn [⟨4, true, 1, .report report⟩] = some (⟨4, true, 1, .report report⟩, report) ∧
      base.Accepts .issueEpoch 1 ∧
      (base.Arrives .east epochFrame.bytes epochFrame ∧ epochFrame.TakenBy .epoch true base.number ∧
        parseWord epochFrame.payload = some 32772 ∧ base.counts.epoch = none) ∧
      ((1 : Nat) ≤ ((32772 : Word) - 5).toNat ∧ ((32772 : Word) - 5).toNat ≤ 32767 ∧
        32768 ≤ ((32772 : Word) - 4).toNat) := by
  unfold State.Arrives Frame.TakenBy State.Accepts; decide +kernel

theorem test_hyps_RefusedCommandsChangeNothing :
    base.resetHeld = false ∧ Command.join.acceptedIn true = false ∧
      (starting.joined = false ∧ 8 ≤ Command.readCircuits.code ∧ Command.readCounters.code ≤ 36) ∧
      (Command.fetchReading.acceptedIn true = true ∧ Command.fetchReading.roleHeld State.reset.config = false) ∧
      (Command.fetch.takesCount 1 = false ∧ Command.fetch.roleHeld base.config = true) ∧
      (after (.fetchReading []) base).response.code = .empty := by decide +kernel

theorem test_hyps_CabinetFramesAreReadOrFault :
    (([] : List Word).length < (loByte 0x0000).toNat + 1 ∧
      ([7] : List Word) = [] ++ 7 :: [] ∧ ([] : List Word).length = (loByte 0x0600).toNat) ∧
      (7 ≠ crcWords [0x0600] ∧ (allCommands.all fun c => c.code != (hiByte 0x0600).toNat) = true ∧
        Command.fetch.code = (hiByte 0x0000).toNat) ∧
      ((List.replicate 64 (0 : Word)).length ≤ 255 ∧ base.resetHeld = false) := by decide +kernel

theorem test_hyps_StatusWordShowsTheFlags :
    base.resetHeld = false ∧ ({ base with resetHeld := true } : State).resetHeld = true ∧
      (after (.readReadings []) base).response.code = .ok ∧
      (match (after (.readReadings []) base).response.answer with | .readings r => r.kinds.length | _ => 0) = 4 ∧
      (match (after (.readTollStore [0]) (withStore 20 0 .none)).response.answer with
        | .tollStore r => r.entries.length | _ => 0) = 16 := by decide +kernel

/-- Section 11.4: sequence 0x0102 of a submitted record, 1 record held, not a sink. -/
theorem test_submitted_toll_words : (Answer.submittedToll 0x0102 1 none).words.take 2 = [0x0102, 1] := by decide +kernel

/-- R203: a part held in reset clocks out zeros. -/
theorem test_held_part_clocks_out_zeros :
    ({ base with resetHeld := true } : State).clockedOut 3 = [0, 0, 0] := by decide +kernel

theorem test_hyps_ClearFaultsClearsItsMask :
    32 ≤ (32 : Word).toNat ∧ (31 : Word).toNat ≤ 31 ∧
      (31 : Word).getLsbD FaultName.readingsStale.index.val = true ∧ ([] : List Word).length ≠ 1 := by decide +kernel

theorem test_hyps_ReadCommandsAnswerFromTheState :
    (base.resetHeld = false ∧ base.joined = true ∧ base.config.answering = true) ∧
      (1 ≤ (63 : Word).toNat ∧ (63 : Word).toNat ≤ 63 ∧ (0 : Word).toNat = 0 ∧ 63 < (64 : Word).toNat) ∧
      ((31 : Word).toNat = (31 : Fin 32).val ∧ 32 ≤ (32 : Word).toNat ∧ 64 ≤ (64 : Word).toNat) := by decide +kernel

theorem test_hyps_ConfigureAndJoinStartTheStation :
    (starting.resetHeld = false ∧ starting.joined = false ∧
      (let c : StationConfig := ⟨true, true, true, true, true, 4, 2, 130, 80, 7⟩
       c.boxes ≤ 4 ∧ c.lanes ≤ 2 ∧ c.answering = true ∧ c.vmax ∈ [60, 70, 80, 90, 100, 110, 120, 130] ∧
        c.vmin ∈ [40, 50, 60, 70, 80] ∧ c.vmin + 20 ≤ c.vmax ∧ c.incidentReach ≤ 7)) ∧
      (({ starting with number := 0 } : State).number = 0 ∧ starting.number ≠ 0) ∧
      ((∀ b : Fin 4, starting.calls[b].state = .idle) ∧
        ({ starting with calls := starting.calls.set 3 { resetCall with offHook := true } } : State).calls[(3 : Fin 4)].offHook =
          true) ∧
      ((starting.ports.get .east).sending.isSome = true ∧ starting.toll.store = [] ∧
        (starting.faces.get .east).awaited.length < 4) := by decide +kernel

theorem test_hyps_RestartEmptiesAndKeeps :
    connected.resetHeld = false ∧ connected.joined = true ∧
      (∀ b : Fin 4, (b.val < 4 ∧ 0 < b.val) → connected.calls[b].offHook = false) ∧
      (({ connected with config := { connected.config with boxes := 0 } } : State).config.boxes = 0) ∧
      (connected.ports.get .east).sending.isSome = true ∧ (connected.ports.get .west).sending.isSome = true ∧
      connected.CircuitsBound := by
  unfold State.CircuitsBound; decide +kernel

theorem test_hyps_RestartEmptiesAndKeeps_off_hook :
    (connected.CircuitsBound ∧ connected.Busy) ∧
      (connected.calls[(0 : Fin 4)].offHook = true ∧ connected.calls[(0 : Fin 4)].state = .connected ∧
        connected.calls[(0 : Fin 4)].circuit = some 3 ∧ connected.calls[(0 : Fin 4)].partner = some ⟨9, 1, .east⟩ ∧
        connected.calls[(0 : Fin 4)].callId = some 7) ∧
      (connected.routes 9 = [.east, .west] ∧ (connected.ports.get .east).isUp = true) ∧
      ({ connected with ports := ⟨resetPort, resetPort⟩ } : State).routes 9 = [] ∧
      ((withLane (lane .talking)).callUnit.lanes[(0 : Fin 2)].state = .talking ∧
        (withLane (lane .talking)).callUnit.lanes[(0 : Fin 2)].call = some ⟨9, 7, 3, .east⟩) ∧
      (withOffers [entry 9 0]).callUnit.offers ≠ [] := by
  refine ⟨⟨by unfold State.CircuitsBound; decide +kernel, ?_⟩, by decide +kernel⟩
  intro p
  cases p <;> decide +kernel

theorem test_hyps_PayloadsReadBack :
    (List.replicate 160 (213 : Byte)).length = 160 ∧ (1 ≤ 255 ∧ 255 ≤ 255) ∧
      (readingLow .surfaceTemp ≤ -400 ∧ (800 : Int) ≤ readingHigh .surfaceTemp) ∧ IsAdvert 40 ∧ IsAdvert 130 ∧
      ((page 0 (some 1440)).priority ≤ 7 ∧ (page 0 none).faceE = true ∧ (page 0 none).pictogram ≤ 31 ∧
        (page 0 none).line1.length ≤ 18) ∧
      (record.amount ≤ 65535 ∧ record.timestamp.length = 6 ∧ 4 ≤ record.tag.length ∧ record.tag.length ≤ 12) ∧
      ∀ i : Fin 8, report.lanes[i].Within := by
  unfold IsAdvert LaneCount.Within; decide +kernel

/-- The invariants hold of a state in use: the base station with a connected call, three unacknowledged tolls and a sink. -/
def inUse : State :=
  { connected with config := noSink.config, toll := (withStore 3 3 (.via .east 9)).toll, map := [heard9] }

theorem test_hyps_StepsKeepPortsMapAndDeferred :
    inUse.PortsWithin ∧ inUse.PortsQuiet ∧ inUse.MapInOrder ∧ inUse.DeferredInOrder := by
  unfold State.PortsWithin Port.Within Queues.Within State.PortsQuiet Port.QuietUnlessUp Port.EndStaysDown
    State.MapInOrder State.DeferredInOrder Frame.IsProbe
  refine ⟨by decide +kernel, ⟨?_, ?_, by decide +kernel, by decide +kernel⟩, by decide +kernel, by decide +kernel⟩ <;>
    · intro h
      exact absurd h (by decide +kernel)

theorem test_hyps_StepsKeepCircuitsBound : inUse.CircuitsBound := by unfold State.CircuitsBound; decide +kernel

theorem test_hyps_StepsKeepRecordsInRange :
    inUse.StoresInOrder ∧ inUse.ListsWithin ∧ inUse.CountsWithin ∧ inUse.FaultsWithin := by
  refine ⟨⟨?_, ?_⟩, by unfold State.ListsWithin; decide +kernel, ⟨?_, ?_⟩, by unfold State.FaultsWithin; decide +kernel⟩
  · intro b
    rw [show inUse.playout.boxes[b].store = emptyStore by revert b; decide +kernel]
    simp [JitterStore.InOrder, emptyStore]
  · intro l
    rw [show inUse.playout.lanes[l].store = emptyStore by revert l; decide +kernel]
    simp [JitterStore.InOrder, emptyStore]
  · unfold LaneCount.Within; decide +kernel
  · intro r hr
    exact absurd hr (by simp [show inUse.counts.held = none by decide +kernel])

theorem test_hyps_StepsKeepTheTollWindow : inUse.TollWithin ∧ inUse.TollWindow := by
  unfold State.TollWithin State.TollWindow; decide +kernel

/-- A warned station that has evaluated and selected: an incident three hops ahead of its E face, whose D stands at 60. -/
def guarded : State :=
  { warned with
    incidents := ⟨[inc 9 3 0], []⟩
    speed := { base.speed with
      faces :=
        ⟨{ startFaceSpeed 60 with nearestUsed := some 3, advert := some ⟨40, 9, true, true, 0⟩ }, startFaceSpeed 120⟩ } }.selectBoth

theorem test_hyps_StepsKeepSpeedsAndSelectors_bounds :
    guarded.ListsWithin ∧ guarded.SpeedsBounded ∧ guarded.SelectorsInOrder ∧ guarded.SelectorsCurrent ∧
      guarded.joined = true ∧ inc 9 3 0 ∈ guarded.incidents.table ∧ (inc 9 3 0).side.isAhead .east = true ∧
      guarded.faces.east.selector.shown = some (.builtIn .incident) := by
  refine ⟨by unfold State.ListsWithin; decide +kernel, ⟨by decide +kernel, ?_⟩, ?_, ?_, by decide +kernel⟩
  · intro _ f
    cases f <;> decide +kernel
  · intro f
    cases f <;> decide +kernel
  · intro f
    cases f <;> decide +kernel

theorem test_hyps_StepsKeepSpeedsAndSelectors : inUse.SpeedsWithin ∧ inUse.SelectorsInOrder := by
  refine ⟨⟨by decide +kernel, ?_⟩, ?_⟩
  · intro f
    refine ⟨by unfold IsAdvert; cases f <;> decide +kernel, ?_⟩
    intro h hh
    exact absurd hh (by
      cases f <;>
        simp [PerSide.get, show inUse.speed.faces = ⟨startFaceSpeed 120, startFaceSpeed 120⟩ by decide +kernel, startFaceSpeed])
  · intro f
    cases f <;> decide +kernel

end Sys2Proof.Tests
end

section
/-! The line frame as bytes (R1, R2, R6). -/

namespace Sys2Proof.Machine

open Sys2Proof

@[simp] theorem byteOf_toNat (b : Byte) : byteOf b.toNat = b := BitVec.ofNat_toNat ..

theorem toNat_byteOf {n : Nat} (h : n < 256) : (byteOf n).toNat = n :=
  (BitVec.toNat_ofNat ..).trans (Nat.mod_eq_of_lt h)

theorem isStation_iff (n : Nat) : isStation n = true ↔ 1 ≤ n ∧ n ≤ 63 := by simp [isStation]

/-- The header ranges of R6, one by one. -/
theorem Frame.inRange_iff (f : Frame) :
    f.inRange = true ↔
      f.kind ≤ 31 ∧ 1 ≤ f.origin ∧ f.origin ≤ 63 ∧ f.target ≤ 63 ∧ 1 ≤ f.hopLimit ∧ f.hopLimit ≤ 63 ∧
        f.payload.length ≤ 240 ∧ f.hops < f.hopLimit := by
  simp [Frame.inRange, isStation_iff, and_assoc]

/-- A frame in its ranges is read back from its bytes. -/
theorem parseFrame_bytes (f : Frame) (h : f.inRange = true) : parseFrame f.bytes = some f := by
  obtain ⟨hk, -, ho, ht, -, hl, hp, hh⟩ := f.inRange_iff.1 h
  have hlen : (byteOf f.payload.length).toNat = f.payload.length := toNat_byteOf (by omega)
  have hfields : (⟨(byteOf f.kind).toNat, (byteOf f.origin).toNat, (byteOf f.target).toNat, (byteOf f.hops).toNat,
      (byteOf f.hopLimit).toNat, f.payload⟩ : Frame) = f := by
    rw [toNat_byteOf (by omega), toNat_byteOf (by omega), toNat_byteOf (by omega), toNat_byteOf (by omega),
      toNat_byteOf (by omega)]
  simp [parseFrame, Frame.bytes, Frame.body, hlen, hfields, h, wordBytes]

/-- A good frame lies in its ranges, and its bytes are those it is sent as. -/
theorem parseFrame_some {bytes : List Byte} {f : Frame} (h : parseFrame bytes = some f) :
    f.inRange = true ∧ bytes = f.bytes := by
  match bytes with
  | k :: o :: t :: hops :: hl :: len :: rest =>
    simp only [parseFrame, Option.ite_none_right_eq_some, Option.some.injEq] at h
    obtain ⟨⟨hrest, hcheck, hrange⟩, rfl⟩ := h
    have hlen : (rest.take len.toNat).length = len.toNat := by simp [hrest]
    refine ⟨hrange, ?_⟩
    simp only [Frame.bytes, Frame.body, hlen, byteOf_toNat, List.cons_append, List.nil_append]
    rw [← hcheck, List.take_append_drop]
  | [] | [_] | [_, _] | [_, _, _] | [_, _, _, _] | [_, _, _, _, _] => simp [parseFrame] at h

theorem parseFrame_eq_some_iff (bytes : List Byte) (f : Frame) :
    parseFrame bytes = some f ↔ f.inRange = true ∧ bytes = f.bytes :=
  ⟨parseFrame_some, fun ⟨h, hb⟩ => hb ▸ parseFrame_bytes f h⟩

/-- Settles O5: the two directions are `parseFrame_some` and `parseFrame_bytes`. -/
theorem goodFramesAreTheEncodedOnes : Obligations.GoodFramesAreTheEncodedOnes := by
  intro bytes f
  rw [parseFrame_eq_some_iff, Frame.inRange_iff]
  rfl

end Sys2Proof.Machine
end

section
/-! Reception (R5 to R8): what an arriving frame does before its taking, and what that leaves unchanged. -/

namespace Sys2Proof.Machine

open Sys2Proof

/-! ### Images -/

theorem State.imageIfChanged_of_imageKey_eq {f : Face} {s before : State} (h : s.imageKey f = before.imageKey f) :
    s.imageIfChanged f before = s := by
  unfold State.imageIfChanged
  rw [h]
  cases before.imageKey f <;> simp

/-- An event that leaves both faces' image keys as they are sends no image (R158). -/
theorem State.withImages_of_imageKey_eq {act : State → State} {s : State}
    (h : ∀ f, (act s).imageKey f = s.imageKey f) : s.withImages act = act s := by
  simp only [State.withImages, State.imageIfChanged_of_imageKey_eq (h _)]

theorem State.LineWork.imageKey {s t : State} (h : s.LineWork t) (f : Face) : t.imageKey f = s.imageKey f := by
  obtain ⟨_, _, _, rfl, -⟩ := h
  rfl

theorem State.latch_imageKey (n : FaultName) (f : Face) (s : State) : (s.latch n).imageKey f = s.imageKey f := rfl

/-! ### An outcome is recorded (R17) -/

theorem State.setPortState_cases (p : Side) (st : PortState) (s : State) :
    s.setPortState p st = s ∨
      s.setPortState p st = { s.modPort p fun x => { x with state := st } with lineFlag := true } := by
  unfold State.setPortState
  split
  · exact .inl rfl
  · exact .inr rfl

/-- Recording an outcome sets the ports and the LINE flag, and beyond them does line work alone. -/
theorem State.recordOutcome_lineWork (p : Side) (good : Bool) (s : State) :
    ∃ ports flag, ({ s with ports := ports, lineFlag := flag } : State).LineWork (s.recordOutcome p good) := by
  unfold State.recordOutcome
  dsimp only
  generalize testedState _ _ = st
  obtain h | h := State.setPortState_cases p st (s.modPort p fun x => { x with history := addOutcome good x.history }) <;>
    rw [h] <;> exact ⟨_, _, State.reviewIfChanged_lineWork _ s⟩

/-- What recording an outcome leaves unchanged. -/
theorem State.recordOutcome_frame (p : Side) (good : Bool) (s : State) :
    (s.recordOutcome p good).number = s.number ∧ (s.recordOutcome p good).now = s.now ∧
      (s.recordOutcome p good).map = s.map ∧ (s.recordOutcome p good).reach = s.reach ∧
      (s.recordOutcome p good).circuits = s.circuits ∧ (s.recordOutcome p good).faults = s.faults := by
  obtain ⟨_, _, _, _, _, h, -⟩ := State.recordOutcome_lineWork p good s
  rw [h]
  exact ⟨rfl, rfl, rfl, rfl, rfl, rfl⟩

theorem State.recordOutcome_imageKey (p : Side) (good : Bool) (f : Face) (s : State) :
    (s.recordOutcome p good).imageKey f = s.imageKey f := by
  obtain ⟨_, _, h⟩ := State.recordOutcome_lineWork p good s
  exact h.imageKey f

/-! ### A frame arrives (R5) -/

theorem exec_lineFrameArrives (p : Side) (bytes : List Byte) (s : State) (h : s.resetHeld = false) :
    exec (.lineFrameArrives p bytes) s = .next (s.withImages fun s => s.receive p (parseFrame bytes)) := by
  change execLineFrameArrives p bytes s = _
  simp [execLineFrameArrives, State.unlessHeld, h]

/-- In UP and DEGRADED a good frame's outcome is recorded, and the frame passes. -/
theorem State.receive_some_of_isUp (p : Side) (f : Frame) (s : State) (he : (s.ports.get p).endStrap = false)
    (hu : (s.ports.get p).isUp = true) : s.receive p (some f) = (s.recordOutcome p true).goodFrame p f := by
  simp only [State.receive, he, Bool.false_eq_true, if_false]
  cases hst : (s.ports.get p).state with
  | down | listening => simp [Port.isUp, hst] at hu
  | up | degraded => rfl

/-- In DOWN and LISTENING a good frame passes when it is a PROBE. -/
theorem State.receive_probe_of_not_isUp (p : Side) (f : Frame) (s : State) (he : (s.ports.get p).endStrap = false)
    (hu : (s.ports.get p).isUp = false) (hk : f.kind = 0) : s.receive p (some f) = s.goodFrame p f := by
  simp only [State.receive, he, Bool.false_eq_true, if_false]
  cases hst : (s.ports.get p).state with
  | down | listening => simp [hk, FrameKind.code]
  | up | degraded => simp [Port.isUp, hst] at hu

/-! ### A frame of the own number (R7) -/

theorem State.goodFrame_own (p : Side) (f : Frame) (s : State) (h : f.origin = s.number) :
    s.goodFrame p f = s.latch .numberClash := by
  simp [State.goodFrame, h]

/-- Settles O7: by the port's state the frame reaches `goodFrame_own`, and neither the recorded outcome nor the latch
changes what an image would hold. -/
theorem ownOriginFrameLatchesNumberClash : Obligations.OwnOriginFrameLatchesNumberClash := by
  intro p bytes f s hr he hf ho
  rw [exec_lineFrameArrives p bytes s hr, hf]
  refine ⟨fun hu => ?_, fun hu hk => ?_⟩
  · obtain ⟨hnumber, -, hmap, hreach, hcircuits, hfaults⟩ := s.recordOutcome_frame p true
    have hreceive : s.receive p (some f) = (s.recordOutcome p true).latch .numberClash :=
      (s.receive_some_of_isUp p f he hu).trans (State.goodFrame_own p f _ (ho.trans hnumber.symm))
    have himages : (s.withImages fun s => s.receive p (some f)) = s.receive p (some f) :=
      State.withImages_of_imageKey_eq fun g => by
        rw [hreceive, State.latch_imageKey, State.recordOutcome_imageKey]
    refine ⟨_, rfl, ?_⟩
    rw [himages, hreceive]
    refine ⟨?_, hmap, hreach, hcircuits⟩
    rw [State.latch, hfaults]
    rfl
  · have hreceive : s.receive p (some f) = s.latch .numberClash :=
      (s.receive_probe_of_not_isUp p f he hu hk).trans (State.goodFrame_own p f s ho)
    rw [State.withImages_of_imageKey_eq fun g => by rw [hreceive, State.latch_imageKey], hreceive]
    rfl

end Sys2Proof.Machine
end

section
/-! What the taking of a frame can change (R10, R11): no block's taking touches the station map or the clock. -/

namespace Sys2Proof.Machine

open Sys2Proof

/-! ### The circuit and call units -/

theorem State.CallWork.foldl {α : Type} {act : State → α → State} (h : ∀ (s : State) x, s.CallWork (act s x))
    (xs : List α) (s : State) : s.CallWork (xs.foldl act s) := by
  induction xs generalizing s with
  | nil => exact State.CallWork.rfl' s
  | cons x xs ih => exact (h s x).trans (ih _)

theorem State.showVoice_callWork (f : Frame) (s : State) : s.CallWork (s.showVoice f) := by
  unfold State.showVoice
  split
  · exact State.takeClaim_callWork _ _ true s
  · exact State.CallWork.rfl' s

theorem State.takeRelease_callWork (origin : Nat) (c : Fin 16) (s : State) : s.CallWork (s.takeRelease origin c) := by
  unfold State.takeRelease
  split
  · split
    · exact State.modCircuit_callWork c _ s
    · exact State.CallWork.rfl' s
  · exact State.CallWork.rfl' s

theorem State.setOffers_callWork (offers : List Offer) (s : State) : s.CallWork (s.setOffers offers) :=
  State.modCallUnit_callWork _ s

theorem State.removeOffer_callWork (origin : Nat) (callId : Byte) (s : State) :
    s.CallWork (s.removeOffer origin callId) := by
  unfold State.removeOffer
  split
  · exact State.setOffers_callWork _ s
  · exact State.CallWork.rfl' s

theorem State.takeOffer_callWork (p : Side) (origin : Nat) (o : OfferFields) (s : State) :
    s.CallWork (s.takeOffer p origin o) := by
  unfold State.takeOffer
  dsimp only
  split
  · exact State.setOffers_callWork _ s
  · split
    · exact State.CallWork.rfl' s
    · split
      · exact (State.sendOneOff_lineWork _ _ s).call
      · exact State.setOffers_callWork _ s

theorem State.sendRefuse_callWork (station : Nat) (callId : Byte) (ended : Bool) (s : State) :
    s.CallWork (s.sendRefuse station callId ended) :=
  (State.sendOneOff_lineWork _ _ s).call

theorem State.takeTake_callWork (p : Side) (origin : Nat) (callId : Byte) (lane : Fin 2) (s : State) :
    s.CallWork (s.takeTake p origin callId lane) := by
  unfold State.takeTake
  split
  · exact State.sendRefuse_callWork origin callId true s
  · split
    · exact State.putCall_callWork _ _ s
    · split
      · exact State.CallWork.rfl' s
      · exact State.sendRefuse_callWork origin callId false s
    · exact State.sendRefuse_callWork origin callId true s
    · exact State.CallWork.rfl' s

theorem State.refuseLane_callWork (origin : Nat) (callId : Byte) (ended : Bool) (s : State) (l : Fin 2) :
    s.CallWork (s.refuseLane origin callId ended l) := by
  unfold State.refuseLane
  dsimp only
  split
  · exact State.putLane_callWork l _ s
  · exact State.CallWork.rfl' s

theorem State.hangupLane_callWork (origin : Nat) (callId : Byte) (s : State) (l : Fin 2) :
    s.CallWork (s.hangupLane origin callId l) := by
  unfold State.hangupLane
  dsimp only
  split
  · exact State.putLane_callWork l _ s
  · exact State.CallWork.rfl' s

theorem State.takeHangupToBox_callWork (origin : Nat) (callId : Byte) (s : State) :
    s.CallWork (s.takeHangupToBox origin callId) := by
  unfold State.takeHangupToBox
  split
  · exact State.CallWork.rfl' s
  · split
    · exact (State.releaseCall_callWork _ s).trans (State.putCall_callWork _ _ _)
    · exact State.CallWork.rfl' s

theorem State.takeHangup_callWork (origin : Nat) (callId : Byte) (towardLane : Bool) (s : State) :
    s.CallWork (s.takeHangup origin callId towardLane) := by
  unfold State.takeHangup
  split
  · exact (State.removeOffer_callWork origin callId s).trans
      (State.CallWork.foldl (State.hangupLane_callWork origin callId) _ _)
  · exact State.takeHangupToBox_callWork origin callId s

theorem State.voiceAtBox_callWork (origin : Nat) (v : Voice) (s : State) (b : Fin 4) :
    s.CallWork (s.voiceAtBox origin v b) := by
  unfold State.voiceAtBox
  dsimp only
  split
  · exact (State.modCall_callWork b _ s).trans (State.modPlayout_callWork _ _)
  · exact State.CallWork.rfl' s

theorem State.voiceAtLane_callWork (p : Side) (origin : Nat) (v : Voice) (s : State) (l : Fin 2) :
    s.CallWork (s.voiceAtLane p origin v l) := by
  unfold State.voiceAtLane
  dsimp only
  split
  · exact (State.putLane_callWork l _ s).trans (State.modPlayout_callWork _ _)
  · exact State.CallWork.rfl' s

theorem State.takeVoice_callWork (p : Side) (origin : Nat) (v : Voice) (s : State) :
    s.CallWork (s.takeVoice p origin v) := by
  unfold State.takeVoice
  split
  · exact State.CallWork.foldl (State.voiceAtBox_callWork origin v) _ s
  · exact State.CallWork.foldl (State.voiceAtLane_callWork p origin v) _ s

/-! ### The speed, toll and count units -/

theorem State.setAdvert_roadWork (f : Face) (a : Option HeldAdvert) (s : State) : s.RoadWork (s.setAdvert f a) :=
  State.RoadWork.parts s _ s.warnings s.faces

theorem State.takeSpeed_roadWork (p : Side) (f : Frame) (x : SpeedFields) (s : State) :
    s.RoadWork (s.takeSpeed p f x) := by
  unfold State.takeSpeed
  dsimp only
  split_ifs
  · exact (State.setAdvert_roadWork p _ s).trans (State.evaluate_roadWork false _)
  · exact State.setAdvert_roadWork p _ s
  · exact State.RoadWork.rfl' s

theorem State.takeToll_lineWork (origin : Nat) (f : TollFrame) (s : State) : s.LineWork (s.takeToll origin f) := by
  unfold State.takeToll
  split
  · exact State.LineWork.rfl' s
  · dsimp only
    split
    · exact State.LineWork.modToll s _
    · exact (State.LineWork.modToll s _).trans (State.send_lineWork _ _)

theorem State.takeTollAck_tollWork (n : Word) (s : State) : s.TollWork (s.takeTollAck n) := by
  have hacked : s.TollWork (s.modToll fun t => t.acknowledged n) := (State.LineWork.modToll s _).toTollWork
  unfold State.takeTollAck
  split
  · dsimp only
    refine State.TollWork.trans ?_ ((State.LineWork.modToll _ _).trans (State.tollTry_lineWork _)).toTollWork
    split
    · exact hacked.trans (State.reportRemoved_tollWork _)
    · exact hacked
  · exact (State.LineWork.rfl' s).toTollWork

theorem State.takeEpoch_tollWork (e : Word) (s : State) : s.TollWork (s.takeEpoch e) := by
  unfold State.takeEpoch
  split
  · exact State.applyMark_tollWork e s
  · exact (State.LineWork.rfl' s).toTollWork

/-! ### The station map and the clock stay -/

/-- The two states have the same station map and the same clock. -/
def State.KeepsMap (s t : State) : Prop := t.map = s.map ∧ t.now = s.now

theorem State.KeepsMap.rfl' (s : State) : s.KeepsMap s := ⟨rfl, rfl⟩

theorem State.KeepsMap.trans {s t u : State} (h : s.KeepsMap t) (k : t.KeepsMap u) : s.KeepsMap u :=
  ⟨k.1.trans h.1, k.2.trans h.2⟩

theorem State.LineWork.keepsMap {s t : State} (h : s.LineWork t) : s.KeepsMap t := by
  obtain ⟨_, _, _, rfl, -⟩ := h
  exact ⟨rfl, rfl⟩

theorem State.RoadWork.keepsMap {s t : State} (h : s.RoadWork t) : s.KeepsMap t := by
  obtain ⟨_, _, _, _, h, rfl⟩ := h
  exact h.keepsMap

theorem State.CallWork.keepsMap {s t : State} (h : s.CallWork t) : s.KeepsMap t := by
  obtain ⟨_, _, _, _, _, _, h, rfl⟩ := h
  exact h.keepsMap

theorem State.TollWork.keepsMap {s t : State} (h : s.TollWork t) : s.KeepsMap t := by
  obtain ⟨_, _, h, rfl⟩ := h
  exact h.keepsMap

theorem State.ImageWork.keepsMap {s t : State} (h : s.ImageWork t) : s.KeepsMap t := by
  obtain ⟨_, _, rfl⟩ := h
  exact ⟨rfl, rfl⟩

theorem State.recordOutcome_keepsMap (p : Side) (good : Bool) (s : State) : s.KeepsMap (s.recordOutcome p good) := by
  obtain ⟨-, hnow, hmap, -⟩ := s.recordOutcome_frame p good
  exact ⟨hmap, hnow⟩

theorem State.reofferBoth_lineWork (s : State) : s.LineWork s.reofferBoth :=
  ((State.reoffer_lineWork .control s).trans (State.reoffer_lineWork .bulk _)).trans (State.settle_lineWork _ _)

theorem State.takeProbe_keepsMap (p : Side) (origin : Nat) (x : ProbeFields) (s : State) :
    s.KeepsMap (s.takeProbe p origin x) := by
  unfold State.takeProbe
  dsimp only
  refine State.KeepsMap.trans ?_ (State.reviewIfChanged_lineWork _ s).keepsMap
  split
  · refine State.KeepsMap.trans ?_ (State.reofferBoth_lineWork _).keepsMap
    split <;> exact ⟨rfl, rfl⟩
  · split <;> exact ⟨rfl, rfl⟩

/-- A change of the incident table that is handed on. -/
theorem State.modIncidents_incidentsChanged_keepsMap (change : Incidents → Incidents) (cause : Bool) (s : State) :
    s.KeepsMap ((s.modIncidents change).incidentsChanged cause) :=
  State.KeepsMap.trans ⟨rfl, rfl⟩ (State.incidentsChanged_roadWork cause _).keepsMap

theorem State.enterIncident_keepsMap (e : Incident) (s : State) : s.KeepsMap (s.enterIncident e) := by
  unfold State.enterIncident
  dsimp only
  split
  · exact State.KeepsMap.rfl' s
  · split
    · split
      · exact ⟨rfl, rfl⟩
      · exact State.modIncidents_incidentsChanged_keepsMap _ _ s
    · split
      · exact State.modIncidents_incidentsChanged_keepsMap _ _ s
      · split
        · exact State.KeepsMap.rfl' s
        · split
          · exact State.modIncidents_incidentsChanged_keepsMap _ _ s
          · exact State.KeepsMap.rfl' s

theorem State.takeIncident_keepsMap (p : Side) (f : Frame) (callId : Byte) (b : Fin 4) (s : State) :
    s.KeepsMap (s.takeIncident p f callId b) := by
  unfold State.takeIncident
  split
  · exact State.enterIncident_keepsMap _ s
  · exact State.KeepsMap.rfl' s

theorem State.removeIncident_keepsMap (origin : Nat) (callId : Byte) (s : State) :
    s.KeepsMap (s.removeIncident origin callId) := by
  unfold State.removeIncident
  split
  · exact State.modIncidents_incidentsChanged_keepsMap _ _ s
  · exact State.KeepsMap.rfl' s

theorem State.clearIncident_keepsMap (origin : Nat) (callId : Byte) (s : State) :
    s.KeepsMap (s.clearIncident origin callId) := by
  have hremoved (change : Incidents → Incidents) :
      s.KeepsMap ((s.modIncidents change).removeIncident origin callId) :=
    State.KeepsMap.trans ⟨rfl, rfl⟩ (State.removeIncident_keepsMap origin callId _)
  unfold State.clearIncident
  dsimp only
  split
  · exact (hremoved _).trans ⟨rfl, rfl⟩
  · exact hremoved _

theorem State.selectBoth_roadWork (s : State) : s.RoadWork s.selectBoth :=
  (State.select_roadWork .east s).trans (State.select_roadWork .west _)

theorem State.applyPage_keepsMap (origin : Nat) (notice : PageNotice) (s : State) :
    s.KeepsMap (s.applyPage origin notice).2 := by
  unfold State.applyPage
  dsimp only
  split_ifs
  · exact ⟨rfl, rfl⟩
  · exact State.KeepsMap.trans ⟨rfl, rfl⟩ (State.selectBoth_roadWork _).keepsMap
  · exact ⟨rfl, rfl⟩
  · exact State.KeepsMap.rfl' s

theorem State.relay_keepsMap (p : Side) (f : Frame) (s : State) : s.KeepsMap (s.relay p f) := by
  unfold State.relay
  dsimp only
  split
  · split
    · exact ((State.offerQueue_lineWork _ _ f s).trans (State.settle_lineWork _ _)).keepsMap
    · exact ⟨rfl, rfl⟩
  · exact State.KeepsMap.rfl' s

/-! ### Local taking (R10, R11) -/

theorem State.taking_keepsMap {α : Type} (fields : Option α) {act : α → State → State} (s : State)
    (h : ∀ x, s.KeepsMap (act x s)) : s.KeepsMap (s.taking fields act) := by
  cases fields with
  | none => exact State.KeepsMap.rfl' s
  | some x => exact h x

theorem State.handTo_keepsMap (k : FrameKind) (p : Side) (f : Frame) (s : State) : s.KeepsMap (s.handTo k p f) := by
  cases k <;> refine State.taking_keepsMap _ s fun x => ?_
  case probe => exact State.takeProbe_keepsMap p f.origin x s
  case voice => exact (State.takeVoice_callWork p f.origin x s).keepsMap
  case claim => exact (State.takeClaim_callWork f.origin x.1 x.2 s).keepsMap
  case release => exact (State.takeRelease_callWork f.origin x s).keepsMap
  case offer => exact (State.takeOffer_callWork p f.origin x s).keepsMap
  case take => exact (State.takeTake_callWork p f.origin x.1 x.2 s).keepsMap
  case refuse => exact (State.CallWork.foldl (State.refuseLane_callWork f.origin x.1 x.2) _ s).keepsMap
  case hangup => exact (State.takeHangup_callWork f.origin x.1 x.2 s).keepsMap
  case incident => exact State.takeIncident_keepsMap p f x.1 x.2 s
  case clear => exact State.clearIncident_keepsMap x.1 x.2 s
  case reading => exact ⟨rfl, rfl⟩
  case speed => exact (State.takeSpeed_roadWork p f x s).keepsMap
  case page => exact State.applyPage_keepsMap f.origin x s
  case toll => exact (State.takeToll_lineWork f.origin x s).keepsMap
  case tollAck => exact (State.takeTollAck_tollWork x s).keepsMap
  case epoch => exact (State.takeEpoch_tollWork x s).keepsMap

theorem State.takeLocally_keepsMap (p : Side) (f : Frame) (s : State) : s.KeepsMap (s.takeLocally p f) := by
  unfold State.takeLocally
  split
  · exact State.KeepsMap.rfl' s
  · split
    · exact State.handTo_keepsMap _ p f s
    · exact State.KeepsMap.rfl' s

end Sys2Proof.Machine
end

section
/-! The station map takes a good frame (R8). -/

namespace Sys2Proof.Machine

open Sys2Proof

/-! ### One entry is set -/

theorem find?_setMapEntry_same (e : MapEntry) (map : List MapEntry) :
    (setMapEntry e map).find? (fun x => x.station == e.station) = some e := by
  induction map with
  | nil => simp [setMapEntry]
  | cons x xs ih =>
    unfold setMapEntry
    split
    · simp
    · split
      · simp
      · next hne => rw [List.find?_cons_of_neg (by simpa using Ne.symm hne), ih]

theorem find?_setMapEntry_other (e : MapEntry) (map : List MapEntry) {station : Nat} (h : station ≠ e.station) :
    (setMapEntry e map).find? (fun x => x.station == station) = map.find? fun x => x.station == station := by
  induction map with
  | nil => simp [setMapEntry, Ne.symm h]
  | cons x xs ih =>
    unfold setMapEntry
    split
    · simp [Ne.symm h]
    · split
      · next heq => simp [Ne.symm h, heq ▸ Ne.symm h]
      · rw [List.find?_cons, List.find?_cons, ih]

theorem State.KeepsMap.mapEntry {s t : State} (h : s.KeepsMap t) (station : Nat) :
    t.mapEntry station = s.mapEntry station := by
  rw [State.mapEntry, h.1, State.mapEntry]

theorem State.KeepsMap.learn {s t : State} (h : s.KeepsMap t) (p : Side) (f : Frame) :
    (s.learn p f).KeepsMap (t.learn p f) := by
  obtain ⟨hmap, hnow⟩ := h
  simp only [State.KeepsMap, State.learn, hmap, hnow, and_self]

theorem State.learn_mapEntry_origin (p : Side) (f : Frame) (s : State) :
    (s.learn p f).mapEntry f.origin = some ⟨f.origin, p, f.hops, s.now⟩ :=
  find?_setMapEntry_same ⟨f.origin, p, f.hops, s.now⟩ s.map

theorem State.learn_mapEntry_other (p : Side) (f : Frame) (s : State) {station : Nat} (h : station ≠ f.origin) :
    (s.learn p f).mapEntry station = s.mapEntry station :=
  find?_setMapEntry_other ⟨f.origin, p, f.hops, s.now⟩ s.map h

/-! ### Reception sets no other entry -/

/-- A good frame of another station is learned; what follows its learning keeps the map (R8 to R13). -/
theorem State.goodFrame_keepsMap (p : Side) (f : Frame) (s : State) (h : f.origin ≠ s.number) :
    (s.learn p f.counted).KeepsMap (s.goodFrame p f) := by
  simp only [State.goodFrame, h, if_false]
  refine State.KeepsMap.trans ?_ ((State.relay_keepsMap p _ _).trans (State.takeLocally_keepsMap p _ _))
  split
  · exact (State.showVoice_callWork _ _).keepsMap
  · exact State.KeepsMap.rfl' _

/-- A good frame of another station that its port lets pass is learned, whatever the port's state. -/
theorem State.receive_keepsMap (p : Side) (f : Frame) (s : State) (he : (s.ports.get p).endStrap = false)
    (ho : f.origin ≠ s.number) (hpass : (s.ports.get p).isUp = true ∨ f.kind = 0) :
    (s.learn p f.counted).KeepsMap (s.receive p (some f)) := by
  cases hu : (s.ports.get p).isUp with
  | true =>
    obtain ⟨hnumber, -⟩ := s.recordOutcome_frame p true
    rw [s.receive_some_of_isUp p f he hu]
    exact ((s.recordOutcome_keepsMap p true).learn p f.counted).trans
      (State.goodFrame_keepsMap p f _ (hnumber.symm ▸ ho))
  | false =>
    rw [s.receive_probe_of_not_isUp p f he hu (hpass.resolve_left (by simp [hu]))]
    exact s.goodFrame_keepsMap p f ho

/-- Settles O8: the event's state has the map and the clock of the state that has just learned the frame
(`receive_keepsMap`; the images keep them too), and of that map one entry was set. -/
theorem goodFrameSetsItsMapEntry : Obligations.GoodFrameSetsItsMapEntry := by
  intro p bytes f s hr he hf ho hpass
  obtain ⟨-, -, -, -, -, hlimit, -, hhops⟩ := f.inRange_iff.1 (parseFrame_some hf).1
  rw [exec_lineFrameArrives p bytes s hr, hf]
  have hkeeps : (s.learn p f.counted).KeepsMap (s.withImages fun s => s.receive p (some f)) :=
    (s.receive_keepsMap p f he ho hpass).trans (State.withImages_cases _ s).keepsMap
  have hnow : (s.withImages fun s => s.receive p (some f)).now = s.now := hkeeps.2
  refine ⟨_, rfl, ?_, hnow, by omega, by omega, hlimit, fun station hs => ?_⟩
  · rw [hkeeps.mapEntry, hnow]
    exact s.learn_mapEntry_origin p f.counted
  · rw [hkeeps.mapEntry]
    exact s.learn_mapEntry_other p f.counted hs

end Sys2Proof.Machine
end

section
/-! How an arriving frame comes to its taking block (R5 to R11): the state it is taken in, and the block that takes it. -/

namespace Sys2Proof.Machine

open Sys2Proof

/-! ### The state that a frame is taken in -/

theorem State.relay_eq (p : Side) (f : Frame) (s : State) :
    ∃ ports deferred toll faults,
      s.relay p f = { s with ports := ports, deferred := deferred, toll := toll, faults := faults } := by
  unfold State.relay
  dsimp only
  split
  · split
    · obtain ⟨ports, deferred, toll, h, -⟩ :=
        (State.offerQueue_lineWork p.other (classOf f.kind).transitQueue f s).trans (State.settle_lineWork _ _)
      exact ⟨ports, deferred, toll, s.faults, h⟩
    · exact ⟨s.ports, s.deferred, s.toll, _, rfl⟩
  · exact ⟨s.ports, s.deferred, s.toll, s.faults, rfl⟩

/-- Before a frame is taken, it has changed the ports, the station map, the deferred list, the toll unit, the latched faults
and the LINE flag alone. -/
theorem State.reached_eq (p : Side) (f : Frame) (s : State) :
    ∃ ports map deferred toll faults lineFlag,
      s.reached p f =
        { s with
          ports := ports, map := map, deferred := deferred, toll := toll, faults := faults, lineFlag := lineFlag } := by
  obtain ⟨_, flag, _, _, _, hrecorded, -⟩ := State.recordOutcome_lineWork p true s
  obtain ⟨ports, deferred, toll, faults, hrelay⟩ := (s.heard p f).relay_eq p f.counted
  rw [State.reached, hrelay, State.heard, hrecorded]
  exact ⟨ports, _, deferred, toll, faults, flag, rfl⟩

section
variable (p : Side) (f : Frame) (s : State)

@[simp] theorem State.reached_now : (s.reached p f).now = s.now := by
  obtain ⟨_, _, _, _, _, _, h⟩ := s.reached_eq p f; rw [h]
@[simp] theorem State.reached_joined : (s.reached p f).joined = s.joined := by
  obtain ⟨_, _, _, _, _, _, h⟩ := s.reached_eq p f; rw [h]
@[simp] theorem State.reached_number : (s.reached p f).number = s.number := by
  obtain ⟨_, _, _, _, _, _, h⟩ := s.reached_eq p f; rw [h]
@[simp] theorem State.reached_circuits : (s.reached p f).circuits = s.circuits := by
  obtain ⟨_, _, _, _, _, _, h⟩ := s.reached_eq p f; rw [h]
@[simp] theorem State.reached_imageKey (g : Face) : (s.reached p f).imageKey g = s.imageKey g := by
  obtain ⟨_, _, _, _, _, _, h⟩ := s.reached_eq p f; rw [h]; rfl

end

/-! ### The kind says which block takes the frame (R10) -/

@[simp] theorem kindOf_code (k : FrameKind) : kindOf k.code = some k := by cases k <;> rfl

theorem FrameKind.code_injective : Function.Injective FrameKind.code := fun j k h =>
  Option.some.inj (by rw [← kindOf_code j, h, kindOf_code])

theorem State.takeLocally_eq_handTo {k : FrameKind} {f : Frame} {s : State} (p : Side) (hk : f.kind = k.code)
    (ht : s.takesKind k f = true) : s.takeLocally p f = s.handTo k p f := by
  simp [State.takeLocally, hk, ht]

/-- The kinds that every JOINED station takes, addressed to it or to all. -/
theorem State.takesKind_of_takenBy {k : FrameKind} {f : Frame} {s : State}
    (hk : k ∈ ([.claim, .release, .incident, .clear, .speed, .page, .epoch] : List FrameKind)) (hj : s.joined = true)
    (h : f.TakenBy k true s.number) : s.takesKind k f = true := by
  have hopen : s.takesKind k f = (s.joined && (f.target == 0 || f.target == s.number)) := by
    fin_cases hk <;> rfl
  obtain ⟨-, htarget⟩ := h
  rw [hopen, hj]
  simpa [or_comm] using htarget

@[simp] theorem Frame.counted_takenBy (k : FrameKind) (forAll : Bool) (number : Nat) (f : Frame) :
    f.counted.TakenBy k forAll number ↔ f.TakenBy k forAll number := Iff.rfl

theorem State.reached_takesKind {k : FrameKind} {p : Side} {f : Frame} {s : State}
    (hk : k ∈ ([.claim, .release, .incident, .clear, .speed, .page, .epoch] : List FrameKind)) (hj : s.joined = true)
    (h : f.TakenBy k true s.number) : (s.reached p f).takesKind k f.counted = true :=
  State.takesKind_of_takenBy hk (by simpa using hj) (by simpa using h)

/-! ### A frame that arrives is taken -/

/-- A frame that is no VOICE is not shown to the circuit unit: it is relayed and taken. -/
theorem State.goodFrame_of_not_voice (p : Side) (f : Frame) (s : State) (ho : f.origin ≠ s.number)
    (hv : f.kind ≠ FrameKind.voice.code) :
    s.goodFrame p f = ((s.learn p f.counted).relay p f.counted).takeLocally p f.counted := by
  simp only [State.goodFrame, ho, if_false, hv, and_false]
  rfl

theorem State.Arrives.receive_eq {p : Side} {bytes : List Byte} {f : Frame} {s : State} (h : s.Arrives p bytes f)
    (hv : f.kind ≠ FrameKind.voice.code) :
    s.receive p (parseFrame bytes) = (s.reached p f).takeLocally p f.counted := by
  obtain ⟨-, he, hu, hparse, ho⟩ := h
  obtain ⟨hnumber, -⟩ := s.recordOutcome_frame p true
  rw [hparse, s.receive_some_of_isUp p f he hu, State.goodFrame_of_not_voice p f _ (hnumber.symm ▸ ho) hv]
  rfl

/-- An arriving frame of a kind that the station takes is handed to that kind's block, and then the images that fall due are
sent. -/
theorem State.Arrives.exec_eq {p : Side} {bytes : List Byte} {f : Frame} {s : State} {k : FrameKind}
    (h : s.Arrives p bytes f) (hk : f.kind = k.code) (hv : k ≠ .voice)
    (ht : (s.reached p f).takesKind k f.counted = true) :
    exec (.lineFrameArrives p bytes) s =
      .next (s.withImages fun _ => (s.reached p f).handTo k p f.counted) := by
  have hreceive : s.receive p (parseFrame bytes) = (s.reached p f).handTo k p f.counted :=
    (h.receive_eq fun hc => hv (FrameKind.code_injective (hk.symm.trans hc))).trans
      (State.takeLocally_eq_handTo p hk ht)
  rw [exec_lineFrameArrives p bytes s h.1]
  simp only [State.withImages, hreceive]

theorem State.CallWork.imageKey {s t : State} (h : s.CallWork t) (g : Face) : t.imageKey g = s.imageKey g := by
  obtain ⟨_, _, _, _, _, _, h, rfl⟩ := h
  exact h.imageKey g

end Sys2Proof.Machine
end

section
/-! The circuit table records others (R52, R57). -/

namespace Sys2Proof.Machine

open Sys2Proof

/-! ### What a CLAIM or RELEASE does to an entry of another station -/

section
variable {c : Fin 16} {s : State} {holder origin age : Nat}

theorem State.takeClaim_free (held : Bool) (h : s.circuits[c] = .free) :
    s.takeClaim origin c held = { s with circuits := s.circuits.set c (.heldOther origin s.now) } := by
  simp only [State.takeClaim, h]
  rfl

theorem State.takeClaim_heldOther_of_le (held : Bool) (h : s.circuits[c] = .heldOther holder age)
    (ho : origin ≤ holder) :
    s.takeClaim origin c held = { s with circuits := s.circuits.set c (.heldOther origin s.now) } := by
  simp only [State.takeClaim, h, if_pos ho]
  rfl

theorem State.takeClaim_heldOther_of_lt (held : Bool) (h : s.circuits[c] = .heldOther holder age)
    (ho : holder < origin) : s.takeClaim origin c held = s := by
  simp only [State.takeClaim, h, if_neg (Nat.not_le.2 ho)]

theorem State.takeRelease_holder (h : s.circuits[c] = .heldOther origin age) :
    s.takeRelease origin c = { s with circuits := s.circuits.set c .free } := by
  simp only [State.takeRelease, h, if_true]
  rfl

theorem State.takeRelease_not_holder (h : ∀ age, s.circuits[c] ≠ .heldOther origin age) :
    s.takeRelease origin c = s := by
  unfold State.takeRelease
  split
  · next holder age hc => exact if_neg fun (ho : holder = origin) => h age (ho ▸ hc)
  · rfl

end

/-! ### A CLAIM or RELEASE arrives -/

section
variable {p : Side} {bytes : List Byte} {f : Frame} {s : State} {c : Fin 16}

/-- What the circuit and call units do with a taken frame makes no image due. -/
theorem State.withImages_of_reached_callWork {t : State} (h : (s.reached p f).CallWork t) :
    (s.withImages fun _ => t) = t :=
  State.withImages_of_imageKey_eq fun g => (h.imageKey g).trans (s.reached_imageKey p f g)

theorem State.Arrives.exec_claim (h : s.Arrives p bytes f) (hj : s.joined = true)
    (ht : f.TakenBy .claim true s.number) {held : Bool} (hp : parseClaim f.payload = some (c, held)) :
    exec (.lineFrameArrives p bytes) s = .next ((s.reached p f).takeClaim f.origin c held) := by
  have hhanded : (s.reached p f).handTo .claim p f.counted = (s.reached p f).takeClaim f.origin c held := by
    simp only [State.handTo, Frame.counted, hp, State.taking]
  rw [h.exec_eq ht.1 (by decide) (State.reached_takesKind (by simp) hj ht), hhanded,
    State.withImages_of_reached_callWork (State.takeClaim_callWork f.origin c held _)]

theorem State.Arrives.exec_release (h : s.Arrives p bytes f) (hj : s.joined = true)
    (ht : f.TakenBy .release true s.number) (hp : parseRelease f.payload = some c) :
    exec (.lineFrameArrives p bytes) s = .next ((s.reached p f).takeRelease f.origin c) := by
  have hhanded : (s.reached p f).handTo .release p f.counted = (s.reached p f).takeRelease f.origin c := by
    simp only [State.handTo, Frame.counted, hp, State.taking]
  rw [h.exec_eq ht.1 (by decide) (State.reached_takesKind (by simp) hj ht), hhanded,
    State.withImages_of_reached_callWork (State.takeRelease_callWork f.origin c _)]

end

/-- Settles O15: the frame reaches the circuit unit in a state with the table and the clock of `s` (`exec_claim`,
`exec_release`), where the entry's case says what is recorded. -/
theorem circuitTableRecordsOthers : Obligations.CircuitTableRecordsOthers := by
  intro p bytes f s h hj
  refine ⟨fun ht c held hp => ?_, fun ht c hp => ?_⟩
  · rw [h.exec_claim hj ht hp, ← s.reached_circuits p f, ← s.reached_now p f]
    refine ⟨fun hfree => ?_, fun holder age hheld => ⟨fun hle => ?_, fun hlt => ?_⟩⟩
    · rw [State.takeClaim_free held hfree]
    · rw [State.takeClaim_heldOther_of_le held hheld hle]
    · rw [State.takeClaim_heldOther_of_lt held hheld hlt]
  · rw [h.exec_release hj ht hp, ← s.reached_circuits p f]
    refine ⟨fun age hheld => ?_, fun hother => ?_⟩
    · rw [State.takeRelease_holder hheld]
    · rw [State.takeRelease_not_holder hother]

end Sys2Proof.Machine
end

section
/-! The smoothed visibility as a function (R126): its three cases, and that it stays between the old value and the new one. -/

namespace Sys2Proof.Machine

open Sys2Proof

variable {old v : Int}

theorem smooth_none (v : Int) : smooth none v = v := rfl

theorem smooth_of_near (hlow : -3 ≤ v - old) (hhigh : v - old ≤ 3) : smooth (some old) v = v :=
  if_pos ⟨hlow, hhigh⟩

theorem smooth_of_rise (h : 3 < v - old) : smooth (some old) v = old + (v - old) / 4 := by
  have hquarter : (v - old).tdiv 4 = (v - old) / 4 := Int.tdiv_eq_ediv_of_nonneg (by omega)
  rw [← hquarter]
  exact if_neg (by omega)

/-- Truncated toward zero, a quarter of a fall is the negative of the quarter of its depth. -/
theorem smooth_of_fall (h : v - old < -3) : smooth (some old) v = old - (old - v) / 4 := by
  have hquarter : (v - old).tdiv 4 = -((old - v) / 4) := by
    rw [← Int.neg_sub, Int.neg_tdiv, Int.tdiv_eq_ediv_of_nonneg (by omega)]
  rw [Int.sub_eq_add_neg, ← hquarter]
  exact if_neg (by omega)

theorem smooth_between (old v : Int) : min old v ≤ smooth (some old) v ∧ smooth (some old) v ≤ max old v := by
  obtain hfall | hrise | ⟨hlow, hhigh⟩ : v - old < -3 ∨ 3 < v - old ∨ -3 ≤ v - old ∧ v - old ≤ 3 := by omega
  · rw [smooth_of_fall hfall]
    omega
  · rw [smooth_of_rise hrise]
    omega
  · rw [smooth_of_near hlow hhigh]
    omega

/-- Any range that holds the old value and the new one holds the smoothed one. -/
theorem smooth_within {low high : Int} (hold : low ≤ old ∧ old ≤ high) (hv : low ≤ v ∧ v ≤ high) :
    low ≤ smooth (some old) v ∧ smooth (some old) v ≤ high := by
  obtain ⟨hmin, hmax⟩ := smooth_between old v
  exact ⟨(le_min hold.1 hv.1).trans hmin, hmax.trans (max_le hold.2 hv.2)⟩

end Sys2Proof.Machine
end

section
/-! What leaves the readings unit as it is (R112 to R114): sending, the road's evaluations and images, the call unit, and a
notice to the incident table. -/

namespace Sys2Proof.Machine

open Sys2Proof

variable {s t : State}

theorem State.LineWork.readings (h : s.LineWork t) : t.readings = s.readings := by
  obtain ⟨_, _, _, rfl, -⟩ := h
  rfl

theorem State.RoadWork.readings (h : s.RoadWork t) : t.readings = s.readings := by
  obtain ⟨_, _, _, _, h, rfl⟩ := h
  exact h.readings

theorem State.CallWork.readings (h : s.CallWork t) : t.readings = s.readings := by
  obtain ⟨_, _, _, _, _, _, h, rfl⟩ := h
  exact h.readings

theorem State.ImageWork.readings (h : s.ImageWork t) : t.readings = s.readings := by
  obtain ⟨_, _, rfl⟩ := h
  rfl

@[simp] theorem State.withImages_readings (act : State → State) (s : State) :
    (s.withImages act).readings = (act s).readings :=
  (State.withImages_cases act s).readings

/-! ### The incident table and the calls that begin -/

/-- A notice changes the incident table, and beyond it does the road's work alone (R105, R106). -/
theorem State.enterIncident_roadWork (e : Incident) (s : State) :
    ∃ change, (s.modIncidents change).RoadWork (s.enterIncident e) := by
  have hsame : ∃ change, (s.modIncidents change).RoadWork s := ⟨id, State.RoadWork.rfl' s⟩
  unfold State.enterIncident
  dsimp only
  split
  · exact hsame
  · split
    · split
      · exact ⟨_, State.RoadWork.rfl' _⟩
      · exact ⟨_, State.incidentsChanged_roadWork _ _⟩
    · split
      · exact ⟨_, State.incidentsChanged_roadWork _ _⟩
      · split
        · exact hsame
        · split
          · exact ⟨_, State.incidentsChanged_roadWork _ _⟩
          · exact hsame

@[simp] theorem State.ownNotice_readings (callId : Byte) (b : Fin 4) (s : State) :
    (s.ownNotice callId b).readings = s.readings := by
  obtain ⟨_, h⟩ := State.enterIncident_roadWork ⟨s.number, callId, b, .own, 0, s.now⟩ s
  exact h.readings

@[simp] theorem State.beginCall_readings (b : Fin 4) (s : State) : (s.beginCall b).readings = s.readings := by
  unfold State.beginCall
  dsimp only
  rw [(State.wantCircuit_callWork b _).readings, State.ownNotice_readings, (State.sendOneOff_lineWork _ _ _).readings,
    (State.putCall_callWork b _ _).readings, State.modCallUnit_readings]

@[simp] theorem State.beginIfOffHook_readings (b : Fin 4) (s : State) :
    (s.beginIfOffHook b).readings = s.readings := by
  unfold State.beginIfOffHook
  split
  · exact State.beginCall_readings b s
  · rfl

@[simp] theorem State.beginCalls_readings (s : State) : s.beginCalls.readings = s.readings := by
  unfold State.beginCalls
  induction boxIndices generalizing s with
  | nil => rfl
  | cons b bs ih => rw [List.foldl_cons, ih, State.beginIfOffHook_readings]

/-! ### The last stage of RESTART (R207) -/

theorem State.startSelection_roadWork (f : Face) (s : State) : s.RoadWork (s.startSelection f) :=
  (State.RoadWork.parts s s.speed s.warnings _).trans (State.select_roadWork f _)

theorem State.restartFace_roadWork (f : Face) (s : State) : s.RoadWork (s.restartFace f) := by
  unfold State.restartFace
  split
  · exact (State.RoadWork.parts s s.speed s.warnings _).trans (State.startSelection_roadWork f _)
  · exact State.RoadWork.rfl' s

theorem State.imageIfSelecting_imageWork (f : Face) (s : State) : s.ImageWork (s.imageIfSelecting f) := by
  unfold State.imageIfSelecting
  split
  · exact State.sendImage_imageWork f s
  · exact State.ImageWork.rfl' s

theorem State.imagesNow_imageWork (s : State) : s.ImageWork s.imagesNow :=
  (State.imageIfSelecting_imageWork .east s).trans (State.imageIfSelecting_imageWork .west _)

@[simp] theorem State.restartEnd_readings (s : State) : s.restartEnd.readings = s.readings := by
  have hroad : s.RoadWork ((s.buildSpeed.restartFace .east).restartFace .west) :=
    ((State.buildSpeed_roadWork s).trans (State.restartFace_roadWork .east _)).trans (State.restartFace_roadWork .west _)
  rw [State.restartEnd, (State.imagesNow_imageWork _).readings, State.beginCalls_readings, hroad.readings]

end Sys2Proof.Machine
end

section
/-! The smoothed visibility in the part (R113, R114, R126, R207): a submission smooths it, and an age-out or RESTART leaves it
absent. -/

namespace Sys2Proof.Machine

open Sys2Proof

/-! ### Commands and sign timers that act -/

/-- A command that is accepted is answered by its body (R199). -/
theorem State.Accepts.command_eq {c : Command} {args : List Word} {s : State} (h : s.Accepts c args.length)
    (body : State → ResponseCode × Answer × State) :
    s.command c args body = (body s).2.2.answered c (body s).1 (body s).2.1 := by
  obtain ⟨hreset, hstate, hrole, hcount⟩ := h
  simp [State.command, State.refusal, hreset, hstate, hrole, hcount]

theorem State.onSignTimer_running (due : Nat) (act : State → State) {s : State} (h : s.resetHeld = false) :
    s.onSignTimer (some due) act = (s.clockTo due).withImages act :=
  State.onTimer_running due _ s h

/-! ### A submission (R112 to R115) -/

@[simp] theorem State.modReading_vs (k : ReadingKind) (f : Reading → Reading) (s : State) :
    (s.modReading k f).readings.vs = s.readings.vs := rfl

@[simp] theorem State.broadcastReading_vs (k : ReadingKind) (r : PendingReading) (s : State) :
    (s.broadcastReading k r).readings.vs = s.readings.vs := by
  simp [State.broadcastReading, (State.sendTold_lineWork _ s).readings]

@[simp] theorem State.broadcastOrKeep_vs (k : ReadingKind) (r : PendingReading) (s : State) :
    (s.broadcastOrKeep k r).readings.vs = s.readings.vs := by
  unfold State.broadcastOrKeep
  split
  · exact State.modReading_vs k _ s
  · exact State.broadcastReading_vs k r s

theorem State.storeReading_vs (k : ReadingKind) (v : Int) (clamped : Bool) (s : State) :
    (s.storeReading k v clamped).readings.vs =
      if k = .visibility then some (smooth s.readings.vs v) else s.readings.vs := by
  unfold State.storeReading
  dsimp only
  split <;> rfl

/-- Past the storing, nothing of a submission touches the smoothed visibility. -/
theorem State.submitReading_vs (k : ReadingKind) (given : Int) (s : State) :
    (s.submitReading k given).readings.vs =
      if k = .visibility then some (smooth s.readings.vs (clampReading k given)) else s.readings.vs := by
  unfold State.submitReading
  dsimp only
  rw [(State.evaluate_roadWork false _).readings, (State.setWarnings_roadWork _ _).readings, State.broadcastOrKeep_vs,
    State.storeReading_vs]

theorem submitReadingBody_eq {args : List Word} {k : ReadingKind} {given : Int} (s : State)
    (h : parseSubmitReading args = some (k, given)) :
    submitReadingBody args s =
      (if clampReading k given = given then .ok else .okAdjusted, .none, s.submitReading k given) := by
  simp only [submitReadingBody, h]

/-! ### An age-out and RESTART (R113, R207) -/

theorem State.readingGone_vs (k : ReadingKind) (s : State) :
    (s.readingGone k).readings.vs = if k = .visibility then none else s.readings.vs := by
  unfold State.readingGone
  dsimp only
  rw [(State.setWarnings_roadWork _ _).readings, State.latch_readings]
  split <;> rfl

theorem State.restartRoad_vs (s : State) : s.restartRoad.readings.vs = none := rfl

theorem State.restarted_vs (s : State) : s.restarted.readings.vs = none := by
  rw [State.restarted, State.restartEnd_readings, State.restartRoad_vs]

/-! ### The events -/

theorem exec_submitReading (args : List Word) (s : State) :
    exec (.submitReading args) s =
      .next (s.withImages fun s => s.command .submitReading args (submitReadingBody args)) := rfl

theorem exec_readingAgeOut (k : ReadingKind) (s : State) :
    exec (.readingAgeOut k) s =
      .next (s.onSignTimer ((s.reading k).submittedAt.map (· + 900000)) fun s => s.readingGone k) := rfl

theorem exec_restart (args : List Word) (s : State) :
    exec (.restart args) s = .next (s.command .restart args fun s => (.ok, .none, s.restarted)) := rfl

/-- An accepted SUBMIT_READING of a visibility smooths it with the value brought into its range (R112, R114). -/
theorem exec_submitReading_vs {args : List Word} {given : Int} {s : State}
    (h : s.Accepts .submitReading args.length) (hparse : parseSubmitReading args = some (.visibility, given)) :
    ∃ t, exec (.submitReading args) s = .next t ∧
      t.readings.vs = some (smooth s.readings.vs (max 0 (min given 2000))) := by
  refine ⟨_, exec_submitReading args s, ?_⟩
  rw [State.withImages_readings, h.command_eq, submitReadingBody_eq s hparse, State.answered_readings,
    State.submitReading_vs, if_pos rfl]
  rfl

theorem exec_readingAgeOut_vs {at' : Nat} {s : State} (h : s.resetHeld = false)
    (hsubmitted : (s.reading .visibility).submittedAt = some at') :
    ∃ t, exec (.readingAgeOut .visibility) s = .next t ∧ t.readings.vs = none := by
  refine ⟨_, exec_readingAgeOut .visibility s, ?_⟩
  rw [hsubmitted, Option.map_some, State.onSignTimer_running _ _ h, State.withImages_readings, State.readingGone_vs,
    if_pos rfl]

theorem exec_restart_vs {s : State} (h : s.Accepts .restart 0) :
    ∃ t, exec (.restart []) s = .next t ∧ t.readings.vs = none := by
  refine ⟨_, exec_restart [] s, ?_⟩
  rw [State.Accepts.command_eq h, State.answered_readings, State.restarted_vs]

/-- Settles O32: the three cases of `smooth`, the bounds that follow from its lying between the old value and the new one,
the manual's run of values from 400 toward 100, and the three events that move the smoothed visibility. -/
theorem smoothedVisibilitySettles : Obligations.SmoothedVisibilitySettles :=
  ⟨smooth_none, fun _ _ => smooth_of_near, fun _ _ => smooth_of_rise, fun _ _ => smooth_of_fall, smooth_between,
    fun _ _ hlow hhigh vlow vhigh => smooth_within ⟨hlow, hhigh⟩ ⟨vlow, vhigh⟩, by decide,
    fun _ _ _ => exec_submitReading_vs, fun _ _ => exec_readingAgeOut_vs, fun _ => exec_restart_vs⟩

end Sys2Proof.Machine
end

section
/-! Commands that are refused (R199): how every command's row is judged, and that a body which refuses changes nothing. -/

namespace Sys2Proof.Machine

open Sys2Proof

/-! ### Bodies that change nothing when they refuse -/

/-- A command's body accepts, or it leaves the state as it is and gives no words. -/
def RefusesCleanly (body : State → ResponseCode × Answer × State) : Prop :=
  ∀ s, (body s).1 = .ok ∨ (body s).1 = .okAdjusted ∨ body s = ((body s).1, .none, s)

theorem refusesCleanly_of_ok {body : State → ResponseCode × Answer × State} (h : ∀ s, (body s).1 = .ok) :
    RefusesCleanly body := fun s => .inl (h s)

theorem joinBody_refusesCleanly : RefusesCleanly joinBody := by
  intro s
  unfold joinBody
  split <;> simp

theorem fetchReadingBody_refusesCleanly : RefusesCleanly fetchReadingBody := by
  intro s
  unfold fetchReadingBody
  split <;> simp

theorem fetchDeliveryBody_refusesCleanly : RefusesCleanly fetchDeliveryBody := by
  intro s
  unfold fetchDeliveryBody
  split <;> simp

section
variable (args : List Word)

theorem configureBody_refusesCleanly : RefusesCleanly (configureBody args) := by
  intro s
  unfold configureBody
  split <;> simp

theorem readMapBody_refusesCleanly : RefusesCleanly (readMapBody args) := by
  intro s
  unfold readMapBody
  split
  · split <;> simp
  · simp

theorem takeCallBody_refusesCleanly : RefusesCleanly (takeCallBody args) := by
  intro s
  unfold takeCallBody
  split
  · simp
  · split_ifs
    · simp
    · simp
    · split <;> simp

theorem endCallBody_refusesCleanly : RefusesCleanly (endCallBody args) := by
  intro s
  unfold endCallBody
  split
  · split
    · simp
    · split_ifs <;> simp
  · simp

theorem clearIncidentBody_refusesCleanly : RefusesCleanly (clearIncidentBody args) := by
  intro s
  unfold clearIncidentBody
  split <;> simp

theorem submitReadingBody_refusesCleanly : RefusesCleanly (submitReadingBody args) := by
  intro s
  unfold submitReadingBody
  split
  · simp
  · dsimp only
    split_ifs <;> simp

theorem publishBody_refusesCleanly : RefusesCleanly (publishBody args) := by
  intro s
  unfold publishBody
  split
  · simp
  · dsimp only
    split_ifs <;> simp

theorem withdrawBody_refusesCleanly : RefusesCleanly (withdrawBody args) := by
  intro s
  unfold withdrawBody
  split <;> simp

theorem readPageBody_refusesCleanly : RefusesCleanly (readPageBody args) := by
  intro s
  unfold readPageBody
  split
  · split <;> simp
  · simp

theorem setFaceDarkBody_refusesCleanly : RefusesCleanly (setFaceDarkBody args) := by
  intro s
  unfold setFaceDarkBody
  split
  · simp
  · split_ifs <;> simp

theorem submitTollBody_refusesCleanly : RefusesCleanly (submitTollBody args) := by
  intro s
  unfold submitTollBody
  split
  · simp
  · split_ifs <;> simp

theorem readTollStoreBody_refusesCleanly : RefusesCleanly (readTollStoreBody args) := by
  intro s
  unfold readTollStoreBody
  split
  · split_ifs <;> simp
  · simp

theorem issueEpochBody_refusesCleanly : RefusesCleanly (issueEpochBody args) := by
  intro s
  unfold issueEpochBody
  split <;> simp

theorem clearFaultsBody_refusesCleanly : RefusesCleanly (clearFaultsBody args) := by
  intro s
  unfold clearFaultsBody
  split
  · split_ifs <;> simp
  · simp

end

/-! ### Every row is a command judged by its body -/

/-- The row of a command is that command judged by this body, with or without the images that it makes due (R158). -/
def Command.RunsBody (c : Command) (args : List Word) (body : State → ResponseCode × Answer × State) : Prop :=
  (∀ s, exec (commandRow c args) s = .next (s.command c args body)) ∨
    ∀ s, exec (commandRow c args) s = .next (s.withImages fun s => s.command c args body)

theorem Command.runsBody_refusesCleanly (c : Command) (args : List Word) :
    ∃ body, c.RunsBody args body ∧ RefusesCleanly body := by
  cases c
  case fetch | restart | readLine | readCircuits | readCalls | readOffers | readIncidents | readReadings | readSpeed
      | readSign | readCounters | readFaults =>
    exact ⟨_, .inl fun _ => rfl, refusesCleanly_of_ok fun _ => rfl⟩
  case configure => exact ⟨_, .inl fun _ => rfl, configureBody_refusesCleanly args⟩
  case join => exact ⟨_, .inl fun _ => rfl, joinBody_refusesCleanly⟩
  case readMap => exact ⟨_, .inl fun _ => rfl, readMapBody_refusesCleanly args⟩
  case takeCall => exact ⟨_, .inl fun _ => rfl, takeCallBody_refusesCleanly args⟩
  case endCall => exact ⟨_, .inl fun _ => rfl, endCallBody_refusesCleanly args⟩
  case clearIncident => exact ⟨_, .inr fun _ => rfl, clearIncidentBody_refusesCleanly args⟩
  case submitReading => exact ⟨_, .inr fun _ => rfl, submitReadingBody_refusesCleanly args⟩
  case fetchReading => exact ⟨_, .inl fun _ => rfl, fetchReadingBody_refusesCleanly⟩
  case publishPage => exact ⟨_, .inr fun _ => rfl, publishBody_refusesCleanly args⟩
  case withdrawPage => exact ⟨_, .inr fun _ => rfl, withdrawBody_refusesCleanly args⟩
  case readPage => exact ⟨_, .inl fun _ => rfl, readPageBody_refusesCleanly args⟩
  case setFaceDark => exact ⟨_, .inl fun _ => rfl, setFaceDarkBody_refusesCleanly args⟩
  case submitToll => exact ⟨_, .inl fun _ => rfl, submitTollBody_refusesCleanly args⟩
  case readTollStore => exact ⟨_, .inl fun _ => rfl, readTollStoreBody_refusesCleanly args⟩
  case fetchDelivery => exact ⟨_, .inl fun _ => rfl, fetchDeliveryBody_refusesCleanly⟩
  case issueEpoch => exact ⟨_, .inl fun _ => rfl, issueEpochBody_refusesCleanly args⟩
  case clearFaults => exact ⟨_, .inl fun _ => rfl, clearFaultsBody_refusesCleanly args⟩

/-! ### What a command leaves -/

section
variable {c : Command} {args : List Word} {s : State}

theorem State.answered_imageKey (c : Command) (code : ResponseCode) (a : Answer) (f : Face) (s : State) :
    (s.answered c code a).imageKey f = s.imageKey f := rfl

/-- A response alone makes no image due (R158). -/
theorem State.withImages_of_answered {act : State → State} {code : ResponseCode} {a : Answer}
    (h : act s = s.answered c code a) : s.withImages act = s.answered c code a := by
  rw [State.withImages_of_imageKey_eq fun f => by rw [h, State.answered_imageKey], h]

theorem State.ImageWork.response {t : State} (h : s.ImageWork t) : t.response = s.response := by
  obtain ⟨_, _, rfl⟩ := h
  rfl

/-- A command answers for itself, and it has accepted or has left its refusal alone. -/
theorem State.command_answers {body : State → ResponseCode × Answer × State} (hbody : RefusesCleanly body)
    (h : s.resetHeld = false) :
    (s.command c args body).response.answered = c ∧
      ((s.command c args body).response.code = .ok ∨ (s.command c args body).response.code = .okAdjusted ∨
        s.command c args body = s.answered c (s.command c args body).response.code .none) := by
  obtain ⟨hheld, -⟩ | ⟨code, -, hrefused⟩ | ⟨-, hran⟩ := State.command_cases c args body s
  · simp [h] at hheld
  · rw [hrefused]
    exact ⟨rfl, .inr (.inr rfl)⟩
  · rw [hran]
    exact ⟨rfl, (hbody s).imp_right (.imp_right fun hclean => by rw [hclean]; rfl)⟩

/-- What R199 refuses before a command's own tests leaves the response code alone. -/
theorem exec_commandRow_of_refusal {code : ResponseCode} (h : s.resetHeld = false)
    (hr : s.refusal c args.length = some code) :
    exec (commandRow c args) s = .next (s.answered c code .none) := by
  obtain ⟨body, hruns, -⟩ := c.runsBody_refusesCleanly args
  have hcommand : s.command c args body = s.answered c code .none := by simp [State.command, h, hr]
  obtain hplain | himages := hruns
  · rw [hplain, hcommand]
  · rw [himages, State.withImages_of_answered hcommand]

theorem exec_commandRow_answers (c : Command) (args : List Word) (h : s.resetHeld = false) :
    ∃ t, exec (commandRow c args) s = .next t ∧ t.response.answered = c ∧
      (t.response.code = .ok ∨ t.response.code = .okAdjusted ∨ t = s.answered c t.response.code .none) := by
  obtain ⟨body, hruns, hclean⟩ := c.runsBody_refusesCleanly args
  obtain ⟨hanswered, hcode⟩ := State.command_answers (c := c) (args := args) hclean h
  obtain hplain | himages := hruns
  · exact ⟨_, hplain s, hanswered, hcode⟩
  · have hresponse := (State.withImages_cases (fun s => s.command c args body) s).response
    refine ⟨_, himages s, hresponse ▸ hanswered, ?_⟩
    rw [hresponse]
    exact hcode.imp_right (.imp_right State.withImages_of_answered)

/-! ### The order of judging (R199) -/

theorem State.refusal_of_state (n : Nat) (h : c.acceptedIn s.joined = false) : s.refusal c n = some .wrongState :=
  if_pos h

theorem State.refusal_of_role (n : Nat) (hs : c.acceptedIn s.joined = true) (h : c.roleHeld s.config = false) :
    s.refusal c n = some .wrongRole := by
  simp [State.refusal, hs, h]

theorem State.refusal_of_count {n : Nat} (hs : c.acceptedIn s.joined = true) (hr : c.roleHeld s.config = true)
    (h : c.takesCount n = false) : s.refusal c n = some .badArgument := by
  simp [State.refusal, hs, hr, h]

/-- The job commands, from READ_CIRCUITS to READ_COUNTERS, are accepted in JOINED alone (section 11.4). -/
theorem Command.acceptedIn_starting_of_job (hlow : 8 ≤ c.code) (hhigh : c.code ≤ 36) : c.acceptedIn false = false := by
  cases c
  case fetch | configure | join | restart | readLine | readMap => simp [Command.code] at hlow
  case readFaults | clearFaults => simp [Command.code] at hhigh
  all_goals rfl

end

/-- Settles O47: each of the three judgements that come first is a `refusal`, and past them every command's body refuses
cleanly (`runsBody_refusesCleanly`), so that no image is due either. -/
theorem refusedCommandsChangeNothing : Obligations.RefusedCommandsChangeNothing := by
  intro c args s h
  refine ⟨fun hstate => ?_, fun hjoined hlow hhigh => ?_, fun hstate hrole => ?_, fun hstate hrole hcount => ?_, ?_⟩
  · exact exec_commandRow_of_refusal h (State.refusal_of_state _ hstate)
  · exact exec_commandRow_of_refusal h
      (State.refusal_of_state _ (hjoined.symm ▸ Command.acceptedIn_starting_of_job hlow hhigh))
  · exact exec_commandRow_of_refusal h (State.refusal_of_role _ hstate hrole)
  · exact exec_commandRow_of_refusal h (State.refusal_of_count hstate hrole hcount)
  · obtain ⟨t, hexec, hanswered, hcode⟩ := exec_commandRow_answers c args h
    exact ⟨t, hexec, hanswered, fun hok hadjusted => (hcode.resolve_left hok).resolve_left hadjusted⟩

end Sys2Proof.Machine
end

section
/-! Latched faults and CLEAR_FAULTS (R201, R202): flags packed in a word, the FAULT flag, and the faults a mask clears. -/

namespace Sys2Proof.Machine

open Sys2Proof

/-! ### Flags in a word -/

/-- Flags make the number that has them as its bits. -/
theorem flagsWord_eq_ofBits (bs : List Bool) : flagsWord bs = natWord (Nat.ofBits bs.get) := by
  unfold flagsWord
  congr 1
  induction bs with
  | nil => rfl
  | cons b bs ih =>
    have htail : (b :: bs).get ∘ Fin.succ = bs.get := rfl
    rw [List.foldr_cons, ih, Nat.ofBits_succ, htail, Nat.add_comm]
    cases b <;> rfl

theorem flagsWord_getLsbD {bs : List Bool} {i : Nat} (h : i < bs.length) (hi : i < 16) :
    (flagsWord bs).getLsbD i = bs[i] := by
  rw [flagsWord_eq_ofBits, natWord, BitVec.getLsbD_ofNat, Nat.testBit_ofBits_lt _ i h, decide_eq_true hi,
    Bool.true_and, List.get_eq_getElem]

theorem flagsWord_toNat_lt (bs : List Bool) : (flagsWord bs).toNat < 2 ^ bs.length := by
  rw [flagsWord_eq_ofBits, natWord, BitVec.toNat_ofNat]
  exact (Nat.mod_le _ _).trans_lt (Nat.ofBits_lt_two_pow _)

theorem latchedWord_getLsbD (fs : Vector FaultLatch 5) (i : Fin 5) :
    (latchedWord fs).getLsbD i.val = fs[i].latched := by
  rw [latchedWord, flagsWord_getLsbD (by simp) (by omega), List.getElem_map, Vector.getElem_toList]
  rfl

theorem latchedWord_toNat_le (fs : Vector FaultLatch 5) : (latchedWord fs).toNat ≤ 31 := by
  have hlt := flagsWord_toNat_lt (fs.toList.map (·.latched))
  rw [List.length_map, Vector.length_toList] at hlt
  exact Nat.le_of_lt_succ hlt

/-! ### The FAULT flag (R201) -/

theorem State.faultFlag_iff (s : State) : s.faultFlag = true ↔ ∃ i : Fin 5, s.faults[i].latched = true := by
  simp [State.faultFlag, Vector.any_eq_true, Fin.exists_iff]

theorem State.faultFlag_latch (f : FaultName) (s : State) : (s.latch f).faultFlag = true :=
  (s.latch f).faultFlag_iff.2 ⟨f.index, by simp [FaultLatch.occur]⟩

/-! ### The faults of a mask (R202) -/

@[simp] theorem clearedFaults_getElem (mask : Word) (fs : Vector FaultLatch 5) (i : Fin 5) :
    (clearedFaults mask fs)[i] = if mask.getLsbD i.val then ⟨false, 0⟩ else fs[i] := by
  simp [clearedFaults]

/-- What a fault of the mask was before does not count: it is cleared with its occurrences. -/
theorem clearedFaults_set {mask : Word} {i : Fin 5} (h : mask.getLsbD i.val = true) (fs : Vector FaultLatch 5)
    (l : FaultLatch) : clearedFaults mask (fs.set i l) = clearedFaults mask fs := by
  refine Vector.ext fun j hj => ?_
  by_cases hij : i.val = j
  · subst hij
    simp [clearedFaults, h]
  · simp [clearedFaults, hij]

/-- The first occurrence after a clearing latches afresh. -/
theorem clearedFaults_getElem_occur {mask : Word} {i : Fin 5} (h : mask.getLsbD i.val = true)
    (fs : Vector FaultLatch 5) : (clearedFaults mask fs)[i].occur = ⟨true, 1⟩ := by
  rw [clearedFaults_getElem, if_pos h]
  rfl

/-! ### CLEAR_FAULTS (R202) -/

/-- The part when CLEAR_FAULTS of this mask has been carried out. -/
def State.faultsCleared (mask : Word) (s : State) : State :=
  { s with
    faults := clearedFaults mask s.faults
    response := ⟨.ok, .clearFaults, .cleared (clearedFaults mask s.faults)⟩ }

theorem exec_clearFaults (args : List Word) (s : State) :
    exec (.clearFaults args) s = .next (s.command .clearFaults args (clearFaultsBody args)) := rfl

/-- Both station states and every role accept CLEAR_FAULTS (section 11.4). -/
theorem State.accepts_clearFaults {s : State} (h : s.resetHeld = false) (mask : Word) :
    s.Accepts .clearFaults [mask].length := ⟨h, rfl, rfl, rfl⟩

theorem exec_clearFaults_cleared {mask : Word} {s : State} (h : s.resetHeld = false) (hmask : mask.toNat ≤ 31) :
    exec (.clearFaults [mask]) s = .next (s.faultsCleared mask) := by
  rw [exec_clearFaults, (State.accepts_clearFaults h mask).command_eq, clearFaultsBody, if_neg (by omega)]
  rfl

theorem exec_clearFaults_wide {mask : Word} {s : State} (h : s.resetHeld = false) (hmask : 32 ≤ mask.toNat) :
    exec (.clearFaults [mask]) s = .next (s.answered .clearFaults .badArgument .none) := by
  rw [exec_clearFaults, (State.accepts_clearFaults h mask).command_eq, clearFaultsBody, if_pos (by omega)]

theorem exec_clearFaults_miscounted {args : List Word} {s : State} (h : s.resetHeld = false) (hargs : args.length ≠ 1) :
    exec (.clearFaults args) s = .next (s.answered .clearFaults .badArgument .none) :=
  exec_commandRow_of_refusal (c := .clearFaults) h
    (State.refusal_of_count rfl rfl (by simp [Command.takesCount, hargs]))

/-- An occurrence of a fault of the mask just before the clearing leaves no trace. -/
theorem State.faultsCleared_latch {mask : Word} {f : FaultName} (h : mask.getLsbD f.index.val = true) (s : State) :
    (s.latch f).faultsCleared mask = s.faultsCleared mask := by
  simp only [State.faultsCleared, State.latch_faults, clearedFaults_set h]
  rfl

/-- Settles O50: a mask of the five bits alone clears (`exec_clearFaults_cleared`), what it leaves is read off fault by fault
(`clearedFaults_getElem`), and an occurrence before it or after it meets a fault that it returns to zero. -/
theorem clearFaultsClearsItsMask : Obligations.ClearFaultsClearsItsMask := by
  intro mask s h
  refine ⟨exec_clearFaults_wide h, fun hmask => ?_, fun args => exec_clearFaults_miscounted h⟩
  refine ⟨s.faultsCleared mask, exec_clearFaults_cleared h hmask, rfl, clearedFaults_getElem mask s.faults,
    ⟨_, rfl, latchedWord_getLsbD _, latchedWord_toNat_le _⟩, ?_, fun f hf => ⟨?_, ?_, ?_⟩⟩
  · rw [State.faultFlag_iff]
    exact exists_congr fun i => by
      rw [State.faultsCleared, clearedFaults_getElem]
      cases mask.getLsbD i.val <;> simp
  · rw [exec_clearFaults_cleared (s := s.latch f) h hmask, State.faultsCleared_latch hf]
  · rw [State.latch_faults, State.faultsCleared, clearedFaults_getElem_occur hf]
  · exact State.faultFlag_latch f _

end Sys2Proof.Machine
end

section
/- Elaborated one after another: the bodies in parallel keep many goals in memory at a time. -/
set_option Elab.async false

section
/-! What every step keeps, said once: a predicate of the state that each single update of the part keeps is kept by every
operation, every command and event, and every step. -/

namespace Sys2Proof.Machine

open Sys2Proof

/-! ### The single updates -/

/-- All that the queues, the line and the inputs do to a port's record. -/
inductive Port.Moves (x : Port) : Port → Prop
  | offer (q : QueueName) (f : Frame) : x.isUp = true → Port.Moves x (x.offer q f).port
  | probe (f : Frame) (timer : Timer) : x.probeSendTimer.isSome = true → f.IsProbe →
      Port.Moves x { (x.offer .cl f).port with probeSendTimer := timer }
  | take : x.sending.isSome = true → Port.Moves x x.takeNext.1
  | outcome (good : Bool) : x.isUp = true → Port.Moves x { x with history := addOutcome good x.history }
  | tested (st : PortState) : x.isUp = true → st = .up ∨ st = .degraded → Port.Moves x { x with state := st }
  | spoiled : Port.Moves x { x with probes := 0 }
  | heardProbe (timer : Timer) : x.endStrap = false → Port.Moves x (x.heardProbe timer)
  | down : Port.Moves x x.toDown
  | signal (on : Bool) : Port.Moves x { x with signal := on }
  | emptyLocal : Port.Moves x x.emptyLocal

/-- All that becomes of a jitter store. -/
inductive JitterStore.Moves (x : JitterStore) : JitterStore → Prop
  | same : JitterStore.Moves x x
  | emptied : JitterStore.Moves x emptyStore
  | arrive (b : Block) : JitterStore.Moves x (x.arrive b)
  | tick : JitterStore.Moves x x.tick.2

/-- The toll store and its window are in order (R167, R172, R181). -/
def State.TollInOrder (s : State) : Prop := s.TollWithin ∧ s.TollWindow

/-- A predicate that each single update of the part keeps. An update that is made only where another invariant stands has that
as a premise, for predicates that imply the invariant; a predicate of other parts of the state needs none of them. -/
structure Kept (P : State → Prop) : Prop where
  others : ∀ s t, t = { s with
      now := t.now, joined := t.joined, config := t.config, reach := t.reach, warnings := t.warnings, speed := t.speed,
      pages := t.pages, lineFlag := t.lineFlag, response := t.response } → P s → P t := by
    intro s t e h; rw [e]; exact h
  port : ∀ p x s, (s.ports.get p).Moves x → P s → P (s.modPort p fun _ => x) := by intros; rename_i h; exact h
  learn : ∀ p f s, f.origin ≠ s.number → 1 ≤ f.origin ∧ f.origin ≤ 63 → 1 ≤ f.hops ∧ f.hops ≤ 63 → P s →
    P (s.learn p f) := by intros; rename_i h; exact h
  mapFilter : ∀ keep s, P s → P { s with map := s.map.filter keep } := by intros; rename_i h; exact h
  deferredShrinks : ∀ ds s, ds.Sublist s.deferred → P s → P { s with deferred := ds } := by
    intros; rename_i h; exact h
  defer : ∀ tag f s, P s → P (s.defer tag f) := by intros; rename_i h; exact h
  circuitAlike : ∀ c x s, (∀ b, x.boundTo b = s.circuits[c].boundTo b) → P s → P (s.modCircuit c fun _ => x) := by
    intros; rename_i h; exact h
  circuitGivenUp : ∀ c b x s, (∀ b', x.boundTo b' = false) → s.circuits[c].boundTo b = true → P s →
    P ((s.modCircuit c fun _ => x).setCallCircuit b none) := by intros; rename_i h; exact h
  circuitClaimed : ∀ c b timer s, s.circuits[c] = .free →
    ((∀ s, P s → s.CircuitsBound) →
      s.calls[b].state ≠ .idle ∧ s.calls[b].circuit = none ∧ s.claims[b].wait = none) → P s →
    P ((s.modCircuit c fun _ => .claiming b timer).setCallCircuit b (some c)) := by intros; rename_i h; exact h
  claims : ∀ v s, ((∀ s, P s → s.CircuitsBound) → ∀ b : Fin 4,
      (s.calls[b].state = .idle → v[b].wanted = false ∧ v[b].wait = none) ∧
        (v[b].wait.isSome = true → s.calls[b].circuit = none)) → P s → P { s with claims := v } := by
    intros; rename_i h; exact h
  calls : ∀ v s, ((∀ s, P s → s.CircuitsBound) → ∀ b : Fin 4, v[b].circuit = s.calls[b].circuit ∧
      (v[b].state = .idle → s.calls[b].circuit = none ∧ s.claims[b].wanted = false ∧ s.claims[b].wait = none)) → P s →
    P { s with calls := v } := by intros; rename_i h; exact h
  callUnit : ∀ u s, u.offers.Sublist s.callUnit.offers → P s → P (s.modCallUnit fun _ => u) := by
    intros; rename_i h; exact h
  offerRefreshed : ∀ g u s, u.offers = s.callUnit.offers.map g →
    (∀ o, (g o).origin = o.origin ∧ (g o).callId = o.callId) → P s → P (s.modCallUnit fun _ => u) := by
    intros; rename_i h; exact h
  offerAdded : ∀ o u s, (s.callUnit.offers.any fun x => x.hasKey o.origin o.callId) = false →
    u.offers = (if s.callUnit.offers.length < 16 then s.callUnit.offers
      else match oldestOffer s.callUnit.offers with
        | none => s.callUnit.offers
        | some v => s.callUnit.offers.erase v) ++ [o] → P s → P (s.modCallUnit fun _ => u) := by
    intros; rename_i h; exact h
  playout : ∀ x s, (∀ b : Fin 4, s.playout.boxes[b].store.Moves x.boxes[b].store) →
    (∀ l : Fin 2, s.playout.lanes[l].store.Moves x.lanes[l].store) → P s → P (s.modPlayout fun _ => x) := by
    intros; rename_i h; exact h
  incidentsShrink : ∀ x s, x.table.Sublist s.incidents.table → x.cleared.Sublist s.incidents.cleared → P s →
    P (s.modIncidents fun _ => x) := by intros; rename_i h; exact h
  incidentRefreshed : ∀ e s, P s → P (s.modIncidents fun i =>
      { i with table := s.incidents.table.map fun y => if y.hasKey e.origin e.callId then e else y }) := by
    intros; rename_i h; exact h
  incidentAdded : ∀ e s, (s.incidents.table.find? fun x => x.hasKey e.origin e.callId) = none →
    s.incidents.table.length < 8 → P s →
    P (s.modIncidents fun i => { i with table := s.incidents.table ++ [e] }) := by intros; rename_i h; exact h
  incidentReplaced : ∀ e v s, (s.incidents.table.find? fun x => x.hasKey e.origin e.callId) = none →
    replacementVictim s.incidents.table = some v → P s →
    P (s.modIncidents fun i =>
      { i with table := (s.incidents.table.filter fun y => !y.hasKey v.origin v.callId) ++ [e] }) := by
    intros; rename_i h; exact h
  keyCleared : ∀ key s, P s → P (s.modIncidents fun i => { i with cleared := addCleared key i.cleared }) := by
    intros; rename_i h; exact h
  readings : ∀ r s, r.delivery.Sublist s.readings.delivery → P s → P (s.modReadings fun _ => r) := by
    intros; rename_i h; exact h
  readingTaken : ∀ f k r s, P s → P (s.takeReading f k r) := by intros; rename_i h; exact h
  face : ∀ f u s, u.awaited.Sublist (s.faces.get f).awaited → P s → P (s.modFace f fun _ => u) := by
    intros; rename_i h; exact h
  image : ∀ f s, P s → P (s.sendImage f) := by
    intro f s h; obtain ⟨_, _, e⟩ := State.sendImage_imageWork f s; rw [e]; exact h
  latch : ∀ n s, P s → P (s.latch n) := by intros; rename_i h; exact h
  clearFaults : ∀ mask s, P s → P { s with faults := clearedFaults mask s.faults } := by intros; rename_i h; exact h
  tollSent : ∀ e timer s, s.toll.oldestQueued = some e → s.toll.sentCount < 8 → P s →
    P (s.modToll fun t => { t.modEntry e.sequence TollEntry.nowSent with resendTimer := timer }) := by
    intros; rename_i h; exact h
  tollResent : ∀ q timer s, (∃ e ∈ s.toll.store, e.sequence = q ∧ e.sent = true) → P s →
    P (s.modToll fun t => { t.modEntry q TollEntry.nowSent with resendTimer := timer }) := by
    intros; rename_i h; exact h
  tollRequeued : ∀ (es : List TollEntry) s, ((s.toll.store.map (·.sequence)).Nodup →
      ∃ done, (s.toll.store.filter (·.sent)).map (·.sequence) = done ++ es.map (·.sequence)) → P s →
    P (s.modToll fun t => { t with store := t.store.map fun x =>
      if (es.any fun y => y.sequence == x.sequence) then { x with sent := false } else x }) := by
    intros; rename_i h; exact h
  tollUnsent : ∀ sink timer s, P s → P (s.modToll fun t =>
      { t with sink := sink, store := t.store.map fun e => { e with sent := false }, resendTimer := timer }) := by
    intros; rename_i h; exact h
  tollAside : ∀ t s, t.store = s.toll.store → t.counter = s.toll.counter →
    t.delivery.length ≤ s.toll.delivery.length ∨ t.delivery.length ≤ 64 → P s → P (s.modToll fun _ => t) := by
    intros; rename_i h; exact h
  tollRecord : ∀ r s, s.toll.records < 256 → P s → P (s.enterToll (.record r)) := by intros; rename_i h; exact h
  tollReport : ∀ r s, ((∀ s, P s → s.TollInOrder) → s.toll.reports = 0) → P s → P (s.enterToll (.report r)) := by
    intros; rename_i h; exact h
  tollMerged : ∀ e old r s, reportIn s.toll.store = some (e, old) → P s →
    P (s.modToll fun t => t.modEntry e.sequence fun x => { x with content := .report r }) := by
    intros; rename_i h; exact h
  tollAcknowledged : ∀ n s, s.toll.acknowledges n = true → P s → P (s.modToll fun t => t.acknowledged n) := by
    intros; rename_i h; exact h
  tollDelivered : ∀ e rest x s, s.toll.store = e :: rest → s.toll.delivery.length < 64 → P s →
    P (s.modToll fun t => { t with store := rest, delivery := t.delivery ++ [x] }) := by intros; rename_i h; exact h
  counts : ∀ c s, ((∀ s, P s → s.CountsWithin) →
      (∀ i : Fin 8, c.lanes[i].Within) ∧ ∀ r ∈ c.held, ∀ i : Fin 8, r.lanes[i].Within) → P s →
    P (s.modCounts fun _ => c) := by intros; rename_i h; exact h

end Sys2Proof.Machine
end

section
/-! Every operation keeps what each single update keeps: the transmit queues, sending, the signs and the speeds. -/

namespace Sys2Proof.Machine

open Sys2Proof

namespace Kept

variable {P : State → Prop} (K : Kept P) {s : State}
include K

/-! ### Sending -/

theorem clockTo (due : Nat) (h : P s) : P (s.clockTo due) := K.others _ _ rfl h

theorem modToll_timer (timer : Timer) (h : P s) : P (s.modToll fun t => { t with resendTimer := timer }) :=
  K.tollAside _ s rfl rfl (.inl (Nat.le_refl _)) h

theorem offerQueue {p : Side} (hup : (s.ports.get p).isUp = true) (q : QueueName) (f : Frame) (h : P s) :
    P (s.offerQueue p q f).state :=
  K.port p _ s (.offer q f hup) h

theorem offerPort (p : Side) (f : Frame) (h : P s) : P (s.offerPort p f).state := by
  unfold State.offerPort
  split
  next hup => exact K.offerQueue hup _ f h
  next => exact h

theorem offerTo (ps : List Side) (f : Frame) (h : P s) : P (s.offerTo ps f).state := by
  unfold State.offerTo
  refine List.foldlRecOn (motive := fun r : Sent => P r.state) ps _ h fun r hr p _ => ?_
  exact K.offerPort p f hr

theorem offerRoutes (f : Frame) (h : P s) : P (s.offerRoutes f).state := K.offerTo _ f h

theorem reofferGo (cls : FrameClass) (ds : List Deferred) (h : P s) : P (reofferGo cls ds s).2.1 := by
  induction ds generalizing s with
  | nil => exact h
  | cons d ds ih =>
    unfold Machine.reofferGo
    split
    · dsimp only
      split
      · exact ih (K.offerRoutes d.frame h)
      · exact K.offerRoutes d.frame h
    · exact ih h

theorem withdraw (tag : DeferTag) (h : P s) : P (s.withdraw tag) :=
  K.deferredShrinks _ s List.filter_sublist h

end Kept

theorem State.offerTo_deferred (ps : List Side) (f : Frame) (s : State) :
    (s.offerTo ps f).state.deferred = s.deferred := by
  unfold State.offerTo
  refine List.foldlRecOn (motive := fun r : Sent => r.state.deferred = s.deferred) ps _ rfl fun r hr p _ => ?_
  refine Eq.trans ?_ hr
  unfold State.offerPort
  split <;> rfl

theorem reofferGo_deferred (cls : FrameClass) (ds : List Deferred) (s : State) :
    (reofferGo cls ds s).2.1.deferred = s.deferred := by
  induction ds generalizing s with
  | nil => rfl
  | cons d ds ih =>
    unfold reofferGo
    split
    · dsimp only
      split
      · exact (ih _).trans (State.offerTo_deferred _ _ s)
      · exact State.offerTo_deferred _ _ s
    · exact ih s

theorem reofferGo_sublist (cls : FrameClass) (ds : List Deferred) (s : State) :
    (reofferGo cls ds s).1.Sublist ds := by
  induction ds generalizing s with
  | nil => exact .slnil
  | cons d ds ih =>
    unfold reofferGo
    split
    · dsimp only
      split
      · exact (ih _).cons d
      · exact .refl _
    · exact (ih s).cons_cons d

theorem awaitedAfter_sublist (sequence : Byte) (as : List Awaited) :
    (awaitedAfter sequence as).Sublist as := by
  induction as with
  | nil => exact .slnil
  | cons a as ih =>
    unfold awaitedAfter
    split
    · exact List.sublist_cons_self a as
    · exact ih.cons a

namespace Kept

variable {P : State → Prop} (K : Kept P) {s : State}
include K

theorem reoffer (cls : FrameClass) (h : P s) : P (s.reoffer cls).1 := by
  refine K.deferredShrinks _ _ ?_ (K.reofferGo cls s.deferred h)
  rw [reofferGo_deferred]
  exact reofferGo_sublist cls s.deferred s

theorem offerToll_queued {d : Side} {sink : Nat} {e : TollEntry} (he : s.toll.oldestQueued = some e)
    (hsent : s.toll.sentCount < 8) (h : P s) : P (s.offerToll d sink e).state := by
  unfold State.offerToll
  have hport := K.offerPort d (s.tollFrame sink e) h
  have htoll : (s.offerPort d (s.tollFrame sink e)).state.toll = s.toll := by
    unfold State.offerPort; split <;> rfl
  dsimp only
  split
  · exact K.tollSent e _ _ (by rw [htoll, he]) (by rw [htoll]; exact hsent) hport
  · exact hport

theorem tollTryGo (n : Nat) (h : P s) : P (tollTryGo n s).1 := by
  induction n generalizing s with
  | zero => exact h
  | succ n ih =>
    unfold Machine.tollTryGo
    split
    next d sink e _ he =>
      split
      next hsent =>
        dsimp only
        split
        · exact ih (K.offerToll_queued he hsent h)
        · exact K.offerToll_queued he hsent h
      next => exact h
    next => exact h

theorem onTake (t : Take) (h : P s) : P (s.onTake t).1 := by
  unfold State.onTake
  split
  · exact K.reoffer _ h
  · dsimp only
    split
    · exact K.tollTryGo 8 (K.reoffer _ h)
    · exact K.reoffer _ h
  · exact h

theorem settle (ts : List Take) (h : P s) : P (s.settle ts) := by
  unfold State.settle
  generalize 8 = n
  induction n generalizing s ts with
  | zero => exact h
  | succ n ih =>
    cases ts with
    | nil => exact h
    | cons t ts => exact ih _ (K.onTake t h)

theorem sendTold (f : Frame) (h : P s) : P (s.sendTold f).2 := K.settle _ (K.offerRoutes f h)

theorem send (f : Frame) (h : P s) : P (s.send f) := K.sendTold f h

theorem sendOneOff (tag : DeferTag) (f : Frame) (h : P s) : P (s.sendOneOff tag f) := by
  unfold State.sendOneOff
  dsimp only
  split
  · exact K.sendTold f h
  · exact K.defer tag f _ (K.sendTold f h)

theorem sendOn (p : Side) (f : Frame) (h : P s) : P (s.sendOn p f) := K.settle _ (K.offerPort p f h)

theorem tollTry (h : P s) : P s.tollTry := K.settle _ (K.tollTryGo 8 h)

/-! ### Signs -/

theorem modFace (f : Face) (g : FaceUnit → FaceUnit) (hg : (g (s.faces.get f)).awaited.Sublist (s.faces.get f).awaited)
    (h : P s) : P (s.modFace f g) :=
  K.face f (g (s.faces.get f)) s hg h

theorem select (f : Face) (h : P s) : P (s.select f) := by
  unfold State.select
  split
  · exact K.modFace f _ (.refl _) h
  · exact h

theorem selectBoth (h : P s) : P s.selectBoth := K.select .west (K.select .east h)

theorem startSelection (f : Face) (h : P s) : P (s.startSelection f) := K.select f (K.modFace f _ (.refl _) h)

theorem countMissing (f : Face) (h : P s) : P (s.countMissing f) := by
  unfold State.countMissing
  split
  · exact K.latch _ _ (K.modFace f _ (.refl _) h)
  · exact K.modFace f _ (.refl _) h

theorem imageIfChanged (f : Face) (before : State) (h : P s) : P (s.imageIfChanged f before) := by
  unfold State.imageIfChanged
  split
  · split
    · exact h
    · exact K.image f s h
  · exact h

theorem withImages {act : State → State} (h : P (act s)) : P (s.withImages act) :=
  K.imageIfChanged .west s (K.imageIfChanged .east s h)

theorem onTimer (t : Timer) {act : State → State} (hact : ∀ u due, t = some due → u = s.clockTo due → P u → P (act u))
    (h : P s) : P (s.onTimer t act) := by
  obtain e | ⟨due, ht, -, e⟩ := State.onTimer_cases t act s
  · rw [e]; exact h
  · rw [e]; exact hact _ due ht rfl (K.clockTo due h)

theorem onSignTimer (t : Timer) {act : State → State} (hact : ∀ u, P u → P (act u)) (h : P s) :
    P (s.onSignTimer t act) :=
  K.onTimer t (fun u _ _ _ hu => K.withImages (hact u hu)) h

omit K in
theorem unlessHeld {act : State → State} (hact : P s → P (act s)) (h : P s) : P (s.unlessHeld act) := by
  obtain e | ⟨-, e⟩ := State.unlessHeld_cases act s <;> rw [e]
  · exact h
  · exact hact h

theorem command (c : Command) (args : List Word) {body : State → ResponseCode × Answer × State}
    (hbody : P s → P (body s).2.2) (h : P s) : P (s.command c args body) := by
  obtain ⟨-, e⟩ | ⟨code, -, e⟩ | ⟨-, e⟩ := State.command_cases c args body s <;> rw [e]
  · exact h
  · exact K.others _ _ rfl h
  · exact K.others _ _ rfl (hbody h)

theorem dwellEnds (f : Face) (h : P s) : P (s.dwellEnds f) := by
  refine K.modFace f _ ?_ h
  dsimp only
  split
  · exact .refl _
  · split
    · exact .refl _
    · split <;> exact .refl _

theorem applyPage (origin : Nat) (notice : PageNotice) (h : P s) : P (s.applyPage origin notice).2 := by
  unfold State.applyPage
  dsimp only
  split_ifs
  · exact K.others _ _ rfl h
  · exact K.selectBoth (K.others _ _ rfl h)
  · exact K.others _ _ rfl h
  · exact h

theorem minuteEnds (n : Fin 32) (h : P s) : P (s.minuteEnds n) := by
  unfold State.minuteEnds
  split
  · exact h
  · dsimp only
    split
    · exact K.selectBoth (K.others _ _ rfl h)
    · exact K.others _ _ rfl h

theorem takeAnswer (f : Face) (r : SignRecord) (h : P s) : P (s.takeAnswer f r) := by
  have hface := K.modFace f (fun u =>
    { u with
      awaited := awaitedAfter r.sequence u.awaited
      missing := 0
      lastAnswer := some r.reply
      faulted := match r.reply with | .ok => false | .pixelFault _ => u.faulted | .dark => true })
    (awaitedAfter_sublist _ _) h
  unfold State.takeAnswer
  dsimp only
  split
  · exact K.latch _ _ hface
  · exact hface

theorem setFaceDarkBody (args : List Word) (h : P s) : P (setFaceDarkBody args s).2.2 := by
  unfold Machine.setFaceDarkBody
  split
  · exact h
  · split
    · exact h
    · split
      · exact h
      · dsimp only
        split
        · exact K.modFace _ _ (List.nil_sublist _) h
        · exact K.image _ _ (K.startSelection _ (K.modFace _ _ (.refl _) h))

theorem publishBody (args : List Word) (h : P s) : P (publishBody args s).2.2 := by
  unfold Machine.publishBody
  split
  · exact h
  · exact K.sendOneOff _ _ (K.applyPage _ _ h)

theorem withdrawBody (args : List Word) (h : P s) : P (withdrawBody args s).2.2 := by
  unfold Machine.withdrawBody
  split
  · exact h
  · exact K.sendOneOff _ _ (K.applyPage _ _ h)

/-! ### Speeds, readings and incidents -/

theorem modSpeed (g : Speed → Speed) (h : P s) : P (s.modSpeed g) := K.others _ _ rfl h

theorem modWarnings (g : Warnings → Warnings) (h : P s) : P (s.modWarnings g) := K.others _ _ rfl h

theorem buildSpeed (h : P s) : P s.buildSpeed := by
  unfold State.buildSpeed
  exact K.modSpeed _ (K.send _ h)

theorem setCloseAdvised (f : Face) (on : Bool) (h : P s) : P (s.setCloseAdvised f on) := by
  unfold State.setCloseAdvised
  split
  · exact h
  · exact K.select f (K.modWarnings _ h)

theorem evaluate (timer : Bool) (h : P s) : P (s.evaluate timer) := by
  unfold State.evaluate
  dsimp only
  have hset : ∀ x a b, P (((s.modSpeed x).setCloseAdvised .east a).setCloseAdvised .west b) := fun x a b =>
    K.setCloseAdvised _ _ (K.setCloseAdvised _ _ (K.modSpeed x h))
  split
  · exact hset ..
  · exact K.buildSpeed (hset ..)

theorem takeSpeed (p : Side) (f : Frame) (x : SpeedFields) (h : P s) : P (s.takeSpeed p f x) := by
  unfold State.takeSpeed
  dsimp only
  split_ifs
  · exact K.evaluate _ (K.modSpeed _ h)
  · exact K.modSpeed _ h
  · exact h

theorem setWarnings (w : Warnings) (h : P s) : P (s.setWarnings w) := by
  have hw : P (s.modWarnings fun _ => w) := K.modWarnings _ h
  unfold State.setWarnings
  dsimp only
  split <;> split
  · exact K.select _ (K.select _ hw)
  · exact K.select _ hw
  · exact K.select _ hw
  · exact hw

theorem modReadings (g : Readings → Readings) (hg : (g s.readings).delivery.Sublist s.readings.delivery) (h : P s) :
    P (s.modReadings g) := K.readings (g s.readings) s hg h

theorem modReading (k : ReadingKind) (g : Reading → Reading) (h : P s) : P (s.modReading k g) :=
  K.modReadings _ (.refl _) h

theorem broadcastReading (k : ReadingKind) (r : PendingReading) (h : P s) : P (s.broadcastReading k r) := by
  unfold State.broadcastReading
  exact K.modReading k _ (K.sendTold _ h)

theorem storeReading (k : ReadingKind) (v : Int) (clamped : Bool) (h : P s) : P (s.storeReading k v clamped) := by
  unfold State.storeReading
  dsimp only
  split
  · exact K.modReadings _ (.refl _) (K.modReading k _ h)
  · exact K.modReading k _ h

theorem broadcastOrKeep (k : ReadingKind) (r : PendingReading) (h : P s) : P (s.broadcastOrKeep k r) := by
  unfold State.broadcastOrKeep
  split
  · exact K.modReading k _ h
  · exact K.broadcastReading k r h

theorem submitReading (k : ReadingKind) (given : Int) (h : P s) : P (s.submitReading k given) :=
  K.evaluate _ (K.setWarnings _ (K.broadcastOrKeep k _ (K.storeReading k _ _ h)))

theorem submitReadingBody (args : List Word) (h : P s) : P (submitReadingBody args s).2.2 := by
  unfold Machine.submitReadingBody
  split
  · exact h
  · exact K.submitReading _ _ h

theorem readingGone (k : ReadingKind) (h : P s) : P (s.readingGone k) := by
  unfold State.readingGone
  refine K.setWarnings _ (K.latch _ _ ?_)
  split
  · exact K.modReadings _ (.refl _) (K.modReading k _ h)
  · exact K.modReading k _ h

theorem rateTimerEnds (k : ReadingKind) (h : P s) : P (match (s.reading k).pending with
    | some r => s.broadcastReading k r
    | none => s.modReading k fun x => { x with rateTimer := none }) := by
  split
  · exact K.broadcastReading k _ h
  · exact K.modReading k _ h

theorem fetchReadingBody (h : P s) : P (fetchReadingBody s).2.2 := by
  unfold Machine.fetchReadingBody
  split
  · exact h
  next e es hd =>
    exact K.modReadings (fun x => { x with delivery := es }) (by rw [hd]; exact List.sublist_cons_self e es) h

theorem incidentsChanged (cause : Bool) (h : P s) : P (s.incidentsChanged cause) := by
  unfold State.incidentsChanged
  dsimp only
  split
  · exact K.evaluate _ (K.setWarnings _ h)
  · exact K.setWarnings _ h

theorem enterIncident (e : Incident) (h : P s) : P (s.enterIncident e) := by
  unfold State.enterIncident
  dsimp only
  split
  · exact h
  · split
    · split
      · exact K.incidentRefreshed e s h
      · exact K.incidentsChanged _ (K.incidentRefreshed e s h)
    next hnew =>
      split
      next hlen => exact K.incidentsChanged _ (K.incidentAdded e s hnew hlen h)
      next =>
        split
        · exact h
        next v hv =>
          split
          · exact K.incidentsChanged _ (K.incidentReplaced e v s hnew hv h)
          · exact h

theorem takeIncident (p : Side) (f : Frame) (callId : Byte) (b : Fin 4) (h : P s) : P (s.takeIncident p f callId b) := by
  unfold State.takeIncident
  split
  · exact K.enterIncident _ h
  · exact h

theorem ownNotice (callId : Byte) (b : Fin 4) (h : P s) : P (s.ownNotice callId b) := K.enterIncident _ h

theorem modIncidents (g : Incidents → Incidents) (ht : (g s.incidents).table.Sublist s.incidents.table)
    (hc : (g s.incidents).cleared.Sublist s.incidents.cleared) (h : P s) : P (s.modIncidents g) :=
  K.incidentsShrink (g s.incidents) s ht hc h

theorem removeIncident (origin : Nat) (callId : Byte) (h : P s) : P (s.removeIncident origin callId) := by
  unfold State.removeIncident
  split
  · exact K.incidentsChanged _ (K.modIncidents _ List.filter_sublist (.refl _) h)
  · exact h

end Kept

end Sys2Proof.Machine
end

section
/-! Every operation keeps what each single update keeps: circuits, calls, voice and the toll unit. -/

namespace Sys2Proof.Machine

open Sys2Proof

/-! ### What the bound circuits give -/

@[simp] theorem State.modClaim_claims_self (b : Fin 4) (f : ClaimRecord → ClaimRecord) (s : State) :
    (s.modClaim b f).claims[b] = f s.claims[b] := by simp

@[simp] theorem State.modCall_calls_self (b : Fin 4) (f : CallRecord → CallRecord) (s : State) :
    (s.modCall b f).calls[b] = f s.calls[b] := by simp

theorem State.modCall_calls_other {b b' : Fin 4} (hb : b ≠ b') (f : CallRecord → CallRecord) (s : State) :
    (s.modCall b f).calls[b'] = s.calls[b'] := by
  simp [Fin.val_inj, hb]

theorem State.modClaim_claims_other {b b' : Fin 4} (hb : b ≠ b') (f : ClaimRecord → ClaimRecord) (s : State) :
    (s.modClaim b f).claims[b'] = s.claims[b'] := by
  simp [Fin.val_inj, hb]

/-- The call seeks a circuit: it is current, has none and does not wait for one. -/
def State.Seeks (b : Fin 4) (s : State) : Prop :=
  s.calls[b].state ≠ .idle ∧ s.calls[b].circuit = none ∧ s.claims[b].wait = none

theorem State.CircuitsBound.of_boundTo {s : State} (h : s.CircuitsBound) {b : Fin 4} {c : Fin 16}
    (hc : s.circuits[c].boundTo b = true) :
    s.calls[b].circuit = some c ∧ s.calls[b].state ≠ .idle ∧ s.claims[b].wait = none := by
  obtain ⟨hcirc, hidle, hwait⟩ := h b
  have hsome := (hcirc c).1 hc
  refine ⟨hsome, fun hi => ?_, ?_⟩
  · exact Option.some_ne_none c (hsome.symm.trans (hidle hi).1)
  · cases hw : s.claims[b].wait with
    | none => rfl
    | some t => exact absurd (hsome.symm.trans (hwait (by rw [hw]; rfl))) (Option.some_ne_none c)

theorem State.LineWork.circuits {s t : State} (h : s.LineWork t) : t.circuits = s.circuits := by
  obtain ⟨_, _, _, rfl, _⟩ := h; rfl

theorem State.LineWork.calls {s t : State} (h : s.LineWork t) : t.calls = s.calls := by
  obtain ⟨_, _, _, rfl, _⟩ := h; rfl

theorem State.LineWork.claims {s t : State} (h : s.LineWork t) : t.claims = s.claims := by
  obtain ⟨_, _, _, rfl, _⟩ := h; rfl

theorem State.RoadWork.calls {s t : State} (h : s.RoadWork t) : t.calls = s.calls := by
  obtain ⟨_, _, _, _, ⟨_, _, _, rfl, _⟩, rfl⟩ := h; rfl

theorem State.RoadWork.claims {s t : State} (h : s.RoadWork t) : t.claims = s.claims := by
  obtain ⟨_, _, _, _, ⟨_, _, _, rfl, _⟩, rfl⟩ := h; rfl

theorem State.ownNotice_calls (callId : Byte) (b : Fin 4) (s : State) : (s.ownNotice callId b).calls = s.calls := by
  obtain ⟨i, h⟩ := State.enterIncident_roadWork ⟨s.number, callId, b, .own, 0, s.now⟩ s
  exact h.calls

/-- The record that `putCall` leaves differs from the one given in the moment of its change alone. -/
theorem State.putCall_calls (b : Fin 4) (r : CallRecord) (s : State) :
    ∃ at', (s.putCall b r).calls[b] = { r with changedAt := at' } := by
  unfold State.putCall
  dsimp only
  split
  · refine ⟨r.changedAt, ?_⟩
    split <;> simp [State.markCalls]
  · refine ⟨s.now, ?_⟩
    split <;> simp [State.markCalls, State.withdraw, State.playCallChange, State.modBoxAudio, State.modTone]

theorem State.releaseCall_calls (b : Fin 4) (s : State) : (s.releaseCall b).calls[b].circuit = none := by
  unfold State.releaseCall
  dsimp only
  split
  · simp [State.setCallCircuit]
  · rw [(State.sendOneOff_lineWork _ _ _).calls]
    simp [State.setCallCircuit, State.withdraw]

theorem State.releaseCall_claims (b : Fin 4) (s : State) : (s.releaseCall b).claims[b] = resetClaim := by
  unfold State.releaseCall
  dsimp only
  split
  · simp [State.setCallCircuit]
  · rw [(State.sendOneOff_lineWork _ _ _).claims]
    simp [State.setCallCircuit, State.withdraw]

theorem State.boundCircuit_some {b : Fin 4} {c : Fin 16} {s : State} (h : s.boundCircuit b = some c) :
    s.calls[b].circuit = some c ∧ s.circuits[c].boundTo b = true := by
  unfold State.boundCircuit at h
  split at h
  · simp at h
  next c' hc =>
    split at h
    next hb => cases h; exact ⟨hc, hb⟩
    · simp at h

theorem State.CircuitsBound.circuit_of_boundCircuit_none {s : State} (hs : s.CircuitsBound) {b : Fin 4}
    (h : s.boundCircuit b = none) : s.calls[b].circuit = none := by
  unfold State.boundCircuit at h
  split at h
  next hc => exact hc
  next c hc =>
    rw [((hs b).1 c).2 hc] at h
    simp at h

/-- A circuit given up leaves its call seeking another. -/
theorem State.CircuitsBound.seeks_of_givenUp {s : State} (hs : s.CircuitsBound) {c : Fin 16} {b : Fin 4} (x : Circuit)
    (hc : s.circuits[c].boundTo b = true) :
    (((s.modCircuit c fun _ => x).setCallCircuit b none).withdraw (.claim c)).Seeks b := by
  simpa [State.Seeks, State.setCallCircuit, State.withdraw] using (hs.of_boundTo hc).2

namespace Kept

variable {P : State → Prop} (K : Kept P) {s : State}
include K

/-! ### Circuits -/

theorem modClaim (b : Fin 4) (f : ClaimRecord → ClaimRecord)
    (hf : (∀ s, P s → s.CircuitsBound) →
      (s.calls[b].state = .idle → (f s.claims[b]).wanted = false ∧ (f s.claims[b]).wait = none) ∧
        ((f s.claims[b]).wait.isSome = true → s.calls[b].circuit = none)) (h : P s) : P (s.modClaim b f) := by
  refine K.claims _ s (fun hdep b' => ?_) h
  by_cases hb : b = b'
  · subst hb
    simpa using hf hdep
  · have hs := (hdep s h b').2
    simp only [Fin.getElem_fin, Vector.getElem_set, Fin.val_inj, hb, if_false] at hs ⊢
    exact ⟨fun hi => (hs.1 hi).2, hs.2⟩

theorem resetClaim (b : Fin 4) (h : P s) : P (s.modClaim b fun _ => resetClaim) :=
  K.modClaim b _ (fun _ => ⟨fun _ => ⟨rfl, rfl⟩, fun hw => by simp [Machine.resetClaim] at hw⟩) h

theorem modCall (b : Fin 4) (f : CallRecord → CallRecord)
    (hf : (∀ s, P s → s.CircuitsBound) → (f s.calls[b]).circuit = s.calls[b].circuit ∧
      ((f s.calls[b]).state = .idle →
        s.calls[b].circuit = none ∧ s.claims[b].wanted = false ∧ s.claims[b].wait = none)) (h : P s) :
    P (s.modCall b f) := by
  refine K.calls _ s (fun hdep b' => ?_) h
  by_cases hb : b = b'
  · subst hb
    simpa using hf hdep
  · have hs := (hdep s h b').2
    simp only [Fin.getElem_fin, Vector.getElem_set, Fin.val_inj, hb, if_false, true_and] at hs ⊢
    exact hs.1

/-- A call record may change in anything but its circuit and its being idle. -/
theorem modCall_aside (b : Fin 4) (f : CallRecord → CallRecord)
    (hf : ∀ r, (f r).circuit = r.circuit ∧ (f r).state = r.state) (h : P s) : P (s.modCall b f) := by
  refine K.modCall b f (fun hdep => ⟨(hf _).1, fun hi => ?_⟩) h
  exact (hdep s h b).2.1 ((hf _).2.symm.trans hi)

theorem chooseCircuit (b : Fin 4) (hb : (∀ s, P s → s.CircuitsBound) → s.Seeks b) (h : P s) :
    P (s.chooseCircuit b) := by
  unfold State.chooseCircuit
  split
  · exact K.modClaim b _ (fun hdep => ⟨fun hi => absurd hi (hb hdep).1, fun _ => (hb hdep).2.1⟩) h
  next c hfree =>
    refine K.sendOneOff _ _ (K.circuitClaimed c b _ s ?_ hb h)
    unfold State.lowestFree at hfree
    simpa using List.find?_some hfree

theorem wantCircuit (b : Fin 4) (hb : (∀ s, P s → s.CircuitsBound) → s.calls[b].state ≠ .idle ∧ s.calls[b].circuit = none)
    (h : P s) : P (s.wantCircuit b) := by
  refine K.chooseCircuit b (fun hdep => ?_) (K.modClaim b _ (fun hdep => ?_) h)
  · exact ⟨(hb hdep).1, (hb hdep).2, by simp⟩
  · exact ⟨fun hi => absurd hi (hb hdep).1, fun hw => by simp at hw⟩

theorem yieldCircuit {c : Fin 16} {b : Fin 4} (rival : Nat) (hc : s.circuits[c].boundTo b = true) (h : P s) :
    P (s.yieldCircuit c b rival) := by
  have hu := K.withdraw (.claim c) (K.circuitGivenUp c b (.heldOther rival s.now) s (fun _ => rfl) hc h)
  have hseeks := fun hdep : ∀ s, P s → s.CircuitsBound => (hdep s h).seeks_of_givenUp (.heldOther rival s.now) hc
  unfold State.yieldCircuit
  dsimp only
  generalize ((s.modCircuit c fun _ => .heldOther rival s.now).setCallCircuit b none).withdraw (.claim c) = u at hu hseeks ⊢
  generalize min 3 (u.claims[b].yields + 1) = n
  have hyields : P (u.modClaim b fun r => { r with yields := n }) :=
    K.modClaim b _ (fun hdep => ⟨fun hi => absurd hi (hseeks hdep).1, fun _ => (hseeks hdep).2.1⟩) hu
  split
  · exact K.chooseCircuit b (fun hdep => by simpa [State.Seeks] using hseeks hdep) hyields
  · exact K.modClaim b _ (fun hdep => ⟨fun hi => absurd hi (hseeks hdep).1, fun _ => (hseeks hdep).2.1⟩) hyields

theorem sendAssert {c : Fin 16} {b : Fin 4} (hc : ∀ b', s.circuits[c].boundTo b' = (b == b')) (h : P s) :
    P (s.sendAssert c b) := by
  refine K.circuitAlike c _ _ (fun b' => ?_) (K.sendOneOff _ _ h)
  rw [(State.sendOneOff_lineWork _ _ s).circuits, hc b']
  rfl

theorem rehome {c : Fin 16} {b : Fin 4} (rival : Nat) (hc : s.circuits[c].boundTo b = true) (h : P s) :
    P (s.rehome c b rival) := by
  refine K.wantCircuit b (fun hdep => ?_)
    (K.withdraw (.claim c) (K.circuitGivenUp c b (.heldOther rival s.now) s (fun _ => rfl) hc h))
  have hseeks := (hdep s h).seeks_of_givenUp (.heldOther rival s.now) hc
  exact ⟨hseeks.1, hseeks.2.1⟩

theorem takeClaim (rival : Nat) (c : Fin 16) (held : Bool) (h : P s) : P (s.takeClaim rival c held) := by
  unfold State.takeClaim
  split
  next hc => exact K.circuitAlike c _ s (fun _ => by rw [hc]; rfl) h
  next hc =>
    split
    · exact K.circuitAlike c _ s (fun _ => by rw [hc]; rfl) h
    · exact h
  next b _ hc =>
    split
    · exact K.yieldCircuit rival (by rw [hc]; simp [Circuit.boundTo]) h
    · exact K.sendOneOff _ _ h
  next b _ _ hc =>
    split
    · exact K.rehome rival (by rw [hc]; simp [Circuit.boundTo]) h
    · unfold State.meetRival
      split
      · exact h
      · exact K.sendAssert (fun _ => by rw [hc]; rfl) h

theorem showVoice (f : Frame) (h : P s) : P (s.showVoice f) := by
  unfold State.showVoice
  split
  · exact K.takeClaim _ _ _ h
  · exact h

theorem takeRelease (origin : Nat) (c : Fin 16) (h : P s) : P (s.takeRelease origin c) := by
  unfold State.takeRelease
  split
  next hc =>
    split
    · exact K.circuitAlike c _ s (fun _ => by rw [hc]; rfl) h
    · exact h
  · exact h

theorem releaseCall (b : Fin 4) (h : P s) : P (s.releaseCall b) := by
  have hclaim := K.resetClaim b h
  unfold State.releaseCall
  dsimp only
  split
  next hnone =>
    refine K.modCall b _ (fun hdep => ?_) hclaim
    have hcirc := (hdep s h).circuit_of_boundCircuit_none hnone
    exact ⟨hcirc.symm, fun _ => ⟨hcirc, by simp [Machine.resetClaim]⟩⟩
  next c hsome =>
    exact K.sendOneOff _ _ (K.withdraw _
      (K.circuitGivenUp c b .free _ (fun _ => rfl) (State.boundCircuit_some hsome).2 hclaim))

theorem waitEnds (b : Fin 4) (hw : s.claims[b].wait.isSome = true) (h : P s) : P (s.waitEnds b) := by
  have hseeks : (∀ s, P s → s.CircuitsBound) → s.calls[b].state ≠ .idle ∧ s.calls[b].circuit = none := fun hdep =>
    ⟨fun hi => absurd hw (by rw [((hdep s h b).2.1 hi).2.2]; exact Bool.false_ne_true), (hdep s h b).2.2 hw⟩
  have hclaim := K.modClaim b
    (fun r => { r with wait := none, yields := if r.wanted && r.yields == 3 then 0 else r.yields })
    (fun hdep => ⟨fun hi => absurd hi (hseeks hdep).1, fun _ => (hseeks hdep).2⟩) h
  unfold State.waitEnds
  dsimp only
  split
  · exact K.chooseCircuit b (fun hdep => by simpa [State.Seeks] using hseeks hdep) hclaim
  · exact hclaim

/-! ### Voice and playout -/

theorem modBoxAudio (b : Fin 4) (f : Audio → Audio) (hf : ∀ a : Audio, a.store.Moves (f a).store) (h : P s) :
    P (s.modBoxAudio b f) := by
  refine K.playout _ s (fun b' => ?_) (fun l => .same) h
  by_cases hb : b = b'
  · subst hb; simpa using hf _
  · simpa [Vector.getElem_set, Fin.val_inj, hb] using JitterStore.Moves.same

theorem modLaneAudio (l : Fin 2) (f : Audio → Audio) (hf : ∀ a : Audio, a.store.Moves (f a).store) (h : P s) :
    P (s.modLaneAudio l f) := by
  refine K.playout _ s (fun b => .same) (fun l' => ?_) h
  by_cases hl : l = l'
  · subst hl; simpa using hf _
  · simpa [Vector.getElem_set, Fin.val_inj, hl] using JitterStore.Moves.same

theorem modTone (b : Fin 4) (f : Tone → Tone) (h : P s) : P (s.modTone b f) :=
  K.playout _ s (fun _ => .same) (fun _ => .same) h

theorem playCallChange (b : Fin 4) (old new : CallState) (h : P s) : P (s.playCallChange b old new) :=
  K.modTone b _ (K.modBoxAudio b _ (fun _ => .emptied) h)

theorem playLaneChange (l : Fin 2) (old new : LaneState) (h : P s) : P (s.playLaneChange l old new) :=
  K.modLaneAudio l _ (fun _ => .emptied) h

/-! ### Calls -/

theorem modCallUnit (f : CallUnit → CallUnit) (hf : (f s.callUnit).offers.Sublist s.callUnit.offers) (h : P s) :
    P (s.modCallUnit f) := K.callUnit (f s.callUnit) s hf h

theorem markCalls (h : P s) : P s.markCalls := K.modCallUnit _ (.refl _) h

theorem putCall (b : Fin 4) (r : CallRecord) (hr : (∀ s, P s → s.CircuitsBound) → r.circuit = s.calls[b].circuit ∧
      (r.state = .idle → s.calls[b].circuit = none ∧ s.claims[b].wanted = false ∧ s.claims[b].wait = none)) (h : P s) :
    P (s.putCall b r) := by
  unfold State.putCall
  dsimp only
  split
  · have hcall : P (s.modCall b fun _ => r) := K.modCall b _ hr h
    split
    · exact hcall
    · exact K.markCalls hcall
  · have hcall : P (s.modCall b fun _ => { r with changedAt := s.now }) := K.modCall b _ hr h
    split
    · exact K.withdraw _ (K.playCallChange _ _ _ (K.markCalls hcall))
    · exact K.playCallChange _ _ _ (K.markCalls hcall)

theorem putLane (l : Fin 2) (r : OpLane) (h : P s) : P (s.putLane l r) := by
  have hlane : ∀ x, P (s.modCallUnit fun u => { u with lanes := u.lanes.set l x }) := fun x =>
    K.modCallUnit _ (.refl _) h
  unfold State.putLane
  dsimp only
  generalize (if r.state = s.callUnit.lanes[l].state then r else { r with changedAt := s.now }) = x
  split
  · exact hlane x
  · split
    · exact K.withdraw _ (K.playLaneChange _ _ _ (K.markCalls (hlane x)))
    · exact K.playLaneChange _ _ _ (K.markCalls (hlane x))

theorem laneToIdle (l : Fin 2) (outcome : LaneOutcome) (h : P s) : P (s.laneToIdle l outcome) := K.putLane l _ h

theorem laneToLost (l : Fin 2) (outcome : LaneOutcome) (h : P s) : P (s.laneToLost l outcome) := K.putLane l _ h

theorem offerIfHeld (b : Fin 4) (h : P s) : P (s.offerIfHeld b) := by
  unfold State.offerIfHeld
  split
  · exact K.send _ (K.modCall_aside b _ (fun _ => ⟨rfl, rfl⟩) h)
  · exact K.modCall_aside b _ (fun _ => ⟨rfl, rfl⟩) h

theorem enterOffering (b : Fin 4) (h : P s) : P (s.enterOffering b) :=
  K.offerIfHeld b (K.putCall b _ (fun _ => ⟨rfl, fun hi => by simp at hi⟩) h)

theorem circuitHeld (b : Fin 4) (h : P s) : P (s.circuitHeld b) := by
  unfold State.circuitHeld
  split
  · exact K.enterOffering b h
  · split
    · exact K.offerIfHeld b h
    · exact h
  · exact h

theorem claimStands {c : Fin 16} {b : Fin 4} (hc : ∀ b', s.circuits[c].boundTo b' = (b == b')) (h : P s) :
    P (s.claimStands c b) :=
  K.circuitHeld b (K.resetClaim b (K.circuitAlike c _ s (fun b' => by rw [hc b']; rfl) h))

theorem beginCall (b : Fin 4) (hb : (∀ s, P s → s.CircuitsBound) → s.calls[b].circuit = none) (h : P s) :
    P (s.beginCall b) := by
  unfold State.beginCall
  dsimp only
  refine K.wantCircuit b (fun _ => ?_) (K.ownNotice _ b (K.sendOneOff _ _ (K.putCall b _ (fun hdep => ?_)
    (K.modCallUnit _ (.refl _) h))))
  · rw [State.ownNotice_calls, (State.sendOneOff_lineWork _ _ _).calls]
    obtain ⟨at', e⟩ := State.putCall_calls b
      { s.calls[b] with
        state := .seizing, callId := some s.callUnit.nextCallId, circuit := none, partner := none, offerCount := none,
        offeringSince := none, offerTimer := none, incidentTimer := s.startTimer 10000, silenceTimer := none }
      (s.modCallUnit fun u => { u with nextCallId := u.nextCallId + 1 })
    rw [e]
    exact ⟨by simp, rfl⟩
  · exact ⟨(hb hdep).symm, fun hi => by simp at hi⟩

theorem beginIfOffHook (b : Fin 4) (h : P s) : P (s.beginIfOffHook b) := by
  unfold State.beginIfOffHook
  split
  next hb =>
    have hidle : s.calls[b].state = .idle := by simp at hb; exact hb.2
    exact K.beginCall b (fun hdep => ((hdep s h b).2.1 hidle).1) h
  · exact h

theorem beginCalls (h : P s) : P s.beginCalls := by
  unfold State.beginCalls
  exact List.foldlRecOn (motive := P) boxIndices _ h fun s hs b _ => K.beginIfOffHook b hs

theorem hangupPartner (b : Fin 4) (h : P s) : P (s.hangupPartner b) := by
  unfold State.hangupPartner
  dsimp only
  split
  · exact K.sendOneOff _ _ h
  · exact h

theorem endCall (b : Fin 4) (h : P s) : P (s.endCall b) := by
  refine K.putCall b _ (fun _ => ?_) (K.releaseCall b (K.hangupPartner b h))
  have hcirc := State.releaseCall_calls b (s.hangupPartner b)
  exact ⟨hcirc.symm, fun _ => ⟨hcirc, by rw [State.releaseCall_claims]; exact ⟨rfl, rfl⟩⟩⟩

theorem refreshIncident (b : Fin 4) (h : P s) : P (s.refreshIncident b) :=
  K.ownNotice _ b (K.send _ (K.modCall_aside b _ (fun _ => ⟨rfl, rfl⟩) h))

theorem losePartner (b : Fin 4) (h : P s) : P (s.losePartner b) := by
  unfold State.losePartner
  split
  · exact K.enterOffering b h
  · exact h

theorem takeTake (p : Side) (origin : Nat) (callId : Byte) (lane : Fin 2) (h : P s) :
    P (s.takeTake p origin callId lane) := by
  unfold State.takeTake
  split
  · exact K.sendOneOff _ _ h
  · split
    · exact K.putCall _ _ (fun _ => ⟨rfl, fun hi => by simp at hi⟩) h
    · split
      · exact h
      · exact K.sendOneOff _ _ h
    · exact K.sendOneOff _ _ h
    · exact h

theorem takeHangupToBox (origin : Nat) (callId : Byte) (h : P s) : P (s.takeHangupToBox origin callId) := by
  unfold State.takeHangupToBox
  split
  · exact h
  · split
    · exact K.putCall _ _ (fun _ => ⟨rfl, fun hi => by simp at hi⟩) (K.releaseCall _ h)
    · exact h

theorem setOffers (offers : List Offer) (ho : offers.Sublist s.callUnit.offers) (h : P s) : P (s.setOffers offers) :=
  K.modCallUnit _ ho h

theorem takeOffer (p : Side) (origin : Nat) (o : OfferFields) (h : P s) : P (s.takeOffer p origin o) := by
  unfold State.takeOffer
  dsimp only
  split
  · refine K.offerRefreshed (fun x => if x.hasKey origin o.callId then
        { x with circuit := o.circuit, count := o.count, port := p, lastHeard := s.now } else x)
      _ s rfl (fun x => ?_) h
    split <;> exact ⟨rfl, rfl⟩
  next hnew =>
    split
    · exact h
    · split
      · exact K.sendOneOff _ _ h
      · exact K.offerAdded ⟨origin, o.callId, o.box, o.circuit, o.count, p, s.now, s.now⟩ _ s
          (Bool.not_eq_true _ ▸ hnew) rfl h

theorem removeOffer (origin : Nat) (callId : Byte) (h : P s) : P (s.removeOffer origin callId) := by
  unfold State.removeOffer
  split
  · exact K.setOffers _ List.filter_sublist h
  · exact h

theorem takeCallBody (args : List Word) (h : P s) : P (takeCallBody args s).2.2 := by
  unfold Machine.takeCallBody
  split
  · exact h
  · split
    · exact h
    · split
      · exact h
      · split
        · exact h
        · exact K.sendOneOff _ _ (K.putLane _ _ (K.markCalls (K.removeOffer _ _ h)))

theorem takeTimerEnds (l : Fin 2) (h : P s) : P (s.takeTimerEnds l) := by
  unfold State.takeTimerEnds
  dsimp only
  split
  · exact h
  · split
    · exact K.sendOneOff _ _ (K.putLane _ _ h)
    · exact K.laneToLost _ _ h

theorem hangupCaller (l : Fin 2) (h : P s) : P (s.hangupCaller l) := by
  unfold State.hangupCaller
  dsimp only
  split
  · exact h
  · split
    · exact K.sendOneOff _ _ h
    · exact h

theorem endCallBody (args : List Word) (h : P s) : P (endCallBody args s).2.2 := by
  unfold Machine.endCallBody
  split
  · split
    · exact h
    · split
      · exact h
      · split
        · exact K.markCalls h
        · exact K.markCalls (K.laneToIdle _ _ (K.hangupCaller _ h))
  · exact h

theorem refuseLane (origin : Nat) (callId : Byte) (ended : Bool) (l : Fin 2) (h : P s) :
    P (s.refuseLane origin callId ended l) := by
  unfold State.refuseLane
  dsimp only
  split
  · exact K.laneToIdle _ _ h
  · exact h

theorem hangupLane (origin : Nat) (callId : Byte) (l : Fin 2) (h : P s) : P (s.hangupLane origin callId l) := by
  unfold State.hangupLane
  dsimp only
  split
  · exact K.laneToIdle _ _ h
  · exact h

theorem takeHangup (origin : Nat) (callId : Byte) (towardLane : Bool) (h : P s) :
    P (s.takeHangup origin callId towardLane) := by
  unfold State.takeHangup
  split
  · exact List.foldlRecOn (motive := P) laneIndices _ (K.removeOffer _ _ h) fun s hs l _ => K.hangupLane _ _ l hs
  · exact K.takeHangupToBox _ _ h

theorem voiceAtBox (origin : Nat) (v : Voice) (b : Fin 4) (h : P s) : P (s.voiceAtBox origin v b) := by
  unfold State.voiceAtBox
  dsimp only
  split
  · exact K.modBoxAudio b _ (fun _ => .arrive _) (K.modCall_aside b _ (fun _ => ⟨rfl, rfl⟩) h)
  · exact h

theorem voiceAtLane (p : Side) (origin : Nat) (v : Voice) (l : Fin 2) (h : P s) : P (s.voiceAtLane p origin v l) := by
  unfold State.voiceAtLane
  dsimp only
  split
  · exact K.modLaneAudio l _ (fun _ => .arrive _) (K.putLane l _ h)
  · exact h

theorem takeVoice (p : Side) (origin : Nat) (v : Voice) (h : P s) : P (s.takeVoice p origin v) := by
  unfold State.takeVoice
  split
  · exact List.foldlRecOn (motive := P) boxIndices _ h fun s hs b _ => K.voiceAtBox origin v b hs
  · exact List.foldlRecOn (motive := P) laneIndices _ h fun s hs l _ => K.voiceAtLane p origin v l hs

theorem stationGone (station : Nat) (h : P s) : P (s.stationGone station) := by
  unfold State.stationGone
  refine List.foldlRecOn (motive := P) laneIndices _
    (List.foldlRecOn (motive := P) boxIndices _ h fun s hs b _ => ?_) fun s hs l _ => ?_
  · split
    · exact K.losePartner b hs
    · exact hs
  · dsimp only
    split
    · exact K.laneToLost l _ hs
    · exact hs

theorem portGone (p : Side) (h : P s) : P (s.portGone p) := by
  unfold State.portGone
  dsimp only
  have hlanes : P (laneIndices.foldl _ (boxIndices.foldl _ s)) := List.foldlRecOn (motive := P) laneIndices
    (fun (s : State) (l : Fin 2) =>
      if (s.callUnit.lanes[l].state = .taking ∨ s.callUnit.lanes[l].state = .talking) ∧
          (s.callUnit.lanes[l].call.elim false fun c => c.port == p) = true then
        s.laneToLost l .routeLost
      else s)
    (List.foldlRecOn (motive := P) boxIndices
      (fun (s : State) (b : Fin 4) => if s.calls[b].partner.elim false fun q => q.port == p then s.losePartner b else s)
      h fun s hs b _ => by
        split
        · exact K.losePartner b hs
        · exact hs) fun s hs l _ => by
      split
      · exact K.laneToLost l _ hs
      · exact hs
  split
  · exact K.setOffers _ List.filter_sublist hlanes
  · exact hlanes

theorem stopRefreshes (callId : Byte) (h : P s) : P (s.stopRefreshes callId) := by
  refine K.calls _ s (fun hdep b => ?_) h
  have hb := (hdep s h b).2.1
  simp only [Fin.getElem_fin, Vector.getElem_ofFn]
  split
  · exact ⟨rfl, hb⟩
  · exact ⟨rfl, hb⟩

theorem clearIncident (origin : Nat) (callId : Byte) (h : P s) : P (s.clearIncident origin callId) := by
  unfold State.clearIncident
  dsimp only
  split
  · exact K.stopRefreshes _ (K.removeIncident _ _ (K.keyCleared _ s h))
  · exact K.removeIncident _ _ (K.keyCleared _ s h)

theorem clearIncidentBody (args : List Word) (h : P s) : P (clearIncidentBody args s).2.2 := by
  unfold Machine.clearIncidentBody
  split
  · exact h
  · exact K.sendOneOff _ _ (K.clearIncident _ _ h)

end Kept

end Sys2Proof.Machine
end

section
/-! Every operation keeps what each single update keeps: the toll and count units, the line, the cabinet port. -/

namespace Sys2Proof.Machine

open Sys2Proof

/-! ### Reports in the toll store -/

theorem reportIn_none {es : List TollEntry} (h : reportIn es = none) : ∀ e ∈ es, e.content.isReport = false := by
  induction es with
  | nil => simp
  | cons e es ih =>
    unfold reportIn at h
    split at h
    · simp at h
    next r hr =>
      intro x hx
      obtain rfl | hx := List.mem_cons.1 hx
      · rw [hr]; rfl
      · exact ih h x hx

theorem reportIn_some {es : List TollEntry} {e : TollEntry} {r : Report} (h : reportIn es = some (e, r)) :
    e ∈ es ∧ e.content = .report r := by
  induction es with
  | nil => simp [reportIn] at h
  | cons x es ih =>
    unfold reportIn at h
    split at h
    next r' hr => cases h; exact ⟨List.mem_cons_self, hr⟩
    · exact ⟨List.mem_cons_of_mem _ (ih h).1, (ih h).2⟩

theorem Toll.reports_eq_zero_iff (t : Toll) : t.reports = 0 ↔ ∀ e ∈ t.store, e.content.isReport = false := by
  simp [Toll.reports, List.length_eq_zero_iff, List.filter_eq_nil_iff]

namespace Kept

variable {P : State → Prop} (K : Kept P) {s : State}
include K

/-! ### The toll unit -/

theorem modToll_aside (f : Toll → Toll) (hs : (f s.toll).store = s.toll.store) (hc : (f s.toll).counter = s.toll.counter)
    (hd : (f s.toll).delivery.length ≤ s.toll.delivery.length ∨ (f s.toll).delivery.length ≤ 64) (h : P s) :
    P (s.modToll f) := K.tollAside (f s.toll) s hs hc hd h

theorem reportRemoved (hr : (∀ s, P s → s.TollInOrder) → s.toll.reports = 0) (h : P s) : P s.reportRemoved := by
  unfold State.reportRemoved
  split
  · exact h
  · refine K.tollReport _ _ hr (K.counts { s.counts with held := none } s (fun hdep => ?_) h)
    exact ⟨(hdep s h).1, fun r hr => by simp at hr⟩

theorem deliverOwn {e : TollEntry} {rest : List TollEntry} (he : s.toll.store = e :: rest)
    (hroom : s.toll.delivery.length < 64) (h : P s) : P (s.deliverOwn e rest) := by
  have hdel := K.tollDelivered e rest ⟨s.number, e.sequence, e.content⟩ s he hroom h
  unfold State.deliverOwn
  dsimp only
  split
  next hrep =>
    refine K.reportRemoved (fun hdep => ?_) hdel
    have hone : s.toll.reports ≤ 1 := (hdep s h).1.2.1
    rw [Toll.reports, he, List.filter_cons_of_pos (by simpa using hrep)] at hone
    exact Nat.le_zero.1 (Nat.le_of_succ_le_succ hone)
  · exact hdel

theorem ownDelivery (h : P s) : P s.ownDelivery := by
  unfold State.ownDelivery
  generalize 64 = n
  induction n generalizing s with
  | zero => exact h
  | succ n ih =>
    unfold ownDeliveryGo
    split
    · exact h
    next e rest he =>
      split
      next hroom => exact ih (K.deliverOwn he hroom h)
      · exact h

theorem afterEntry (h : P s) : P s.afterEntry := by
  unfold State.afterEntry
  split
  · exact K.ownDelivery h
  · exact K.tollTry h

theorem changeSink (sink : SinkChoice) (h : P s) : P (s.changeSink sink) := K.tollTry (K.tollUnsent sink none s h)

theorem reviewSink (h : P s) : P s.reviewSink := by
  unfold State.reviewSink
  split
  · split
    · exact h
    · exact K.changeSink _ h
  · exact h

theorem reviewIfChanged (before : State) (h : P s) : P (s.reviewIfChanged before) := by
  unfold State.reviewIfChanged
  split
  · exact h
  · exact K.reviewSink h

end Kept

/-! ### Counters (R184, R190) -/

theorem zeroLane_within : zeroLane.Within := ⟨fun i => by simp [zeroLane], by simp [zeroLane]⟩

theorem LaneCount.add_within {l : LaneCount} (h : l.Within) (c : Fin 5) (amount : Nat) : (l.add c amount).Within := by
  refine ⟨fun i => ?_, Nat.min_le_left _ _⟩
  have hi := h.1 i
  simp only [LaneCount.add, Fin.getElem_fin, Vector.getElem_set] at hi ⊢
  split
  · exact Nat.min_le_left _ _
  · exact hi

theorem LaneCount.merge_within (a b : LaneCount) : (a.merge b).Within :=
  ⟨fun i => by simp [LaneCount.merge], Nat.min_le_left _ _⟩

theorem Report.merge_within (a b : Report) (i : Fin 8) : (a.merge b).lanes[i].Within := by
  simpa [Report.merge] using LaneCount.merge_within _ _

theorem judgeToll_delivered {room : Bool} {f : TollFrame} {e : OriginEntry} (h : (judgeToll room f e).delivered = true) :
    room = true := by
  unfold judgeToll at h
  grind

/-! ### Resends (R173) -/

@[simp] theorem State.offerPort_toll (p : Side) (f : Frame) (s : State) : (s.offerPort p f).state.toll = s.toll := by
  unfold State.offerPort
  split <;> rfl

theorem State.offerToll_sent {d : Side} {sink : Nat} {e : TollEntry} {s : State} (h : (s.offerToll d sink e).sent = true) :
    (s.offerToll d sink e).state =
      (s.offerPort d (s.tollFrame sink e)).state.modToll fun t =>
        { t.modEntry e.sequence TollEntry.nowSent with
          resendTimer := (s.offerPort d (s.tollFrame sink e)).state.startTimer 2000 } := by
  unfold State.offerToll at h ⊢
  dsimp only at h ⊢
  split at h
  next hs => rw [if_pos hs]
  · simp at h

theorem State.offerToll_not_sent {d : Side} {sink : Nat} {e : TollEntry} {s : State}
    (h : (s.offerToll d sink e).sent = false) :
    (s.offerToll d sink e).state = (s.offerPort d (s.tollFrame sink e)).state := by
  unfold State.offerToll at h ⊢
  dsimp only at h ⊢
  split at h
  · simp at h
  next hs => rw [if_neg hs]

theorem Toll.modEntry_sequences (t : Toll) (q : Word) {f : TollEntry → TollEntry} (hf : ∀ e, (f e).sequence = e.sequence) :
    (t.modEntry q f).store.map (·.sequence) = t.store.map (·.sequence) := by
  simp only [Toll.modEntry, List.map_map]
  refine List.map_congr_left fun e _ => ?_
  simp only [Function.comp]
  split
  · exact hf e
  · rfl

/-- An entry that is SENT already stays the same among the SENT ones when it is sent again. -/
theorem Toll.sent_modEntry {t : Toll} (hnodup : (t.store.map (·.sequence)).Nodup) {e : TollEntry} (he : e ∈ t.store)
    (hsent : e.sent = true) :
    ((t.modEntry e.sequence TollEntry.nowSent).store.filter (·.sent)).map (·.sequence) =
      (t.store.filter (·.sent)).map (·.sequence) := by
  have hsame : ∀ x ∈ t.store, (if x.sequence = e.sequence then x.nowSent else x).sent = x.sent := fun x hx => by
    split
    next hq => rw [List.inj_on_of_nodup_map hnodup hx he hq, hsent]; rfl
    · rfl
  simp only [Toll.modEntry, List.filter_map, List.map_map]
  rw [List.filter_congr (q := (·.sent)) (fun x hx => by simpa using hsame x hx)]
  refine List.map_congr_left fun x _ => ?_
  simp only [Function.comp]
  split <;> rfl

/-- The entries that a resend still has to offer are SENT, and they are the last of the SENT ones. -/
def State.ToResend (es : List TollEntry) (s : State) : Prop :=
  (∀ e ∈ es, ∃ x ∈ s.toll.store, x.sequence = e.sequence ∧ x.sent = true) ∧
    ((s.toll.store.map (·.sequence)).Nodup →
      ∃ done, (s.toll.store.filter (·.sent)).map (·.sequence) = done ++ es.map (·.sequence))

theorem State.toResend_sent (s : State) : s.ToResend (s.toll.store.filter (·.sent)) :=
  ⟨fun e he => ⟨e, (List.mem_filter.1 he).1, rfl, (List.mem_filter.1 he).2⟩, fun _ => ⟨[], rfl⟩⟩

theorem State.ToResend.offerToll {d : Side} {sink : Nat} {e : TollEntry} {es : List TollEntry} {s : State}
    (h : s.ToResend (e :: es)) (hsent : (s.offerToll d sink e).sent = true) :
    (s.offerToll d sink e).state.ToResend es := by
  obtain ⟨hmem, hlast⟩ := h
  have hseq := s.toll.modEntry_sequences e.sequence (f := TollEntry.nowSent) (fun _ => rfl)
  rw [State.offerToll_sent hsent]
  simp only [State.ToResend, State.modToll_toll, State.offerPort_toll]
  refine ⟨fun y hy => ?_, fun hnodup => ?_⟩
  · obtain ⟨x, hx, hq, hs⟩ := hmem y (List.mem_cons_of_mem _ hy)
    refine ⟨_, List.mem_map_of_mem hx, ?_, ?_⟩ <;> split
    · exact hq
    · exact hq
    · rfl
    · exact hs
  · rw [hseq] at hnodup
    obtain ⟨x, hx, hq, hs⟩ := hmem e List.mem_cons_self
    obtain ⟨done, hdone⟩ := hlast hnodup
    refine ⟨done ++ [e.sequence], ?_⟩
    rw [← hq, Toll.sent_modEntry hnodup hx hs, hdone, hq]
    simp

namespace Kept

variable {P : State → Prop} (K : Kept P) {s : State}
include K

theorem resendGo (d : Side) (sink : Nat) {es : List TollEntry} (hes : s.ToResend es) (h : P s) :
    P (resendGo d sink es s).1 := by
  induction es generalizing s with
  | nil => exact h
  | cons e es ih =>
    have hport := K.offerPort d (s.tollFrame sink e) h
    unfold Machine.resendGo
    dsimp only
    split
    next hsent =>
      refine ih (hes.offerToll hsent) ?_
      rw [State.offerToll_sent hsent]
      exact K.tollResent e.sequence _ _ (by simpa using hes.1 e List.mem_cons_self) hport
    next hsent =>
      rw [State.offerToll_not_sent (by simpa using hsent)]
      exact K.tollRequeued (e :: es) _ (by simpa using hes.2) hport

theorem stopIfNoneSent (h : P s) : P s.stopIfNoneSent := by
  unfold State.stopIfNoneSent
  split
  · exact K.modToll_timer none h
  · exact h

theorem resendEnds (h : P s) : P s.resendEnds := by
  unfold State.resendEnds
  split
  · exact K.settle _ (K.stopIfNoneSent (K.resendGo _ _ s.toResend_sent h))
  · exact K.modToll_timer none h

theorem takeTollAck (n : Word) (h : P s) : P (s.takeTollAck n) := by
  unfold State.takeTollAck
  split
  next hack =>
    have hleft := K.tollAcknowledged n s hack.2 h
    refine K.tollTry (K.modToll_aside _ rfl rfl (.inl (Nat.le_refl _)) ?_)
    split
    next hrep =>
      refine K.reportRemoved (fun hdep => ?_) hleft
      obtain ⟨e, he, hboth⟩ := List.any_eq_true.1 hrep
      obtain ⟨hat, hrep⟩ := Bool.and_eq_true_iff.1 hboth
      have hone : s.toll.reports ≤ 1 := (hdep s h).1.2.1
      have hless : (s.toll.acknowledged n).reports < s.toll.reports := by
        unfold Toll.reports Toll.acknowledged
        rw [List.filter_comm]
        exact List.length_filter_lt_length_iff_exists.2 ⟨e, List.mem_filter.2 ⟨he, hrep⟩, by simpa using hat⟩
      exact Nat.le_zero.1 (Nat.le_of_lt_succ (hless.trans_le hone))
    · exact hleft
  · exact h

theorem takeToll (origin : Nat) (f : TollFrame) (h : P s) : P (s.takeToll origin f) := by
  unfold State.takeToll
  split
  · exact h
  next e _ =>
    dsimp only
    have htable : P (s.modToll fun t =>
        { t with
          origins := setOrigin (judgeToll (s.toll.delivery.length < 64) f e).entry t.origins
          delivery := if (judgeToll (s.toll.delivery.length < 64) f e).delivered then
            t.delivery ++ [⟨origin, f.sequence, f.content⟩] else t.delivery }) := by
      refine K.modToll_aside _ rfl rfl ?_ h
      dsimp only
      split
      next hdel =>
        have hroom := judgeToll_delivered hdel
        simp only [decide_eq_true_eq] at hroom
        exact .inr (by simp; omega)
      · exact .inl (Nat.le_refl _)
    split
    · exact htable
    · exact K.send _ htable

theorem fetchDeliveryBody (h : P s) : P (fetchDeliveryBody s).2.2 := by
  unfold Machine.fetchDeliveryBody
  split
  · exact h
  next e es hd => exact K.ownDelivery (K.modToll_aside _ rfl rfl (.inl (by simp [hd])) h)

theorem countRecord (sequence : Word) (r : TollRecord) (h : P s) : P (s.countRecord sequence r) := by
  refine K.counts _ s (fun hdep => ⟨fun i => ?_, (hdep s h).2⟩) h
  have hlanes := (hdep s h).1
  simp only [Fin.getElem_fin, Vector.getElem_set] at hlanes ⊢
  split
  · exact LaneCount.add_within (hlanes r.lane) _ _
  · exact hlanes i

theorem submitTollBody (args : List Word) (h : P s) : P (submitTollBody args s).2.2 := by
  unfold Machine.submitTollBody
  split
  · exact h
  next r _ =>
    split
    · exact h
    next hroom => exact K.afterEntry (K.countRecord _ r (K.tollRecord r s (by omega) h))

/-! ### Snapshots -/

theorem placeReport (r : Report) (hr : (∀ s, P s → s.CountsWithin) → ∀ i : Fin 8, r.lanes[i].Within) (h : P s) :
    P (s.placeReport r) := by
  unfold State.placeReport
  split
  next hnone =>
    exact K.afterEntry (K.tollReport r s (fun _ => (Toll.reports_eq_zero_iff _).2 (reportIn_none hnone)) h)
  next e old hsome =>
    split
    · exact K.tollMerged e old _ s hsome h
    · refine K.counts _ s (fun hdep => ⟨(hdep s h).1, fun x hx i => ?_⟩) h
      obtain rfl := Option.some.inj hx
      split
      · exact hr hdep i
      · exact Report.merge_within _ _ i

theorem applyMark (e : Word) (h : P s) : P (s.applyMark e) := by
  refine K.placeReport _ (fun hdep => (hdep s h).1) (K.counts _ s (fun hdep => ⟨fun i => ?_, (hdep s h).2⟩) h)
  simp
  exact zeroLane_within

theorem takeEpoch (e : Word) (h : P s) : P (s.takeEpoch e) := by
  unfold State.takeEpoch
  split
  · exact K.applyMark e h
  · exact h

theorem issueEpochBody (args : List Word) (h : P s) : P (issueEpochBody args s).2.2 := by
  unfold Machine.issueEpochBody
  split
  · exact K.sendOneOff _ _ (K.applyMark _ h)
  · exact h

end Kept

/-! ### The line -/

theorem PerSide.set_set {α : Type} (x : PerSide α) (d : Side) (v w : α) : (x.set d v).set d w = x.set d w := by
  cases d <;> rfl

theorem State.modPort_modPort (p : Side) (f g : Port → Port) (s : State) :
    (s.modPort p f).modPort p g = s.modPort p fun x => g (f x) := by
  simp [State.modPort, PerSide.set_set]

/-- A predicate of one port that all its moves keep. -/
theorem PerSide.get_set {α : Type} (x : PerSide α) (d e : Side) (v : α) :
    (x.set d v).get e = if e = d then v else x.get e := by
  cases d <;> cases e <;> rfl

theorem Port.Moves.endStrap {x y : Port} (h : x.Moves y) : y.endStrap = x.endStrap := by
  cases h with
  | offer q f => exact (Port.offer_sameLink x q f).2.1
  | probe f => exact (Port.offer_sameLink x .cl f).2.1
  | take => exact x.takeNext_sameLink.2.1
  | heardProbe timer =>
    unfold Port.heardProbe
    split
    · rfl
    · split <;> rfl
    · rfl
  | outcome | tested | spoiled | down | signal | emptyLocal => rfl

/-- No operation changes an end strap. -/
theorem keptEndStrap (p : Side) (b : Bool) : Kept fun t => (t.ports.get p).endStrap = b where
  port q x s hmove h := by
    simp only [State.modPort_ports, PerSide.get_set]
    split
    next hq => subst hq; rw [hmove.endStrap, h]
    · exact h

/-- RESTART's second stage before its marks and the playout unit: calls and lanes ended, claim records and offers cleared. -/
def State.callsEnded (s : State) : State :=
  let t := laneIndices.foldl State.restartLane (boxIndices.foldl State.restartCall s)
  { t with claims := Vector.replicate 4 resetClaim, callUnit := { t.callUnit with offers := [] } }

theorem State.restartCalls_eq (s : State) :
    s.restartCalls =
      (if s.callsStand then s.callsEnded.modCallUnit CallUnit.markedChanged else s.callsEnded).modPlayout
        Playout.restarted := rfl

namespace Kept

variable {P : State → Prop} (K : Kept P) {s : State}
include K

theorem modPort (p : Side) (f : Port → Port) (hf : (s.ports.get p).Moves (f (s.ports.get p))) (h : P s) :
    P (s.modPort p f) := K.port p (f (s.ports.get p)) s hf h

theorem recordOutcome {p : Side} (good : Bool) (hup : (s.ports.get p).isUp = true) (h : P s) :
    P (s.recordOutcome p good) := by
  have hout := K.modPort p (fun x => { x with history := addOutcome good x.history }) (.outcome good hup) h
  have hup' : ((s.modPort p fun x => { x with history := addOutcome good x.history }).ports.get p).isUp = true := by
    simpa [Port.isUp] using hup
  unfold State.recordOutcome
  dsimp only
  refine K.reviewIfChanged s ?_
  generalize (s.modPort p fun x => { x with history := addOutcome good x.history }) = u at hout hup' ⊢
  unfold State.setPortState
  split
  · exact hout
  · refine K.others _ _ rfl (K.modPort p _ (.tested _ hup' ?_) hout)
    generalize (u.ports.get p).history = history
    simp only [Port.isUp, Bool.or_eq_true, beq_iff_eq] at hup'
    obtain hst | hst := hup' <;> rw [hst] <;> unfold testedState <;> dsimp only <;> split <;> simp

theorem goDown (p : Side) (h : P s) : P (s.goDown p) := by
  unfold State.goDown
  dsimp only
  refine K.reviewIfChanged s ?_
  refine List.foldlRecOn (motive := P) _ _ (K.portGone p (K.modSpeed _ ?_)) fun s hs station _ => K.stationGone station hs
  exact K.others _ _ rfl (K.mapFilter (fun e => e.port != p) _ (K.modPort p _ .down h))

theorem sendProbe (p : Side) (hrun : (s.ports.get p).probeSendTimer.isSome = true) (h : P s) : P (s.sendProbe p) := by
  unfold State.sendProbe
  refine K.settle _ ?_
  rw [State.offerQueue, State.modPort_modPort]
  exact K.port p _ s (.probe (s.probeFrame p) (s.startTimer 100) hrun rfl) h

theorem reofferBoth (h : P s) : P s.reofferBoth := K.settle _ (K.reoffer _ (K.reoffer _ h))

theorem takeProbe {p : Side} (origin : Nat) (x : ProbeFields) (hend : (s.ports.get p).endStrap = false) (h : P s) :
    P (s.takeProbe p origin x) := by
  have hport := K.modPort p (fun y => y.heardProbe (s.startTimer 300)) (.heardProbe _ hend) h
  unfold State.takeProbe
  dsimp only
  refine K.reviewIfChanged s ?_
  split <;> split
  · exact K.reofferBoth (K.others _ _ rfl hport)
  · exact K.reofferBoth (K.others _ _ rfl hport)
  · exact K.others _ _ rfl hport
  · exact K.others _ _ rfl hport

theorem relay (p : Side) (f : Frame) (h : P s) : P (s.relay p f) := by
  unfold State.relay
  split
  next hto =>
    dsimp only
    split
    · exact K.settle _ (K.offerQueue hto.2.2 _ f h)
    · exact K.latch _ s h
  · exact h

omit K in
theorem taking {α : Type} (fields : Option α) {act : α → State → State} (hact : ∀ x, P (act x s)) (h : P s) :
    P (s.taking fields act) := by
  cases fields with
  | none => exact h
  | some x => exact hact x

theorem handTo (k : FrameKind) (p : Side) (f : Frame) (hend : (s.ports.get p).endStrap = false) (h : P s) :
    P (s.handTo k p f) := by
  unfold State.handTo
  cases k <;> refine taking (act := _) _ (fun x => ?_) h
  case probe => exact K.takeProbe _ x hend h
  case voice => exact K.takeVoice p _ x h
  case claim => exact K.takeClaim _ _ _ h
  case release => exact K.takeRelease _ x h
  case offer => exact K.takeOffer p _ x h
  case take => exact K.takeTake p _ _ _ h
  case refuse => exact List.foldlRecOn (motive := P) laneIndices _ h fun s hs l _ => K.refuseLane _ _ _ l hs
  case hangup => exact K.takeHangup _ _ _ h
  case incident => exact K.takeIncident p f _ _ h
  case clear => exact K.clearIncident _ _ h
  case reading => exact K.readingTaken f _ _ s h
  case speed => exact K.takeSpeed p f x h
  case page => exact K.applyPage _ x h
  case toll => exact K.takeToll _ x h
  case tollAck => exact K.takeTollAck x h
  case epoch => exact K.takeEpoch x h

theorem takeLocally (p : Side) (f : Frame) (hend : (s.ports.get p).endStrap = false) (h : P s) :
    P (s.takeLocally p f) := by
  unfold State.takeLocally
  split
  · exact h
  · split
    · exact K.handTo _ p f hend h
    · exact h

theorem goodFrame {p : Side} {f : Frame} (hf : f.inRange = true) (hend : (s.ports.get p).endStrap = false) (h : P s) :
    P (s.goodFrame p f) := by
  unfold State.goodFrame
  split
  · exact K.latch _ s h
  next horigin =>
    obtain ⟨-, hlow, hhigh, -, -, hlimit, -, hlt⟩ := (Frame.inRange_iff f).1 hf
    have hlearn := K.learn p { f with hops := f.hops + 1 } s horigin ⟨hlow, hhigh⟩ ⟨by simp, by simp; omega⟩ h
    dsimp only
    refine K.takeLocally p _ ((keptEndStrap p false).relay p _ ?_) (K.relay p _ ?_)
    · split
      · exact (keptEndStrap p false).showVoice _ hend
      · exact hend
    · split
      · exact K.showVoice _ hlearn
      · exact hlearn

theorem receive {p : Side} {received : Option Frame} (hf : ∀ f ∈ received, f.inRange = true) (h : P s) :
    P (s.receive p received) := by
  unfold State.receive
  split
  · exact h
  next hend =>
    have hend : (s.ports.get p).endStrap = false := by simpa using hend
    have hprobe : ∀ f ∈ received, P (if f.kind = FrameKind.probe.code then s.goodFrame p f else s) := fun f hr => by
      split
      · exact K.goodFrame (hf f hr) hend h
      · exact h
    have hup : ∀ st, (s.ports.get p).state = st → st = .up ∨ st = .degraded → (s.ports.get p).isUp = true :=
      fun st hst hor => by rw [Port.isUp, hst]; obtain rfl | rfl := hor <;> rfl
    cases hst : (s.ports.get p).state <;> cases received <;> dsimp only
    case down.none => exact h
    case down.some f => exact hprobe f rfl
    case listening.none => exact K.modPort p _ .spoiled h
    case listening.some f => exact hprobe f rfl
    case up.none => exact K.recordOutcome false (hup _ hst (.inl rfl)) h
    case degraded.none => exact K.recordOutcome false (hup _ hst (.inr rfl)) h
    case up.some f =>
      exact K.goodFrame (hf f rfl) ((keptEndStrap p false).recordOutcome true (hup _ hst (.inl rfl)) hend)
        (K.recordOutcome true (hup _ hst (.inl rfl)) h)
    case degraded.some f =>
      exact K.goodFrame (hf f rfl) ((keptEndStrap p false).recordOutcome true (hup _ hst (.inr rfl)) hend)
        (K.recordOutcome true (hup _ hst (.inr rfl)) h)

theorem transmitted (p : Side) (h : P s) : P (s.transmitted p) := by
  unfold State.transmitted
  split
  · exact h
  next hsend => exact K.settle _ (K.port p _ s (.take (by simpa [Option.isSome_iff_ne_none] using hsend)) h)

/-! ### The cabinet port -/

theorem configureBody (args : List Word) (h : P s) : P (configureBody args s).2.2 := by
  unfold Machine.configureBody
  split
  · exact h
  · exact K.others _ _ rfl h

theorem clearFaultsBody (args : List Word) (h : P s) : P (clearFaultsBody args s).2.2 := by
  unfold Machine.clearFaultsBody
  split
  · split
    · exact h
    · exact K.clearFaults _ s h
  · exact h

theorem imagesNow (h : P s) : P s.imagesNow := by
  have hone : ∀ (f : Face) (u : State), P u → P (u.imageIfSelecting f) := fun f u hu => by
    unfold State.imageIfSelecting
    split
    · exact K.image f u hu
    · exact hu
  exact hone _ _ (hone _ _ h)

theorem startSelecting (f : Face) (h : P s) : P (s.startSelecting f) := by
  unfold State.startSelecting
  split
  · exact K.startSelection f h
  · exact h

theorem join (h : P s) : P s.join :=
  K.imagesNow (K.beginCalls (K.changeSink _ (K.buildSpeed (K.startSelecting _ (K.startSelecting _
    (K.modSpeed _ (K.others _ _ rfl h)))))))

theorem joinBody (h : P s) : P (joinBody s).2.2 := by
  unfold Machine.joinBody
  split
  · exact h
  · exact K.join h

theorem restartQueues (h : P s) : P s.restartQueues :=
  K.deferredShrinks [] _ (List.nil_sublist _) (K.modPort .west _ .emptyLocal (K.modPort .east _ .emptyLocal h))

theorem playoutRestarted (h : P s) : P (s.modPlayout Playout.restarted) := by
  refine K.playout _ s (fun b => ?_) (fun l => ?_) h
  · simpa [Playout.restarted, Audio.restarted] using JitterStore.Moves.emptied
  · simpa [Playout.restarted, Audio.restarted] using JitterStore.Moves.emptied

theorem callsCleared (h : P s) :
    P { s with claims := Vector.replicate 4 Machine.resetClaim, callUnit := { s.callUnit with offers := [] } } :=
  K.modCallUnit (fun u => { u with offers := [] }) (List.nil_sublist _)
    (K.claims (Vector.replicate 4 Machine.resetClaim) s (fun _ b => by simp [Machine.resetClaim]) h)

theorem callsEnded (h : P s) : P s.callsEnded := by
  have hcalls : P (boxIndices.foldl State.restartCall s) := List.foldlRecOn (motive := P) _ _ h fun s hs b _ => by
    unfold State.restartCall
    split
    · exact hs
    · exact K.endCall b hs
  have hlanes := List.foldlRecOn (motive := P) laneIndices State.restartLane hcalls fun s hs l _ =>
    K.laneToIdle l _ (K.hangupCaller l hs)
  exact K.callsCleared hlanes

theorem restartCalls (h : P s) : P s.restartCalls := by
  rw [State.restartCalls_eq]
  refine K.playoutRestarted ?_
  split
  · exact K.modCallUnit CallUnit.markedChanged (.refl _) (K.callsEnded h)
  · exact K.callsEnded h

theorem startSpeed (h : P s) : P s.startSpeed := K.modSpeed _ h

theorem restartRoad (h : P s) : P s.restartRoad := by
  have hread : P s.clearReadings := K.modReadings _ (.refl _) h
  have hinc := K.modIncidents (fun _ => { table := [], cleared := [] }) (List.nil_sublist _) (List.nil_sublist _) hread
  exact K.startSpeed (K.modWarnings (fun _ => noWarnings) hinc)

theorem restartFace (f : Face) (h : P s) : P (s.restartFace f) := by
  unfold State.restartFace
  split
  · exact K.startSelection f (K.modFace f _ (List.nil_sublist _) h)
  · exact h

theorem restarted (h : P s) : P s.restarted :=
  K.imagesNow (K.beginCalls (K.restartFace _ (K.restartFace _ (K.buildSpeed (K.restartRoad (K.restartCalls
    (K.restartQueues h)))))))

end Kept
end Sys2Proof.Machine
end

section
/-! Every command and event, and every step, keeps what each single update keeps. -/

namespace Sys2Proof.Machine

open Sys2Proof

theorem next_keeps {P : State → Prop} {x t : State} (e : (Host.Outcome.next x : Result) = .next t) (h : P x) : P t :=
  Host.Outcome.next.inj e ▸ h

theorem readMapBody_state (args : List Word) (s : State) : (readMapBody args s).2.2 = s := by
  unfold readMapBody
  split
  · split <;> rfl
  · rfl

theorem readPageBody_state (args : List Word) (s : State) : (readPageBody args s).2.2 = s := by
  unfold readPageBody
  split
  · split <;> rfl
  · rfl

theorem readTollStoreBody_state (args : List Word) (s : State) : (readTollStoreBody args s).2.2 = s := by
  unfold readTollStoreBody
  split
  · split <;> rfl
  · rfl

namespace Kept

variable {P : State → Prop} (K : Kept P) {s t : State}
include K

/-- The frame of a command that only reads. -/
theorem reads (c : Command) (args : List Word) {body : State → ResponseCode × Answer × State}
    (hbody : (body s).2.2 = s) (h : P s) : P (s.command c args body) := K.command c args (fun h => by rwa [hbody]) h

theorem exec (hreset : ∀ i s, P s → P { State.resetWith i with pending := s.pending })
    (hheld : ∀ s, P s → P s.heldInReset) {i : Instr} (e : exec i s = .next t) (h : P s) : P t := by
  cases i with
  | lineFrameArrives p bytes =>
    exact next_keeps e (unlessHeld (fun h => K.withImages (K.receive
      (fun f hf => ((parseFrame_eq_some_iff bytes f).1 hf).1) h)) h)
  | signalDetectLost p =>
    refine next_keeps e (unlessHeld (fun h => ?_) (K.modPort p _ (.signal false) h))
    split
    · exact h
    · exact K.goDown p h
  | probeTimerExpiry p => exact next_keeps e (K.onTimer _ (fun _ _ _ _ hu => K.goDown p hu) h)
  | stationMapAgeOut station =>
    exact next_keeps e (K.onTimer _ (fun u _ _ _ hu => K.stationGone station (K.mapFilter _ u hu)) h)
  | probeSendTimerExpiry p =>
    exact next_keeps e (K.onTimer _ (fun u _ hd he hu => K.sendProbe p (by rw [he]; simp [State.clockTo, hd]) hu) h)
  | transmitComplete p => exact next_keeps e (unlessHeld (K.transmitted p) h)
  | claimTimerExpiry c =>
    refine next_keeps e ?_
    split
    next hc => exact K.onTimer _ (fun u _ _ he hu => K.claimStands (fun _ => by rw [he, State.clockTo, hc]; rfl) hu) h
    · exact h
  | holdRefreshTimerExpiry c =>
    refine next_keeps e ?_
    split
    next hc => exact K.onTimer _ (fun u _ _ he hu => K.sendAssert (fun _ => by rw [he, State.clockTo, hc]; rfl) hu) h
    · exact h
  | assertHoldOffExpiry c =>
    refine next_keeps e ?_
    split
    next hc =>
      exact K.onTimer _ (fun u _ _ he hu => K.circuitAlike c _ u (fun _ => by rw [he, State.clockTo, hc]; rfl) hu) h
    · exact h
  | claimWaitTimerExpiry b =>
    exact next_keeps e (K.onTimer _ (fun u _ hd he hu => K.waitEnds b (by rw [he, State.clockTo, hd]; rfl) hu) h)
  | heldOtherAgeOut c =>
    refine next_keeps e ?_
    split
    next hc =>
      exact K.onTimer _ (fun u _ _ he hu => K.circuitAlike c _ u (fun _ => by rw [he, State.clockTo, hc]; rfl) hu) h
    · exact h
  | hookOffHook b =>
    refine next_keeps e ?_
    split
    · exact unlessHeld (fun h => K.withImages (K.beginIfOffHook b h)) (K.modCall_aside b _ (fun _ => ⟨rfl, rfl⟩) h)
    · exact h
  | hookOnHook b =>
    refine next_keeps e ?_
    split
    · refine unlessHeld (fun h => ?_) (K.modCall_aside b _ (fun _ => ⟨rfl, rfl⟩) h)
      split
      · exact K.endCall b h
      · exact h
    · exact h
  | offerTimerExpiry b => exact next_keeps e (K.onTimer _ (fun _ _ _ _ hu => K.offerIfHeld b hu) h)
  | incidentRefreshTimerExpiry b => exact next_keeps e (K.onSignTimer _ (fun _ hu => K.refreshIncident b hu) h)
  | partnerSilenceTimerExpiry b => exact next_keeps e (K.onTimer _ (fun _ _ _ _ hu => K.losePartner b hu) h)
  | offerEntryAgeOut origin callId =>
    exact next_keeps e (K.onTimer _ (fun _ _ _ _ hu => K.removeOffer origin callId hu) h)
  | takeTimerExpiry l => exact next_keeps e (K.onTimer _ (fun _ _ _ _ hu => K.takeTimerEnds l hu) h)
  | laneSilenceTimerExpiry l => exact next_keeps e (K.onTimer _ (fun _ _ _ _ hu => K.laneToLost l _ hu) h)
  | callBoxSendTimerExpiry b samples =>
    refine next_keeps e (K.onTimer _ (fun u _ _ _ hu => K.modBoxAudio b _ (fun _ => .same) ?_) h)
    split
    · exact K.sendOn _ _ hu
    · exact hu
  | laneSendTimerExpiry l samples =>
    refine next_keeps e (K.onTimer _ (fun u _ _ _ hu => K.modLaneAudio l _ (fun _ => .same) ?_) h)
    split
    · exact K.sendOn _ _ hu
    · exact hu
  | playoutTick st =>
    refine next_keeps e ?_
    cases st with
    | box b => exact K.onTimer _ (fun _ _ _ _ hu => K.modBoxAudio b _ (fun _ => .tick) hu) h
    | lane l => exact K.onTimer _ (fun _ _ _ _ hu => K.modLaneAudio l _ (fun _ => .tick) hu) h
  | cadencePhaseEnd b => exact next_keeps e (K.onTimer _ (fun _ _ _ _ hu => K.modTone b _ hu) h)
  | incidentAgeOut origin callId => exact next_keeps e (K.onSignTimer _ (fun _ hu => K.removeIncident origin callId hu) h)
  | clearanceTimerExpiry origin callId =>
    exact next_keeps e (K.onTimer _ (fun _ _ _ _ hu => K.modIncidents _ (.refl _) List.filter_sublist hu) h)
  | readingAgeOut k => exact next_keeps e (K.onSignTimer _ (fun _ hu => K.readingGone k hu) h)
  | rateTimerExpiry k => exact next_keeps e (K.onTimer _ (fun _ _ _ _ hu => K.rateTimerEnds k hu) h)
  | evaluationTimerExpiry => exact next_keeps e (K.onSignTimer _ (fun _ hu => K.modSpeed _ (K.evaluate true hu)) h)
  | advertTimerExpiry => exact next_keeps e (K.onTimer _ (fun _ _ _ _ hu => K.buildSpeed hu) h)
  | heldAdvertAgeOut f => exact next_keeps e (K.onTimer _ (fun _ _ _ _ hu => K.modSpeed _ hu) h)
  | pageMinuteTimerExpiry n => exact next_keeps e (K.onSignTimer _ (fun _ hu => K.minuteEnds n hu) h)
  | dwellTimerExpiry f => exact next_keeps e (K.onSignTimer _ (fun _ hu => K.dwellEnds f hu) h)
  | flashTimerExpiry f => exact next_keeps e (K.onSignTimer _ (fun _ hu => K.modFace f _ (.refl _) hu) h)
  | imageRefreshTimerExpiry f => exact next_keeps e (K.onTimer _ (fun u _ _ _ hu => K.image f u hu) h)
  | answerWindowExpiry f sequence =>
    refine next_keeps e ?_
    split
    · exact h
    · exact K.onTimer _ (fun _ _ _ _ hu => K.countMissing f (K.modFace f _ List.filter_sublist hu)) h
  | signAnswer f record =>
    refine next_keeps e (unlessHeld (fun h => ?_) h)
    split
    · exact K.takeAnswer f record h
    · exact h
  | resendTimerExpiry => exact next_keeps e (K.onTimer _ (fun _ _ _ _ hu => K.resendEnds hu) h)
  | cabinetFrameFault words =>
    refine next_keeps e (unlessHeld (fun h => ?_) h)
    split
    · exact K.others _ _ rfl h
    · exact h
  | fetch args => exact next_keeps e (K.reads _ args rfl h)
  | configure args => exact next_keeps e (K.command _ args (K.configureBody args) h)
  | join args => exact next_keeps e (K.command _ args K.joinBody h)
  | restart args => exact next_keeps e (K.command _ args K.restarted h)
  | readLine args => exact next_keeps e (K.command _ args (fun h => K.others _ _ rfl h) h)
  | readMap args => exact next_keeps e (K.reads _ args (readMapBody_state args s) h)
  | readCircuits args => exact next_keeps e (K.reads _ args rfl h)
  | readCalls args =>
    exact next_keeps e (K.command _ args (K.modCallUnit (fun u => { u with callsChanged := false }) (.refl _)) h)
  | readOffers args =>
    exact next_keeps e (K.command _ args (K.modCallUnit (fun u => { u with offersChanged := false }) (.refl _)) h)
  | takeCall args => exact next_keeps e (K.command _ args (K.takeCallBody args) h)
  | endCall args => exact next_keeps e (K.command _ args (K.endCallBody args) h)
  | readIncidents args => exact next_keeps e (K.reads _ args rfl h)
  | clearIncident args => exact next_keeps e (K.withImages (K.command _ args (K.clearIncidentBody args) h))
  | submitReading args => exact next_keeps e (K.withImages (K.command _ args (K.submitReadingBody args) h))
  | readReadings args => exact next_keeps e (K.reads _ args rfl h)
  | fetchReading args => exact next_keeps e (K.command _ args K.fetchReadingBody h)
  | readSpeed args => exact next_keeps e (K.reads _ args rfl h)
  | publishPage args => exact next_keeps e (K.withImages (K.command _ args (K.publishBody args) h))
  | withdrawPage args => exact next_keeps e (K.withImages (K.command _ args (K.withdrawBody args) h))
  | readPage args => exact next_keeps e (K.reads _ args (readPageBody_state args s) h)
  | readSign args => exact next_keeps e (K.reads _ args rfl h)
  | setFaceDark args => exact next_keeps e (K.command _ args (K.setFaceDarkBody args) h)
  | submitToll args => exact next_keeps e (K.command _ args (K.submitTollBody args) h)
  | readTollStore args => exact next_keeps e (K.reads _ args (readTollStoreBody_state args s) h)
  | fetchDelivery args => exact next_keeps e (K.command _ args K.fetchDeliveryBody h)
  | issueEpoch args => exact next_keeps e (K.command _ args (K.issueEpochBody args) h)
  | readCounters args => exact next_keeps e (K.reads _ args rfl h)
  | readFaults args => exact next_keeps e (K.reads _ args rfl h)
  | clearFaults args => exact next_keeps e (K.command _ args (K.clearFaultsBody args) h)
  | pinResetAsserted => exact next_keeps e (hheld s h)
  | pinResetEnds inputs => exact next_keeps e (hreset inputs s h)
  | signalDetectReturns p => exact next_keeps e (K.modPort p _ (.signal true) h)

/-- A step keeps what each single update, pin reset and the queue's own changes keep. -/
theorem step (hpending : ∀ (q : List Instr) s, P s → P { s with pending := q })
    (hreset : ∀ i s, P s → P { State.resetWith i with pending := s.pending })
    (hheld : ∀ s, P s → P s.heldInReset) (h : P s) (e : step s = .next t) : P t := by
  unfold Machine.step at e
  split at e
  · exact next_keeps e (K.others _ _ rfl h)
  · exact K.exec hreset hheld e (hpending _ s h)

end Kept

end Sys2Proof.Machine
end

section
/-! Ports, station map and deferred list stay in order. -/

namespace Sys2Proof.Machine

open Sys2Proof

/-! ### A port's record -/

theorem Queues.within_iff (q : Queues) : q.Within ↔ ∀ n : QueueName, (q.get n).length ≤ n.capacity :=
  ⟨fun ⟨h1, h2, h3, h4, h5, h6⟩ n => by cases n <;> assumption,
    fun h => ⟨h .vt, h .vl, h .ct, h .cl, h .bt, h .bl⟩⟩

/-- Only probes are held, and these in CL. -/
def Queues.ProbesAlone (q : Queues) : Prop := ∀ n : QueueName, ∀ f ∈ q.get n, n = .cl ∧ f.IsProbe

theorem Port.quietUnlessUp_iff (x : Port) :
    x.QuietUnlessUp ↔ (x.isUp = false → x.queues.ProbesAlone ∧ ∀ f ∈ x.sending, f.IsProbe) := by
  refine imp_congr_right fun _ => ⟨fun ⟨h1, h2, h3, h4, h5, h6, h7⟩ => ⟨fun n => ?_, h7⟩, fun ⟨h, h7⟩ => ?_⟩
  · cases n <;> simp_all [Queues.get]
  · have hnil : ∀ n : QueueName, n ≠ .cl → x.queues.get n = [] := fun n hn =>
      List.eq_nil_iff_forall_not_mem.2 fun f hf => hn (h n f hf).1
    exact ⟨hnil .vt (by simp), hnil .vl (by simp), hnil .ct (by simp), hnil .bt (by simp), hnil .bl (by simp),
      fun f hf => (h .cl f hf).2, h7⟩

/-- A port's record lies in its ranges, and it is quiet where it must be. -/
def Port.InOrder (x : Port) : Prop := x.Within ∧ x.QuietUnlessUp ∧ x.EndStaysDown

/-- Both ports' records are in order. -/
def State.PortsInOrder (s : State) : Prop := ∀ p, (s.ports.get p).InOrder

theorem State.portsInOrder_iff (s : State) : s.PortsWithin ∧ s.PortsQuiet ↔ s.PortsInOrder :=
  ⟨fun ⟨⟨he, hw⟩, hqe, hqw, hee, hew⟩ p => by
      cases p
      · exact ⟨he, hqe, hee⟩
      · exact ⟨hw, hqw, hew⟩,
    fun h => ⟨⟨(h .east).1, (h .west).1⟩, (h .east).2.1, (h .west).2.1, (h .east).2.2, (h .west).2.2⟩⟩

theorem waitAfter_le {q mine : QueueName} {waiting : Bool} {count : Nat} (h : count ≤ 4) :
    waitAfter q mine waiting count ≤ 4 := by
  unfold waitAfter
  split
  · omega
  · split <;> omega

theorem Port.sendable_subset (x : Port) (q : QueueName) : ∀ f ∈ x.sendable q, f ∈ x.queues.get q := by
  unfold Port.sendable
  split
  · exact fun f hf => hf
  · exact fun f hf => (List.mem_filter.1 hf).1

theorem Queues.get_set_sublist (q : Queues) (n m : QueueName) {fs : List Frame} (h : fs.Sublist (q.get n)) :
    ((q.set n fs).get m).Sublist (q.get m) := by
  by_cases hm : m = n
  · subst hm; rwa [Queues.get_set_same]
  · rw [Queues.get_set_ne _ _ _ _ hm]

/-- A free transmitter's take keeps the port's record in order. -/
theorem Port.InOrder.takeNext {x : Port} (h : x.InOrder) : x.takeNext.1.InOrder := by
  obtain ⟨⟨hq, hcl, hbl, hhist, hprobes⟩, hquiet, hend⟩ := h
  obtain e | ⟨q, f, rest, -, hsend, e⟩ := x.takeNext_cases <;> rw [e]
  · refine ⟨⟨hq, hcl, hbl, hhist, hprobes⟩, fun hup => ?_, fun he => ?_⟩
    · obtain ⟨h1, h2, h3, h4, h5, h6, -⟩ := hquiet hup
      exact ⟨h1, h2, h3, h4, h5, h6, by simp⟩
    · obtain ⟨h1, h2, h3, h4, -⟩ := hend he
      exact ⟨h1, h2, h3, h4, rfl⟩
  · have hmem : f ∈ x.queues.get q := x.sendable_subset q f (by simp [hsend])
    have hsub := fun m => x.queues.get_set_sublist q m (List.erase_sublist (a := f))
    rw [Queues.within_iff] at hq
    refine ⟨⟨(Queues.within_iff _).2 fun m => ((hsub m).length_le).trans (hq m), waitAfter_le hcl, waitAfter_le hbl, hhist,
      hprobes⟩, ?_, fun he => ?_⟩
    · rw [Port.quietUnlessUp_iff] at hquiet ⊢
      intro hup
      obtain ⟨halone, -⟩ := hquiet hup
      refine ⟨fun m g hg => halone m g ((hsub m).subset hg), fun g hg => ?_⟩
      obtain rfl := Option.some.inj hg
      exact (halone q f hmem).2
    · obtain ⟨-, -, -, hempty, -⟩ := hend he
      rw [hempty] at hmem
      cases q <;> simp [emptyQueues, Queues.get] at hmem

/-- An offer keeps the port's record in order where the port may hold the frame. -/
theorem Port.InOrder.offer {x : Port} (h : x.InOrder) {q : QueueName} {f : Frame} (hend : x.endStrap = false)
    (hq : x.isUp = true ∨ q = .cl ∧ f.IsProbe) : (x.offer q f).port.InOrder := by
  have hjoin : ∀ held : List Frame, held.Sublist (x.queues.get q) → held.length < q.capacity →
      Port.InOrder { x with queues := x.queues.set q (held ++ [f]) } := fun held hsub hlen => by
    obtain ⟨⟨hwithin, hcl, hbl, hhist, hprobes⟩, hquiet, -⟩ := h
    rw [Queues.within_iff] at hwithin
    refine ⟨⟨(Queues.within_iff _).2 fun m => ?_, hcl, hbl, hhist, hprobes⟩, ?_, fun he => ?_⟩
    · by_cases hm : m = q
      · subst hm; rw [Queues.get_set_same]; simpa using hlen
      · rw [Queues.get_set_ne _ _ _ _ hm]; exact hwithin m
    · rw [Port.quietUnlessUp_iff] at hquiet ⊢
      intro hup
      obtain ⟨halone, hsending⟩ := hquiet hup
      refine ⟨fun m g hg => ?_, hsending⟩
      by_cases hm : m = q
      · subst hm
        obtain hup' | ⟨rfl, hf⟩ := hq
        · exact absurd (hup.symm.trans hup') Bool.false_ne_true
        · rw [Queues.get_set_same, List.mem_append, List.mem_singleton] at hg
          obtain hg | rfl := hg
          · exact halone .cl g (hsub.subset hg)
          · exact ⟨rfl, hf⟩
      · rw [Queues.get_set_ne _ _ _ _ hm] at hg
        exact halone m g hg
    · exact absurd (hend.symm.trans he) Bool.false_ne_true
  have hcap := ((Queues.within_iff _).1 h.1.1) q
  have hpos : 0 < q.capacity := by cases q <;> decide
  have hkeep : ∀ held, (held = x.queues.get q ∧ (x.queues.get q).length < q.capacity ∨
      held = (x.queues.get q).drop 1 ∧ q.capacity ≤ (x.queues.get q).length) →
      Port.InOrder { x with queues := x.queues.set q (held ++ [f]) } := fun held hheld => by
    obtain ⟨rfl, hlen⟩ | ⟨rfl, hlen⟩ := hheld
    · exact hjoin _ (.refl _) hlen
    · exact hjoin _ (List.drop_sublist _ _) (by rw [List.length_drop]; omega)
  obtain ⟨-, -, e⟩ | ⟨held, hheld, ⟨-, e⟩ | ⟨-, e⟩⟩ := x.offer_cases q f <;> rw [e]
  · exact h
  · exact hkeep held hheld
  · exact (hkeep held hheld).takeNext

theorem Port.InOrder.endStrap_of_isUp {x : Port} (h : x.InOrder) (hup : x.isUp = true) : x.endStrap = false := by
  cases he : x.endStrap with
  | false => rfl
  | true => rw [Port.isUp, (h.2.2 he).1] at hup; cases hup

theorem addOutcome_length {good : Bool} {history : List Bool} (h : history.length ≤ 32) :
    (addOutcome good history).length ≤ 32 := by
  unfold addOutcome
  split <;> simp <;> omega

theorem Port.Moves.inOrder {x y : Port} (hmove : x.Moves y) (h : x.InOrder) : y.InOrder := by
  have hwithin := h.1
  obtain ⟨hq, hcl, hbl, hhist, hprobes⟩ := hwithin
  cases hmove with
  | offer q f hup => exact h.offer (h.endStrap_of_isUp hup) (.inl hup)
  | probe f timer hrun hf =>
    have hend : x.endStrap = false := by
      cases he : x.endStrap with
      | false => rfl
      | true => rw [(h.2.2 he).2.2.1] at hrun; cases hrun
    obtain ⟨hw, hquiet, -⟩ := h.offer hend (.inr ⟨rfl, hf⟩)
    have hend' : (x.offer .cl f).port.endStrap = false := (x.offer_sameLink .cl f).2.1.trans hend
    exact ⟨hw, hquiet, fun he => absurd (hend'.symm.trans he) Bool.false_ne_true⟩
  | take => exact h.takeNext
  | outcome good hup =>
    exact ⟨⟨hq, hcl, hbl, addOutcome_length hhist, hprobes⟩, h.2.1, h.2.2⟩
  | tested st hup hst =>
    refine ⟨⟨hq, hcl, hbl, hhist, hprobes⟩, fun hdown => ?_, fun he => ?_⟩
    · obtain rfl | rfl := hst <;> simp [Port.isUp] at hdown
    · exact absurd ((h.endStrap_of_isUp hup).symm.trans he) Bool.false_ne_true
  | spoiled => exact ⟨⟨hq, hcl, hbl, hhist, Nat.zero_le _⟩, h.2.1, h.2.2⟩
  | heardProbe timer hend =>
    have hquiet := h.2.1
    have hstays : ∀ z : Port, z.endStrap = x.endStrap → z.EndStaysDown := fun z hz he =>
      absurd (hend.symm.trans (hz.symm.trans he)) Bool.false_ne_true
    unfold Port.heardProbe
    split
    next hst => exact ⟨⟨hq, hcl, hbl, by simp, by simp⟩, fun _ => hquiet (by rw [Port.isUp, hst]; rfl), hstays _ rfl⟩
    next hst =>
      split
      · exact ⟨⟨hq, hcl, hbl, by simp, by simp⟩, fun hdown => by simp [Port.isUp] at hdown, hstays _ rfl⟩
      · exact ⟨⟨hq, hcl, hbl, hhist, by simp; omega⟩, hquiet, hstays _ rfl⟩
    · exact ⟨⟨hq, hcl, hbl, hhist, hprobes⟩, hquiet, hstays _ rfl⟩
  | down =>
    refine ⟨⟨by simp [Queues.Within, Port.toDown, emptyQueues], by simp [Port.toDown], by simp [Port.toDown],
      by simp [Port.toDown], by simp [Port.toDown]⟩, fun _ => ?_, fun he => ⟨rfl, rfl, (h.2.2 he).2.2.1, rfl, rfl⟩⟩
    simp [Port.toDown, emptyQueues]
  | signal on => exact ⟨⟨hq, hcl, hbl, hhist, hprobes⟩, h.2.1, h.2.2⟩
  | emptyLocal =>
    obtain ⟨hvt, -, hct, -, hbt, -⟩ := hq
    refine ⟨⟨⟨hvt, Nat.zero_le _, hct, Nat.zero_le _, hbt, Nat.zero_le _⟩, Nat.zero_le _, Nat.zero_le _, hhist, hprobes⟩,
      fun hdown => ?_, fun he => ?_⟩
    · obtain ⟨hvt, -, hct, hbt, -, -, hsend⟩ := h.2.1 hdown
      exact ⟨hvt, rfl, hct, hbt, rfl, by simp [Port.emptyLocal], hsend⟩
    · obtain ⟨hst, ht, hpt, hqs, hsend⟩ := h.2.2 he
      exact ⟨hst, ht, hpt, by simp [Port.emptyLocal, hqs, emptyQueues], hsend⟩

theorem keptPortsInOrder : Kept State.PortsInOrder where
  port p x s hmove h q := by
    simp only [State.modPort_ports, PerSide.get_set]
    split
    next hq => subst hq; exact hmove.inOrder (h q)
    · exact h q

theorem resetPort_inOrder (strap signal : Bool) (timer : Timer) (h : strap = true → timer = none) :
    Port.InOrder { resetPort with endStrap := strap, signal := signal, probeSendTimer := timer } := by
  refine ⟨?_, fun _ => ?_, fun he => ⟨rfl, rfl, h he, rfl, rfl⟩⟩
  · simp [Port.Within, Queues.Within, resetPort, emptyQueues]
  · simp [resetPort, emptyQueues]

theorem resetWith_portsInOrder (i : ResetInputs) : (State.resetWith i).PortsInOrder := by
  intro p
  cases p
  · exact resetPort_inOrder i.eastEnd i.eastSignal _ fun h => by simp [h]
  · exact resetPort_inOrder i.westEnd i.westSignal _ fun h => by simp [h]

/-! ### The station map -/

theorem setMapEntry_mem {e x : MapEntry} {map : List MapEntry} (h : x ∈ setMapEntry e map) : x = e ∨ x ∈ map := by
  induction map with
  | nil => simpa [setMapEntry] using h
  | cons y ys ih =>
    unfold setMapEntry at h
    split at h
    · simpa using h
    · split at h
      · simp only [List.mem_cons] at h ⊢; tauto
      · simp only [List.mem_cons] at h ⊢
        obtain rfl | h := h
        · exact .inr (.inl rfl)
        · exact (ih h).imp_right .inr

theorem setMapEntry_pairwise (e : MapEntry) {map : List MapEntry}
    (h : map.Pairwise fun a b => a.station < b.station) :
    (setMapEntry e map).Pairwise fun a b => a.station < b.station := by
  induction map with
  | nil => simp [setMapEntry]
  | cons y ys ih =>
    obtain ⟨hy, hys⟩ := List.pairwise_cons.1 h
    unfold setMapEntry
    split
    next hlt =>
      refine List.pairwise_cons.2 ⟨fun x hx => ?_, h⟩
      obtain rfl | hx := List.mem_cons.1 hx
      · exact hlt
      · exact hlt.trans (hy x hx)
    · split
      next heq => exact List.pairwise_cons.2 ⟨fun x hx => heq ▸ hy x hx, hys⟩
      · refine List.pairwise_cons.2 ⟨fun x hx => ?_, ih hys⟩
        obtain rfl | hx := setMapEntry_mem hx
        · omega
        · exact hy x hx

theorem keptMapInOrder : Kept State.MapInOrder where
  learn p f s horigin hrange hhops h := by
    refine ⟨setMapEntry_pairwise _ h.1, fun x hx => ?_⟩
    obtain rfl | hx := setMapEntry_mem hx
    · exact ⟨hrange.1, hrange.2, horigin, hhops.1, hhops.2⟩
    · exact h.2 x hx
  mapFilter keep s h := ⟨h.1.sublist List.filter_sublist, fun x hx => h.2 x (List.mem_filter.1 hx).1⟩

/-! ### The deferred list -/

theorem DeferTag.replaces_comm (a b : DeferTag) : a.replaces b = b.replaces a := by
  cases a <;> cases b <;> simp [DeferTag.replaces, eq_comm]

theorem keptDeferredInOrder : Kept State.DeferredInOrder where
  deferredShrinks ds s hsub h := ⟨hsub.length_le.trans h.1, h.2.sublist hsub⟩
  defer tag f s h := by
    have hkept : (s.deferred.filter fun d => !tag.replaces d.tag).Pairwise fun a b => a.tag.replaces b.tag = false :=
      h.2.sublist List.filter_sublist
    have hlen : (s.deferred.filter fun d => !tag.replaces d.tag).length ≤ s.deferred.length := List.length_filter_le ..
    unfold State.DeferredInOrder State.defer
    dsimp only
    split
    next hroom =>
      refine ⟨by simpa using hroom, List.pairwise_append.2 ⟨hkept, List.pairwise_singleton .., fun a ha b hb => ?_⟩⟩
      obtain rfl := List.mem_singleton.1 hb
      rw [DeferTag.replaces_comm]
      simpa using (List.mem_filter.1 ha).2
    · exact ⟨hlen.trans h.1, hkept⟩

/-- Settles O55: each part is an invariant that every single update keeps. -/
theorem stepsKeepPortsMapAndDeferred : Obligations.StepsKeepPortsMapAndDeferred := by
  refine ⟨fun s t hwithin hquiet e => ?_, fun s t hmap hdef e => ⟨?_, ?_⟩⟩
  · rw [State.portsInOrder_iff]
    refine keptPortsInOrder.step (fun _ _ h => h) (fun i _ _ => resetWith_portsInOrder i) (fun s _ p => ?_)
      ((State.portsInOrder_iff s).1 ⟨hwithin, hquiet⟩) e
    cases p <;> exact resetPort_inOrder _ _ none fun _ => rfl
  · exact keptMapInOrder.step (fun _ _ h => h) (fun _ _ _ => ⟨.nil, by simp [State.resetWith, State.reset]⟩)
      (fun _ _ => ⟨.nil, by simp [State.heldInReset, State.reset]⟩) hmap e
  · exact keptDeferredInOrder.step (fun _ _ h => h) (fun _ _ _ => ⟨Nat.zero_le _, .nil⟩)
      (fun _ _ => ⟨Nat.zero_le _, .nil⟩) hdef e

end Sys2Proof.Machine
end

section
/-! Circuits and calls stay bound one to one. -/

namespace Sys2Proof.Machine

open Sys2Proof

/-- Each call names exactly the circuit bound to it (R45). -/
theorem State.CircuitsBound.circuit_iff {s : State} (h : s.CircuitsBound) (b : Fin 4) (c : Fin 16) :
    s.circuits[c].boundTo b = true ↔ s.calls[b].circuit = some c := (h b).1 c

theorem State.modCircuit_get (c d : Fin 16) (x : Circuit) (s : State) :
    (s.modCircuit c fun _ => x).circuits[d] = if c = d then x else s.circuits[d] := by
  simp [Vector.getElem_set, Fin.val_inj]

theorem State.setCallCircuit_get (b b' : Fin 4) (c : Option (Fin 16)) (s : State) :
    (s.setCallCircuit b c).calls[b'] = if b = b' then { s.calls[b'] with circuit := c } else s.calls[b'] := by
  by_cases hb : b = b'
  · subst hb; simp [State.setCallCircuit]
  · simp [State.setCallCircuit, Fin.val_inj, hb]

theorem keptCircuitsBound : Kept State.CircuitsBound where
  circuitAlike c x s hx h b := by
    refine ⟨fun d => ?_, (h b).2⟩
    rw [State.modCircuit_get]
    split
    next hd => subst hd; rw [hx]; exact (h b).1 c
    · exact (h b).1 d
  circuitGivenUp c b x s hx hc h b' := by
    have hb := h.of_boundTo hc
    have hcirc := fun d => h.circuit_iff b' d
    obtain ⟨-, hidle, hwait⟩ := h b'
    rw [State.setCallCircuit_get]
    refine ⟨fun d => ?_, ?_, ?_⟩
    · simp only [State.setCallCircuit, State.modCall_circuits, State.modCircuit_get, State.modCircuit_calls]
      by_cases hd : c = d <;> by_cases hbb : b = b'
      · subst hbb; simp [hd, hx]
      · have hne : s.calls[b'].circuit ≠ some d := fun hs => by
          subst hd
          have := (hcirc c).2 hs
          cases hx' : s.circuits[c] <;> simp_all [Circuit.boundTo]
        simpa [hd, hx, hbb] using hne
      · subst hbb
        have : s.circuits[d].boundTo b ≠ true := fun hbd => hd (Option.some.inj (hb.1.symm.trans ((hcirc d).1 hbd)))
        simpa [hd] using this
      · simpa [hd, hbb] using hcirc d
    · intro hi
      split at hi <;> split
      · exact ⟨rfl, (hidle hi).2⟩
      · contradiction
      · contradiction
      · exact hidle hi
    · intro hw
      split
      · rfl
      · exact hwait hw
  circuitClaimed c b timer s hfree hseeks h b' := by
    obtain ⟨hstate, hnone, hwaitb⟩ := hseeks fun _ h => h
    have hcirc := fun d => h.circuit_iff b' d
    obtain ⟨-, hidle, hwait⟩ := h b'
    rw [State.setCallCircuit_get]
    refine ⟨fun d => ?_, ?_, ?_⟩
    · simp only [State.setCallCircuit, State.modCall_circuits, State.modCircuit_get, State.modCircuit_calls]
      by_cases hd : c = d <;> by_cases hbb : b = b'
      · simp [hd, hbb, Circuit.boundTo]
      · have hne : s.calls[b'].circuit ≠ some d := fun hs => by
          subst hd
          have := (hcirc c).2 hs
          rw [hfree] at this
          simp [Circuit.boundTo] at this
        simpa [hd, hbb, Circuit.boundTo] using hne
      · subst hbb
        have : s.circuits[d].boundTo b ≠ true := fun hbd =>
          Option.some_ne_none d ((hcirc d).1 hbd ▸ hnone)
        simpa [hd] using this
      · simpa [hd, hbb] using hcirc d
    · intro hi
      split at hi <;> split
      next hb _ => subst hb; exact absurd hi hstate
      · contradiction
      · contradiction
      · exact hidle hi
    · intro hw
      split
      next hb =>
        subst hb
        have : s.claims[b].wait.isSome = true := hw
        rw [hwaitb] at this
        cases this
      · exact hwait hw
  claims v s hv h b := by
    obtain ⟨hcirc, hidle, -⟩ := h b
    obtain ⟨hwant, hwait⟩ := hv (fun _ h => h) b
    exact ⟨hcirc, fun hi => ⟨(hidle hi).1, hwant hi⟩, hwait⟩
  calls v s hv h b := by
    obtain ⟨hcirc, hidle, hwait⟩ := h b
    obtain ⟨hsame, hnone⟩ := hv (fun _ h => h) b
    refine ⟨fun c => hsame ▸ hcirc c, fun hi => ⟨hsame.trans (hnone hi).1, (hnone hi).2⟩, fun hw => hsame.trans (hwait hw)⟩

theorem circuitsBound_of_reset {s : State} (hcirc : s.circuits = Vector.replicate 16 .free)
    (hclaims : s.claims = Vector.replicate 4 resetClaim) (hcalls : ∀ b : Fin 4, s.calls[b].circuit = none) :
    s.CircuitsBound := fun b => by
  rw [hcirc, hclaims, hcalls b]
  simp [Circuit.boundTo, resetClaim]

/-- Settles O56: every single update keeps the binding. -/
theorem stepsKeepCircuitsBound : Obligations.StepsKeepCircuitsBound := fun s t h e =>
  keptCircuitsBound.step (fun _ _ h => h)
    (fun _ _ _ => circuitsBound_of_reset rfl rfl fun b => by simp [State.resetWith, resetCall])
    (fun _ _ => circuitsBound_of_reset rfl rfl fun b => by simp [State.heldInReset, resetCall]) h e

end Sys2Proof.Machine
end

section
/-! Jitter stores, lists, counters and latched faults stay in their ranges. -/

namespace Sys2Proof.Machine

open Sys2Proof

/-! ### Jitter stores (R94 to R97) -/

theorem aheadOf_self (e : Byte) : aheadOf e e = 0 := by simp [aheadOf]

theorem aheadOf_injective {e a b : Byte} (h : aheadOf e a = aheadOf e b) : a = b := by
  have := BitVec.eq_of_toNat_eq h
  simpa using congrArg (· + e) this

/-- Past a block at `y`, the distance to a later block is shorter by what lay before it. -/
theorem aheadOf_past {e y z : Byte} (h : aheadOf e y < aheadOf e z) :
    aheadOf (y + 1) z + aheadOf e y + 1 = aheadOf e z := by
  unfold aheadOf at *
  bv_omega

theorem aheadOf_newer {a b : Byte} (h : newer a b = true) : 0 < aheadOf b a ∧ aheadOf b a < 128 := by
  simp only [newer, Bool.and_eq_true, decide_eq_true_eq] at h
  exact ⟨h.1, by have := h.2; norm_num at this; unfold aheadOf; omega⟩

/-- Blocks stand in sequence order from the expected one on (R94, R96). -/
def BlocksFrom (e : Byte) (bs : List Block) : Prop :=
  (∀ x ∈ bs, aheadOf e x.sequence < 128) ∧ bs.Pairwise fun x y => aheadOf e x.sequence < aheadOf e y.sequence

theorem BlocksFrom.sublist {e : Byte} {bs cs : List Block} (h : BlocksFrom e bs) (hsub : cs.Sublist bs) :
    BlocksFrom e cs := ⟨fun x hx => h.1 x (hsub.subset hx), h.2.sublist hsub⟩

/-- Blocks that all lie past `y` stand in order from `y + 1` on. -/
theorem BlocksFrom.past {e y : Byte} {bs : List Block} (h : BlocksFrom e bs)
    (hy : ∀ x ∈ bs, aheadOf e y < aheadOf e x.sequence) : BlocksFrom (y + 1) bs := by
  refine ⟨fun x hx => ?_, h.2.imp_of_mem fun {a b} ha hb hab => ?_⟩
  · have := aheadOf_past (hy x hx); have := h.1 x hx; omega
  · have := aheadOf_past (hy a ha); have := aheadOf_past (hy b hb); omega

theorem mem_insertBlock {e : Byte} {x y : Block} {bs : List Block} : y ∈ insertBlock e x bs ↔ y = x ∨ y ∈ bs := by
  induction bs with
  | nil => simp [insertBlock]
  | cons b bs ih =>
    unfold insertBlock
    split
    · simp
    · simp only [List.mem_cons, ih]; tauto

theorem insertBlock_length (e : Byte) (x : Block) (bs : List Block) : (insertBlock e x bs).length = bs.length + 1 := by
  induction bs with
  | nil => rfl
  | cons b bs ih =>
    unfold insertBlock
    split
    · rfl
    · simp [ih]

theorem BlocksFrom.insertBlock {e : Byte} {x : Block} {bs : List Block} (h : BlocksFrom e bs)
    (hx : aheadOf e x.sequence < 128) (hnew : ∀ y ∈ bs, y.sequence ≠ x.sequence) :
    BlocksFrom e (insertBlock e x bs) := by
  refine ⟨fun y hy => ?_, ?_⟩
  · obtain rfl | hy := mem_insertBlock.1 hy
    · exact hx
    · exact h.1 y hy
  · have hpair := h.2
    clear h
    induction bs with
    | nil => simp [Machine.insertBlock]
    | cons b bs ih =>
      obtain ⟨hb, hbs⟩ := List.pairwise_cons.1 hpair
      unfold Machine.insertBlock
      split
      next hlt =>
        refine List.pairwise_cons.2 ⟨fun y hy => ?_, hpair⟩
        obtain rfl | hy := List.mem_cons.1 hy
        · exact hlt
        · exact hlt.trans (hb y hy)
      next hge =>
        have hne : aheadOf e b.sequence ≠ aheadOf e x.sequence := fun he =>
          hnew b List.mem_cons_self (aheadOf_injective he)
        refine List.pairwise_cons.2 ⟨fun y hy => ?_, ih (fun y hy => hnew y (List.mem_cons_of_mem b hy)) hbs⟩
        obtain rfl | hy := mem_insertBlock.1 hy
        · omega
        · exact hb y hy

theorem inOrder_playing_iff {e : Byte} {bs : List Block} {last : Option (List Byte)} {misses : Nat} :
    JitterStore.InOrder ⟨.playing e, bs, last, misses⟩ ↔ bs.length ≤ 4 ∧ misses ≤ 2 ∧ BlocksFrom e bs := Iff.rfl

theorem inOrder_prefill_iff {bs : List Block} {last : Option (List Byte)} {misses : Nat} :
    JitterStore.InOrder ⟨.prefill, bs, last, misses⟩ ↔ bs.length ≤ 1 ∧ misses = 0 :=
  ⟨fun ⟨_, _, h⟩ => h, fun h => ⟨by have := h.1; show bs.length ≤ 4; omega, by have := h.2; show misses ≤ 2; omega, h⟩⟩

theorem emptyStore_inOrder : emptyStore.InOrder := inOrder_prefill_iff.2 ⟨Nat.zero_le _, rfl⟩

theorem blocksFrom_pair {a b : Block} (h : newer b.sequence a.sequence = true) : BlocksFrom a.sequence [a, b] := by
  have := aheadOf_newer h
  simp [BlocksFrom, aheadOf_self, this]

theorem JitterStore.InOrder.arrivePrefill {bs : List Block} {last : Option (List Byte)} {misses : Nat}
    (h : InOrder ⟨.prefill, bs, last, misses⟩) (x : Block) : (arrivePrefill ⟨.prefill, bs, last, misses⟩ x).InOrder := by
  obtain ⟨hlen, rfl⟩ := inOrder_prefill_iff.1 h
  have hone : ∀ y, InOrder ⟨.prefill, [y], last, 0⟩ := fun y => inOrder_prefill_iff.2 ⟨Nat.le_refl _, rfl⟩
  cases bs with
  | nil => exact hone x
  | cons b bs =>
    have hpair : ∀ y z : Block, newer z.sequence y.sequence = true →
        InOrder ⟨.playing y.sequence, [y, z], last, 0⟩ := fun y z hyz =>
      inOrder_playing_iff.2 ⟨by simp, by simp, blocksFrom_pair hyz⟩
    unfold JitterStore.arrivePrefill
    dsimp only
    split_ifs with hsame hnewer holder
    · exact h
    · exact hpair b x hnewer
    · exact hpair x b holder
    · exact hone x

theorem JitterStore.InOrder.arrivePlaying {e : Byte} {bs : List Block} {last : Option (List Byte)} {misses : Nat}
    (h : InOrder ⟨.playing e, bs, last, misses⟩) (x : Block) :
    (arrivePlaying ⟨.playing e, bs, last, misses⟩ e x).InOrder := by
  obtain ⟨hlen, hmisses, hfrom⟩ := inOrder_playing_iff.1 h
  unfold JitterStore.arrivePlaying
  dsimp only
  split
  · exact h
  next hahead =>
    split
    · exact h
    next hnew =>
      have hnew : ∀ y ∈ bs, y.sequence ≠ x.sequence := by simpa using hnew
      have hall := hfrom.insertBlock (by omega) hnew
      have hcount := insertBlock_length e x bs
      split
      next hroom => exact inOrder_playing_iff.2 ⟨by omega, hmisses, hall⟩
      · generalize insertBlock e x bs = all at hall hcount ⊢
        cases all with
        | nil => exact h
        | cons y ys =>
          refine inOrder_playing_iff.2 ⟨by simp at hcount; omega, hmisses, ?_⟩
          exact (hall.sublist (List.sublist_cons_self y ys)).past (List.pairwise_cons.1 hall.2).1

theorem BlocksFrom.filter_next {e : Byte} {bs : List Block} (h : BlocksFrom e bs) (keep : Block → Bool)
    (hne : ∀ x ∈ bs, keep x = true → x.sequence ≠ e) : BlocksFrom (e + 1) (bs.filter keep) := by
  refine (h.sublist List.filter_sublist).past fun x hx => ?_
  obtain ⟨hmem, hkeep⟩ := List.mem_filter.1 hx
  rw [aheadOf_self]
  refine Nat.pos_of_ne_zero fun h0 => hne x hmem hkeep ?_
  exact aheadOf_injective (h0.trans (aheadOf_self e).symm)

theorem JitterStore.InOrder.tick {st : JitterStore} (h : st.InOrder) : st.tick.2.InOrder := by
  obtain ⟨phase, bs, last, misses⟩ := st
  cases phase with
  | prefill => exact h
  | playing e =>
    obtain ⟨hlen, hmisses, hfrom⟩ := inOrder_playing_iff.1 h
    unfold JitterStore.tick
    dsimp only
    split
    next x hx =>
      refine inOrder_playing_iff.2 ⟨(List.length_filter_le ..).trans hlen, Nat.zero_le _, hfrom.filter_next _ fun y _ hk => ?_⟩
      simp only [Bool.and_eq_true, bne_iff_ne] at hk
      exact hk.1
    next hnone =>
      split
      · exact emptyStore_inOrder
      · refine inOrder_playing_iff.2 ⟨(List.length_filter_le ..).trans hlen, by omega, hfrom.filter_next _ fun y hy _ => ?_⟩
        simpa using List.find?_eq_none.1 hnone y hy

theorem JitterStore.Moves.inOrder {x y : JitterStore} (hmove : x.Moves y) (h : x.InOrder) : y.InOrder := by
  cases hmove with
  | same => exact h
  | emptied => exact emptyStore_inOrder
  | tick => exact h.tick
  | arrive b =>
    obtain ⟨phase, bs, last, misses⟩ := x
    cases phase with
    | prefill => exact h.arrivePrefill b
    | playing e => exact h.arrivePlaying b

theorem keptStoresInOrder : Kept State.StoresInOrder where
  playout x s hbox hlane h := ⟨fun b => (hbox b).inOrder (h.1 b), fun l => (hlane l).inOrder (h.2 l)⟩

/-! ### Lists with keys -/

section
variable {α κ : Type} (key : α → κ) {xs : List α}

theorem nodup_keys_sublist {ys : List α} (hsub : ys.Sublist xs) (h : (xs.map key).Nodup) : (ys.map key).Nodup :=
  h.sublist (hsub.map key)

theorem nodup_keys_append {x : α} (h : (xs.map key).Nodup) (hnew : ∀ y ∈ xs, key y ≠ key x) :
    ((xs ++ [x]).map key).Nodup := by
  rw [List.map_append]
  refine h.append (List.nodup_singleton _) fun k hk hk' => ?_
  obtain ⟨y, hy, rfl⟩ := List.mem_map.1 hk
  exact hnew y hy (by simpa using hk')

theorem map_keys_same {g : α → α} (hg : ∀ x ∈ xs, key (g x) = key x) : (xs.map g).map key = xs.map key := by
  rw [List.map_map]
  exact List.map_congr_left hg

end

def Offer.key (o : Offer) : Nat × Byte := (o.origin, o.callId)
def Incident.key (e : Incident) : Nat × Byte := (e.origin, e.callId)
def ClearedKey.key (k : ClearedKey) : Nat × Byte := (k.origin, k.callId)

theorem Offer.hasKey_iff (o : Offer) (origin : Nat) (callId : Byte) :
    o.hasKey origin callId = true ↔ o.key = (origin, callId) := by simp [Offer.hasKey, Offer.key]

theorem Incident.hasKey_iff (e : Incident) (origin : Nat) (callId : Byte) :
    e.hasKey origin callId = true ↔ e.key = (origin, callId) := by simp [Incident.hasKey, Incident.key]

theorem oldestOffer_mem {os : List Offer} {v : Offer} (h : oldestOffer os = some v) : v ∈ os := by
  induction os with
  | nil => simp [oldestOffer] at h
  | cons o os ih =>
    unfold oldestOffer at h
    grind

theorem oldestOffer_eq_none {os : List Offer} (h : oldestOffer os = none) : os = [] := by
  cases os with
  | nil => rfl
  | cons o os =>
    unfold oldestOffer at h
    grind

theorem replacementVictim_mem {es : List Incident} {v : Incident} (h : replacementVictim es = some v) : v ∈ es := by
  induction es with
  | nil => simp [replacementVictim] at h
  | cons e es ih =>
    unfold replacementVictim at h
    grind

/-- The offer list holds at most 16 offers, no key twice (R73). -/
def State.OffersWithin (s : State) : Prop :=
  s.callUnit.offers.length ≤ 16 ∧ (s.callUnit.offers.map Offer.key).Nodup

theorem keptOffersWithin : Kept State.OffersWithin where
  callUnit u s hsub h := ⟨hsub.length_le.trans h.1, nodup_keys_sublist _ hsub h.2⟩
  offerRefreshed g u s hu hg h := by
    have hkeys := map_keys_same Offer.key (xs := s.callUnit.offers) (g := g) fun o _ => by
      rw [Offer.key, (hg o).1, (hg o).2]; rfl
    unfold State.OffersWithin at h ⊢
    simp only [State.modCallUnit_callUnit, hu, hkeys, List.length_map]
    exact h
  offerAdded o u s hnew hu h := by
    obtain ⟨hlen, hnodup⟩ := h
    have hnew : ∀ x ∈ s.callUnit.offers, x.key ≠ o.key := fun x hx hk =>
      absurd ((Offer.hasKey_iff ..).2 hk) (List.any_eq_false.1 hnew x hx)
    have hroom : ∀ room : List Offer, room.Sublist s.callUnit.offers → room.length < 16 → u.offers = room ++ [o] →
        State.OffersWithin (s.modCallUnit fun _ => u) := fun room hsub hroom he => by
      simp only [State.OffersWithin, State.modCallUnit_callUnit, he]
      exact ⟨by simpa using hroom, nodup_keys_append _ (nodup_keys_sublist _ hsub hnodup)
        fun y hy => hnew y (hsub.subset hy)⟩
    split at hu
    next hlt => exact hroom _ (.refl _) hlt hu
    · split at hu
      next hnone => exact hroom _ (.refl _) (by simp [oldestOffer_eq_none hnone]) hu
      next v hv =>
        have hmem := oldestOffer_mem hv
        have hpos := List.length_pos_of_mem hmem
        exact hroom _ List.erase_sublist (by rw [List.length_erase_of_mem hmem]; omega) hu

/-- The incident table holds at most 8 entries, no key twice (R104). -/
def State.IncidentsWithin (s : State) : Prop :=
  s.incidents.table.length ≤ 8 ∧ (s.incidents.table.map Incident.key).Nodup

theorem Incident.key_ne_of_find?_eq_none {table : List Incident} {e : Incident}
    (h : (table.find? fun x => x.hasKey e.origin e.callId) = none) : ∀ x ∈ table, x.key ≠ e.key := fun x hx hk =>
  List.find?_eq_none.1 h x hx ((Incident.hasKey_iff ..).2 hk)

theorem keptIncidentsWithin : Kept State.IncidentsWithin where
  incidentsShrink x s ht _ h := ⟨ht.length_le.trans h.1, nodup_keys_sublist _ ht h.2⟩
  incidentRefreshed e s h := by
    have hkeys := map_keys_same Incident.key (xs := s.incidents.table)
      (g := fun y => if y.hasKey e.origin e.callId then e else y) fun y _ => by
        split
        next hy => exact ((Incident.hasKey_iff ..).1 hy).symm
        · rfl
    unfold State.IncidentsWithin at h ⊢
    simp only [State.modIncidents_incidents, hkeys, List.length_map]
    exact h
  incidentAdded e s hnew hroom h :=
    ⟨by simpa using hroom, nodup_keys_append _ h.2 (Incident.key_ne_of_find?_eq_none hnew)⟩
  incidentReplaced e v s hnew hv h := by
    have hmem := replacementVictim_mem hv
    have hless : (s.incidents.table.filter fun y => !y.hasKey v.origin v.callId).length < s.incidents.table.length :=
      List.length_filter_lt_length_iff_exists.2 ⟨v, hmem, by simp [Incident.hasKey]⟩
    have hlen := h.1
    refine ⟨by simp; omega, nodup_keys_append _ (nodup_keys_sublist _ List.filter_sublist h.2) fun y hy => ?_⟩
    exact Incident.key_ne_of_find?_eq_none hnew y (List.mem_filter.1 hy).1

/-- The recently-cleared list holds at most 8 keys, none twice (R104). -/
def State.ClearedWithin (s : State) : Prop :=
  s.incidents.cleared.length ≤ 8 ∧ (s.incidents.cleared.map ClearedKey.key).Nodup

theorem addCleared_within (key : ClearedKey) {keys : List ClearedKey} (hlen : keys.length ≤ 8)
    (hnodup : (keys.map ClearedKey.key).Nodup) :
    (addCleared key keys).length ≤ 8 ∧ ((addCleared key keys).map ClearedKey.key).Nodup := by
  unfold addCleared
  split
  · have hkeys := map_keys_same ClearedKey.key (xs := keys)
      (g := fun k => if k.origin == key.origin && k.callId == key.callId then key else k) fun k _ => by
        split
        next hk => simp only [Bool.and_eq_true, beq_iff_eq] at hk; rw [ClearedKey.key, ClearedKey.key, hk.1, hk.2]
        · rfl
    rw [hkeys]
    exact ⟨by simpa using hlen, hnodup⟩
  next hnew =>
    have hroom : ∀ room : List ClearedKey, room.Sublist keys → room.length < 8 →
        (room ++ [key]).length ≤ 8 ∧ ((room ++ [key]).map ClearedKey.key).Nodup := fun room hsub hroom =>
      ⟨by simpa using hroom, nodup_keys_append _ (nodup_keys_sublist _ hsub hnodup) fun y hy hk => hnew
        (List.any_eq_true.2 ⟨y, hsub.subset hy, by simpa [ClearedKey.key] using hk⟩)⟩
    split
    · exact hroom _ (List.drop_sublist ..) (by rw [List.length_drop]; omega)
    · exact hroom _ (.refl _) (by omega)

theorem keptClearedWithin : Kept State.ClearedWithin where
  incidentsShrink x s _ hc h := ⟨hc.length_le.trans h.1, nodup_keys_sublist _ hc h.2⟩
  keyCleared key s h := addCleared_within key h.1 h.2

/-- The reading delivery queue holds at most 32 entries (R116). -/
def State.DeliveryWithin (s : State) : Prop := s.readings.delivery.length ≤ 32

theorem keptDeliveryWithin : Kept State.DeliveryWithin where
  readings r s hsub h := hsub.length_le.trans h
  readingTaken f k r s h := by
    unfold State.DeliveryWithin State.takeReading at *
    simp only [State.modReadings_readings, List.length_append, List.length_singleton]
    split
    · rw [List.length_drop]; omega
    · omega

/-! ### Awaited images (R159) -/

/-- At most four images of a face await their answers (R159). -/
def State.AwaitedWithin (f : Face) (s : State) : Prop := (s.faces.get f).awaited.length ≤ 4

/-- What counting an image as missing makes of its face (R160). -/
theorem State.countMissing_faces (f : Face) (s : State) :
    (s.countMissing f).faces = s.faces.set f
      { s.faces.get f with
        missing := if 3 ≤ (s.faces.get f).missing + 1 then 0 else (s.faces.get f).missing + 1
        faulted := if 3 ≤ (s.faces.get f).missing + 1 then true else (s.faces.get f).faulted } := by
  unfold State.countMissing
  split <;> simp [*]

theorem State.countMissing_now (f : Face) (s : State) : (s.countMissing f).now = s.now := by
  unfold State.countMissing
  split <;> rfl

theorem State.sendImage_awaited (f g : Face) (s : State) :
    ((s.sendImage f).faces.get g).awaited =
      if g = f then
        (if 4 ≤ (s.faces.get f).awaited.length then (s.faces.get f).awaited.drop 1 else (s.faces.get f).awaited) ++
          [⟨(s.faces.get f).sequence, some (s.now + 150)⟩]
      else (s.faces.get g).awaited := by
  unfold State.sendImage
  dsimp only
  rw [State.modFace_faces, PerSide.get_set]
  split <;> split
  · simp [State.countMissing_faces, State.countMissing_now, State.startTimer]
  · simp [State.startTimer]
  next hg _ => simp [State.countMissing_faces, PerSide.get_set, hg]
  · rfl

theorem keptAwaitedWithin (g : Face) : Kept (State.AwaitedWithin g) where
  face f u s hsub h := by
    unfold State.AwaitedWithin at *
    rw [State.modFace_faces, PerSide.get_set]
    split
    next hg => subst hg; exact hsub.length_le.trans h
    · exact h
  image f s h := by
    unfold State.AwaitedWithin at *
    rw [State.sendImage_awaited]
    split
    next hg =>
      subst hg
      rw [List.length_append, List.length_singleton]
      split
      · rw [List.length_drop]; omega
      · omega
    · exact h

/-! ### Counters and faults (R184, R201) -/

theorem keptCountsWithin : Kept State.CountsWithin where
  counts c s hc _ := hc fun _ h => h

/-- A fault is latched exactly while its count is above 0, and its count is a byte. -/
def FaultLatch.Within (l : FaultLatch) : Prop := (l.latched = true ↔ 0 < l.count) ∧ l.count ≤ 255

theorem FaultLatch.occur_within (l : FaultLatch) : l.occur.Within :=
  ⟨by simp [FaultLatch.occur], Nat.min_le_left _ _⟩

theorem State.FaultsWithin.latch {s : State} (h : s.FaultsWithin) (n : FaultName) : (s.latch n).FaultsWithin := fun i => by
  have hi := h i
  simp only [State.latch, Fin.getElem_fin, Vector.getElem_set] at hi ⊢
  split
  · exact FaultLatch.occur_within _
  · exact hi

theorem State.sendImage_faults (f : Face) (s : State) :
    (s.sendImage f).faults = s.faults ∨ (s.sendImage f).faults = (s.latch (signFault f)).faults := by
  unfold State.sendImage
  dsimp only
  split
  · unfold State.countMissing
    split
    · exact .inr rfl
    · exact .inl rfl
  · exact .inl rfl

theorem keptFaultsWithin : Kept State.FaultsWithin where
  latch n s h := h.latch n
  clearFaults mask s h i := by
    dsimp only
    rw [clearedFaults_getElem]
    split
    · simp
    · exact h i
  image f s h i := by
    obtain e | e := s.sendImage_faults f <;> rw [e]
    · exact h i
    · exact h.latch (signFault f) i

/-- Settles O57: each part is an invariant, or a conjunction of invariants, that every single update keeps. -/
theorem stepsKeepRecordsInRange : Obligations.StepsKeepRecordsInRange := by
  refine ⟨fun s t h e => ?_, fun s t h e => ?_, fun s t h e => ?_, fun s t h e => ?_⟩
  · exact keptStoresInOrder.step (fun _ _ h => h)
      (fun _ _ _ => ⟨fun b => by simpa [State.resetWith, State.reset, resetAudio] using emptyStore_inOrder,
        fun l => by simpa [State.resetWith, State.reset, resetAudio] using emptyStore_inOrder⟩)
      (fun _ _ => ⟨fun b => by simpa [State.heldInReset, resetAudio] using emptyStore_inOrder,
        fun l => by simpa [State.heldInReset, resetAudio] using emptyStore_inOrder⟩) h e
  · obtain ⟨hoffers, hincidents, hcleared, hdelivery, heast, hwest⟩ := h
    refine ⟨?_, ?_, ?_, ?_, ?_, ?_⟩
    · exact keptOffersWithin.step (fun _ _ h => h) (fun _ _ _ => ⟨Nat.zero_le _, .nil⟩)
        (fun _ _ => ⟨Nat.zero_le _, .nil⟩) hoffers e
    · exact keptIncidentsWithin.step (fun _ _ h => h) (fun _ _ _ => ⟨Nat.zero_le _, .nil⟩)
        (fun _ _ => ⟨Nat.zero_le _, .nil⟩) hincidents e
    · exact keptClearedWithin.step (fun _ _ h => h) (fun _ _ _ => ⟨Nat.zero_le _, .nil⟩)
        (fun _ _ => ⟨Nat.zero_le _, .nil⟩) hcleared e
    · exact keptDeliveryWithin.step (fun _ _ h => h) (fun _ _ _ => Nat.zero_le _) (fun _ _ => Nat.zero_le _) hdelivery e
    · exact (keptAwaitedWithin .east).step (fun _ _ h => h) (fun _ _ _ => Nat.zero_le _) (fun _ _ => Nat.zero_le _)
        heast e
    · exact (keptAwaitedWithin .west).step (fun _ _ h => h) (fun _ _ _ => Nat.zero_le _) (fun _ _ => Nat.zero_le _)
        hwest e
  · have hzero : ∀ i : Fin 8, (Vector.replicate 8 zeroLane)[i].Within := fun i => by simpa using zeroLane_within
    exact keptCountsWithin.step (fun _ _ h => h) (fun _ _ _ => ⟨hzero, fun _ hr => absurd hr (Option.not_mem_none _)⟩)
      (fun _ _ => ⟨hzero, fun _ hr => absurd hr (Option.not_mem_none _)⟩) h e
  · have hclear : ∀ i : Fin 5, (Vector.replicate 5 (⟨false, 0⟩ : FaultLatch))[i].Within := fun i => by
      simp [FaultLatch.Within]
    exact keptFaultsWithin.step (fun _ _ h => h) (fun _ _ _ => hclear) (fun _ _ => hclear) h e

end Sys2Proof.Machine
end

section
/-! The toll store and its window stay in order. -/

namespace Sys2Proof.Machine

open Sys2Proof

/-! ### Sequences in a row -/

/-- Sequences in a row up to before the counter (R166). -/
def Numbered (counter : Word) (qs : List Word) : Prop :=
  ∀ (i : Nat) (h : i < qs.length), qs[i] = counter - BitVec.ofNat 16 (qs.length - i)

theorem Numbered.drop {counter : Word} {qs : List Word} (h : Numbered counter qs) (k : Nat) :
    Numbered counter (qs.drop k) := fun i hi => by
  rw [List.length_drop] at hi
  rw [List.getElem_drop, h (k + i) (by omega), List.length_drop]
  congr 2
  omega

theorem Numbered.append {counter : Word} {qs : List Word} (h : Numbered counter qs) :
    Numbered (counter + 1) (qs ++ [counter]) := fun i hi => by
  simp only [List.length_append, List.length_singleton] at hi ⊢
  obtain hi | rfl : i < qs.length ∨ i = qs.length := by omega
  · rw [List.getElem_append_left hi, h i hi, show qs.length + 1 - i = (qs.length - i) + 1 by omega, BitVec.ofNat_add]
    generalize BitVec.ofNat 16 (qs.length - i) = x
    bv_omega
  · simp

/-- How far a row's entry lies behind the counter. -/
theorem Numbered.behind {counter : Word} {qs : List Word} (h : Numbered counter qs) (hlen : qs.length ≤ 257) {i : Nat}
    (hi : i < qs.length) : (counter - qs[i]).toNat = qs.length - i := by
  rw [h i hi]
  have : (BitVec.ofNat 16 (qs.length - i)).toNat = qs.length - i := by
    rw [BitVec.toNat_ofNat]; exact Nat.mod_eq_of_lt (by omega)
  generalize BitVec.ofNat 16 (qs.length - i) = x at this ⊢
  bv_omega

theorem Numbered.nodup {counter : Word} {qs : List Word} (h : Numbered counter qs) (hlen : qs.length ≤ 257) :
    qs.Nodup := by
  refine List.nodup_iff_getElem?_ne_getElem?.2 fun i j hij hj heq => ?_
  rw [List.getElem?_eq_getElem (hij.trans hj), List.getElem?_eq_getElem hj, Option.some.injEq] at heq
  have hi' := h.behind hlen (hij.trans hj)
  have hj' := h.behind hlen hj
  rw [heq] at hi'
  omega

theorem atOrBefore_iff (a b : Word) : atOrBefore a b = true ↔ (b - a).toNat ≤ 32767 := by
  have hrange : 2 ^ (16 - 1) - 1 = 32767 := rfl
  simp only [atOrBefore, older, newer, Bool.or_eq_true, beq_iff_eq, Bool.and_eq_true, decide_eq_true_eq, hrange]
  constructor
  · rintro (rfl | ⟨-, h⟩)
    · simp
    · exact h
  · intro h
    by_cases hab : a = b
    · exact .inl hab
    · exact .inr ⟨by bv_omega, h⟩

theorem filter_eq_drop {α : Type} {p : α → Bool} {xs : List α} {k : Nat}
    (h : ∀ (i : Nat) (hi : i < xs.length), p xs[i] = true ↔ k ≤ i) : xs.filter p = xs.drop k := by
  conv_lhs => rw [← List.take_append_drop k xs]
  rw [List.filter_append, List.filter_eq_nil_iff.2, List.filter_eq_self.2, List.nil_append]
  · intro x hx
    obtain ⟨i, hi, rfl⟩ := List.getElem_of_mem hx
    rw [List.getElem_drop]
    exact (h _ _).2 (Nat.le_add_right ..)
  · intro x hx
    obtain ⟨i, hi, rfl⟩ := List.getElem_of_mem hx
    rw [List.length_take] at hi
    rw [List.getElem_take, h]
    omega

/-- What an acknowledgement within the row covers is the row's beginning (R174). -/
theorem Numbered.acknowledged {counter : Word} {qs : List Word} (h : Numbered counter qs) (hlen : qs.length ≤ 257)
    {n : Word} (hn : (counter - 1 - n).toNat ≤ 32767) {i : Nat} (hi : i < qs.length) :
    (!atOrBefore qs[i] n) = true ↔ qs.length - (counter - 1 - n).toNat ≤ i := by
  have hb := h.behind hlen hi
  have : atOrBefore qs[i] n = true ↔ (counter - 1 - n).toNat ≤ qs.length - i - 1 := by
    rw [atOrBefore_iff]
    generalize qs[i] = q at hb ⊢
    bv_omega
  rw [Bool.not_eq_true', Bool.eq_false_iff, ne_eq, this]
  omega

/-! ### The toll unit in order -/

/-- What the order of the toll store is about: an entry's sequence, whether it is SENT, whether it is a report. -/
def TollEntry.shape (e : TollEntry) : Word × Bool × Bool := (e.sequence, e.sent, e.content.isReport)

/-- The toll store and its window in order, for the toll unit alone. -/
structure Toll.InOrder (t : Toll) : Prop where
  records : t.records ≤ 256
  reports : t.reports ≤ 1
  delivery : t.delivery.length ≤ 64
  numbered : Numbered t.counter (t.store.map (·.sequence))
  sentCount : t.sentCount ≤ 8
  sentFirst : t.store.Pairwise fun a b => b.sent = true → a.sent = true

theorem State.tollInOrder_iff (s : State) : s.TollInOrder ↔ s.toll.InOrder := by
  have hnum : (∀ i : Fin s.toll.store.length,
      s.toll.store[i].sequence = s.toll.counter - BitVec.ofNat 16 (s.toll.store.length - i.val)) ↔
      Numbered s.toll.counter (s.toll.store.map (·.sequence)) := by
    simp only [Numbered, List.length_map, List.getElem_map]
    exact ⟨fun h i hi => h ⟨i, hi⟩, fun h i => h i.1 i.2⟩
  constructor
  · rintro ⟨⟨h1, h2, h3⟩, h4, h5, h6⟩
    exact ⟨h1, h2, h3, hnum.1 h4, h5, h6⟩
  · rintro ⟨h1, h2, h3, h4, h5, h6⟩
    exact ⟨⟨h1, h2, h3⟩, hnum.2 h4, h5, h6⟩

theorem Toll.length_eq (t : Toll) : t.store.length = t.records + t.reports := by
  unfold Toll.records Toll.reports
  induction t.store with
  | nil => rfl
  | cons e es ih => cases h : e.content.isReport <;> simp [h, ih] <;> omega

theorem Toll.InOrder.length_le {t : Toll} (h : t.InOrder) : (t.store.map (·.sequence)).length ≤ 257 := by
  have := t.length_eq; have := h.records; have := h.reports
  rw [List.length_map]
  omega

theorem Toll.InOrder.nodup {t : Toll} (h : t.InOrder) : (t.store.map (·.sequence)).Nodup := h.numbered.nodup h.length_le

theorem count_shape {p : Word × Bool × Bool → Bool} (es : List TollEntry) :
    (es.filter fun e => p e.shape).length = ((es.map TollEntry.shape).filter p).length := by
  rw [List.filter_map, List.length_map]; rfl

/-- Only the shapes of the entries, the counter and the delivery queue's length matter. -/
theorem Toll.InOrder.of_shape {t u : Toll} (h : t.InOrder) (hshape : u.store.map TollEntry.shape = t.store.map TollEntry.shape)
    (hcounter : u.counter = t.counter)
    (hdel : u.delivery.length ≤ t.delivery.length ∨ u.delivery.length ≤ 64) : u.InOrder := by
  have hcount : ∀ p : Word × Bool × Bool → Bool,
      (u.store.filter fun e => p e.shape).length = (t.store.filter fun e => p e.shape).length := fun p => by
    rw [count_shape, count_shape, hshape]
  refine ⟨?_, ?_, ?_, ?_, ?_, ?_⟩
  · exact (hcount fun x => !x.2.2).le.trans h.records
  · exact (hcount fun x => x.2.2).le.trans h.reports
  · have := h.delivery; omega
  · have : u.store.map (·.sequence) = t.store.map (·.sequence) := by
      simpa [List.map_map, Function.comp_def, TollEntry.shape] using congrArg (List.map Prod.fst) hshape
    rw [hcounter, this]
    exact h.numbered
  · exact (hcount fun x => x.2.1).le.trans h.sentCount
  · have hpair : ∀ es : List TollEntry, (es.Pairwise fun a b => b.sent = true → a.sent = true) ↔
        (es.map TollEntry.shape).Pairwise fun a b => b.2.1 = true → a.2.1 = true := fun es => by
      rw [List.pairwise_map]; rfl
    rw [hpair, hshape, ← hpair]
    exact h.sentFirst

theorem Toll.counts_of_contents {t u : Toll}
    (h : u.store.map (·.content.isReport) = t.store.map (·.content.isReport)) :
    u.records = t.records ∧ u.reports = t.reports := by
  have hcount : ∀ (p : Bool → Bool) (es : List TollEntry),
      (es.filter fun e => p e.content.isReport).length = ((es.map (·.content.isReport)).filter p).length := fun p es => by
    rw [List.filter_map, List.length_map]; rfl
  exact ⟨(hcount (!·) _).trans (by rw [h]; exact (hcount (!·) _).symm),
    (hcount id _).trans (by rw [h]; exact (hcount id _).symm)⟩

/-- Entries may leave from the front. -/
theorem Toll.InOrder.dropFront {t u : Toll} (h : t.InOrder) (k : Nat) (hstore : u.store = t.store.drop k)
    (hcounter : u.counter = t.counter) (hdel : u.delivery.length ≤ 64) : u.InOrder := by
  have hsub : (t.store.drop k).Sublist t.store := List.drop_sublist ..
  refine ⟨?_, ?_, hdel, ?_, ?_, ?_⟩
  · exact (by unfold Toll.records; rw [hstore]; exact (hsub.filter _).length_le : u.records ≤ t.records).trans h.records
  · exact (by unfold Toll.reports; rw [hstore]; exact (hsub.filter _).length_le : u.reports ≤ t.reports).trans h.reports
  · rw [hcounter, hstore, List.map_drop]; exact h.numbered.drop k
  · exact (by unfold Toll.sentCount; rw [hstore]; exact (hsub.filter _).length_le :
      u.sentCount ≤ t.sentCount).trans h.sentCount
  · rw [hstore]; exact h.sentFirst.sublist hsub

/-- An entry admitted at the tail (R166, R168). -/
theorem Toll.InOrder.enter {t : Toll} (h : t.InOrder) (c : TollContent)
    (hc : if c.isReport then t.reports = 0 else t.records < 256) :
    Toll.InOrder { t with store := t.store ++ [⟨t.counter, false, 0, c⟩], counter := t.counter + 1 } := by
  have hrec := h.records; have hrep := h.reports; have hsent := h.sentCount
  unfold Toll.records at hrec
  unfold Toll.reports at hrep
  unfold Toll.sentCount at hsent
  refine ⟨?_, ?_, h.delivery, ?_, ?_, ?_⟩
  · cases hr : c.isReport <;> simp_all [Toll.records]
  · cases hr : c.isReport <;> simp_all [Toll.reports]
  · simpa using h.numbered.append
  · simpa [Toll.sentCount] using hsent
  · exact List.pairwise_append.2 ⟨h.sentFirst, List.pairwise_singleton .., fun a _ b hb hs => by
      obtain rfl := List.mem_singleton.1 hb; cases hs⟩

/-- With distinct sequences, `modEntry` changes the one entry. -/
theorem modEntry_split {pre post : List TollEntry} {e : TollEntry} (f : TollEntry → TollEntry)
    (h : ((pre ++ e :: post).map (·.sequence)).Nodup) :
    (pre ++ e :: post).map (fun x => if x.sequence = e.sequence then f x else x) = pre ++ f e :: post := by
  have hother : ∀ xs : List TollEntry, (∀ x ∈ xs, x.sequence ≠ e.sequence) →
      xs.map (fun x => if x.sequence = e.sequence then f x else x) = xs := fun xs hxs =>
    (List.map_congr_left fun x hx => if_neg (hxs x hx)).trans (List.map_id xs)
  rw [List.map_append, List.map_cons, List.nodup_append] at h
  obtain ⟨-, hpost, hpre⟩ := h
  rw [List.map_append, List.map_cons, if_pos rfl,
    hother pre fun x hx => hpre _ (List.mem_map_of_mem hx) _ List.mem_cons_self,
    hother post fun x hx he => (List.nodup_cons.1 hpost).1 (he ▸ List.mem_map_of_mem hx)]

theorem Toll.InOrder.sendOldest {t : Toll} (h : t.InOrder) {e : TollEntry} (he : t.oldestQueued = some e)
    (hsent : t.sentCount < 8) (timer : Timer) :
    Toll.InOrder { t.modEntry e.sequence TollEntry.nowSent with resendTimer := timer } := by
  obtain ⟨he', pre, post, hstore, hpre⟩ := List.find?_eq_some_iff_append.1 he
  have hnew : (t.modEntry e.sequence TollEntry.nowSent).store = pre ++ e.nowSent :: post := by
    have := h.nodup
    rw [hstore] at this
    simp only [Toll.modEntry, hstore]
    exact modEntry_split _ this
  have hfirst := h.sentFirst
  rw [hstore] at hfirst
  obtain ⟨hfpre, hfpost, -⟩ := List.pairwise_append.1 hfirst
  have hunsent : ∀ x ∈ post, x.sent = false := fun x hx => by
    have := (List.pairwise_cons.1 hfpost).1 x hx
    simp_all
  have hall : ∀ x ∈ pre, x.sent = true := fun x hx => by simpa using hpre x hx
  have hcounts := Toll.counts_of_contents (t := t) (u := t.modEntry e.sequence TollEntry.nowSent) (by
    simp only [hnew, hstore, List.map_append, List.map_cons, TollEntry.nowSent])
  unfold Toll.sentCount at hsent
  rw [hstore] at hsent
  refine ⟨hcounts.1.le.trans h.records, hcounts.2.le.trans h.reports, h.delivery, ?_, ?_, ?_⟩
  · have := t.modEntry_sequences e.sequence (f := TollEntry.nowSent) fun _ => rfl
    exact this ▸ h.numbered
  · simp only [Toll.sentCount, hnew]
    simp only [List.filter_append, List.filter_cons, TollEntry.nowSent, List.length_append, if_true, List.length_cons] at hsent ⊢
    have : (if e.sent = true then e :: post.filter (·.sent) else post.filter (·.sent)) = post.filter (·.sent) := by
      simp_all
    rw [this] at hsent
    omega
  · simp only [hnew]
    refine List.pairwise_append.2 ⟨hfpre, List.pairwise_cons.2 ⟨fun _ _ _ => rfl, (List.pairwise_cons.1 hfpost).2⟩,
      fun a ha _ _ _ => hall a ha⟩

/-- SENT entries may return to QUEUED from one of them on. -/
theorem Toll.InOrder.unsend {t u : Toll} (h : t.InOrder) (g : TollEntry → Bool)
    (hstore : u.store = t.store.map fun e => if g e then { e with sent := false } else e)
    (hg : t.store.Pairwise fun a b => a.sent = true → b.sent = true → g b = false → g a = false)
    (hcounter : u.counter = t.counter) (hdel : u.delivery = t.delivery) : u.InOrder := by
  have hkeep : ∀ {α : Type} (k : TollEntry → α), (∀ e, k { e with sent := false } = k e) →
      u.store.map k = t.store.map k := fun k hk => by
    rw [hstore, List.map_map]
    refine List.map_congr_left fun e _ => ?_
    simp only [Function.comp]
    split
    · exact hk e
    · rfl
  have hsent : ∀ e, (if g e then { e with sent := false } else e : TollEntry).sent = (!g e && e.sent) := fun e => by
    cases g e <;> rfl
  have hcounts := Toll.counts_of_contents (t := t) (u := u) (hkeep _ fun _ => rfl)
  refine ⟨hcounts.1.le.trans h.records, hcounts.2.le.trans h.reports, hdel ▸ h.delivery, ?_, ?_, ?_⟩
  · rw [hcounter, hkeep _ fun _ => rfl]; exact h.numbered
  · refine le_trans ?_ h.sentCount
    rw [Toll.sentCount, hstore, List.filter_map, List.length_map, ← List.countP_eq_length_filter, Toll.sentCount,
      ← List.countP_eq_length_filter]
    refine List.countP_mono_left fun e _ he => ?_
    simp only [Function.comp, hsent, Bool.and_eq_true] at he
    exact he.2
  · rw [hstore, List.pairwise_map]
    refine (h.sentFirst.and hg).imp fun {a b} ⟨hfirst, hgab⟩ hb => ?_
    rw [hsent, Bool.and_eq_true, Bool.not_eq_true'] at hb ⊢
    have ha := hfirst hb.2
    exact ⟨hgab ha hb.2 hb.1, ha⟩

/-- Where the last of the SENT entries are to return, none that stays SENT comes after one of them. -/
theorem Toll.InOrder.returning {t : Toll} (h : t.InOrder) {es : List TollEntry} {done : List Word}
    (hes : (t.store.filter (·.sent)).map (·.sequence) = done ++ es.map (·.sequence)) :
    t.store.Pairwise fun a b => a.sent = true → b.sent = true →
      (es.any fun y => y.sequence == b.sequence) = false → (es.any fun y => y.sequence == a.sequence) = false := by
  have hany : ∀ q : Word, (es.any fun y => y.sequence == q) = false ↔ q ∉ es.map (·.sequence) := fun q => by
    simp [List.any_eq_false]
  have hnodup : (done ++ es.map (·.sequence)).Nodup :=
    hes ▸ nodup_keys_sublist _ List.filter_sublist h.nodup
  obtain ⟨-, -, hdisj⟩ := List.nodup_append.1 hnodup
  have hpair : (done ++ es.map (·.sequence)).Pairwise fun a b => b ∉ es.map (·.sequence) → a ∉ es.map (·.sequence) := by
    refine List.pairwise_append.2 ⟨?_, ?_, fun a _ b hb hb' => absurd hb hb'⟩
    · exact List.pairwise_of_forall_mem_list fun a ha b _ _ ha' => hdisj a ha a ha' rfl
    · exact List.pairwise_of_forall_mem_list fun a _ b hb hb' => absurd hb hb'
  rw [← hes, List.pairwise_map, List.pairwise_filter] at hpair
  refine hpair.imp fun {a b} hab ha hb hgb => ?_
  rw [hany] at hgb ⊢
  exact hab ha hb hgb

/-- An acknowledgement takes the front of the store (R174). -/
theorem Toll.InOrder.acknowledge {t : Toll} (h : t.InOrder) {n : Word} (hn : t.acknowledges n = true) :
    (t.acknowledged n).InOrder := by
  have hlen := h.length_le
  obtain ⟨-, hlast⟩ := Bool.and_eq_true_iff.1 hn
  have hnewest : (t.counter - 1 - n).toNat ≤ 32767 := by
    cases hl : t.store.getLast? with
    | none => simp [hl] at hlast
    | some e =>
      rw [hl] at hlast
      have hat : (e.sequence - n).toNat ≤ 32767 := (atOrBefore_iff _ _).1 hlast
      rw [List.getLast?_eq_getElem?] at hl
      obtain ⟨hlt, heq⟩ := List.getElem?_eq_some_iff.1 hl
      have hone := h.numbered.behind hlen (i := t.store.length - 1) (by simpa using hlt)
      simp only [List.getElem_map, heq, List.length_map] at hone
      have : (t.counter - e.sequence).toNat = 1 := by omega
      bv_omega
  refine h.dropFront (t.store.length - (t.counter - 1 - n).toNat) (filter_eq_drop fun i hi => ?_) rfl h.delivery
  have := h.numbered.acknowledged hlen hnewest (i := i) (by simpa using hi)
  simpa using this

/-! ### The invariant -/

theorem keptTollInOrder : Kept State.TollInOrder where
  tollSent e timer s he hsent h := by
    rw [State.tollInOrder_iff] at h ⊢
    exact h.sendOldest he hsent timer
  tollResent q timer s hq h := by
    rw [State.tollInOrder_iff] at h ⊢
    refine h.of_shape ?_ rfl (.inl (Nat.le_refl _))
    obtain ⟨e, he, rfl, hsent⟩ := hq
    simp only [State.modToll_toll, Toll.modEntry, List.map_map]
    refine List.map_congr_left fun x hx => ?_
    simp only [Function.comp]
    split
    next hq => obtain rfl := List.inj_on_of_nodup_map h.nodup hx he hq; simp [TollEntry.shape, TollEntry.nowSent, hsent]
    · rfl
  tollRequeued es s hes h := by
    rw [State.tollInOrder_iff] at h ⊢
    obtain ⟨done, hdone⟩ := hes h.nodup
    exact h.unsend (fun x => es.any fun y => y.sequence == x.sequence) rfl (h.returning hdone) rfl rfl
  tollUnsent sink timer s h := by
    rw [State.tollInOrder_iff] at h ⊢
    refine h.unsend (fun _ => true) ?_ ?_ rfl rfl
    · simp
    · exact List.pairwise_of_forall fun _ _ _ _ hf => by cases hf
  tollAside t s hstore hcounter hdel h := by
    rw [State.tollInOrder_iff] at h ⊢
    exact h.of_shape (congrArg _ hstore) hcounter hdel
  tollRecord r s hr h := by
    rw [State.tollInOrder_iff] at h ⊢
    exact h.enter (.record r) hr
  tollReport r s hr h := by
    rw [State.tollInOrder_iff] at h ⊢
    exact h.enter (.report r) (hr fun _ h => h)
  tollMerged e old r s he h := by
    rw [State.tollInOrder_iff] at h ⊢
    obtain ⟨hmem, hcontent⟩ := reportIn_some he
    refine h.of_shape ?_ rfl (.inl (Nat.le_refl _))
    simp only [State.modToll_toll, Toll.modEntry, List.map_map]
    refine List.map_congr_left fun x hx => ?_
    simp only [Function.comp]
    split
    next hq =>
      obtain rfl := List.inj_on_of_nodup_map h.nodup hx hmem hq
      simp [TollEntry.shape, hcontent, TollContent.isReport]
    · rfl
  tollAcknowledged n s hn h := by
    rw [State.tollInOrder_iff] at h ⊢
    exact h.acknowledge hn
  tollDelivered e rest x s he hroom h := by
    rw [State.tollInOrder_iff] at h ⊢
    exact h.dropFront 1 (by simp [he]) rfl (by simp; omega)

/-- Settles O59: the toll unit's order is an invariant that every single update keeps. -/
theorem stepsKeepTheTollWindow : Obligations.StepsKeepTheTollWindow := fun s t hwithin hwindow e => by
  have hreset : resetToll.InOrder := by
    refine ⟨Nat.zero_le _, Nat.zero_le _, Nat.zero_le _, fun i hi => ?_, Nat.zero_le _, .nil⟩
    simp [resetToll] at hi
  exact keptTollInOrder.step (fun _ _ h => h) (fun _ _ _ => (State.tollInOrder_iff _).2 hreset)
    (fun _ _ => (State.tollInOrder_iff _).2 hreset) ⟨hwithin, hwindow⟩ e

end Sys2Proof.Machine
end

section
/-! The bounds of the shown speed are not kept from a STARTING station whose call still refreshes its incident (R66, R106). -/
namespace Sys2Proof.Machine
open Sys2Proof

/-- A station in STARTING, with an empty incident table, whose first call box still runs an incident refresh timer. -/
def strayRefresh : State :=
  { State.reset with
    pending := [.incidentRefreshTimerExpiry 0], calls := Vector.replicate 4 { resetCall with incidentTimer := some 0 } }

theorem strayRefresh_speedsBounded : strayRefresh.SpeedsBounded :=
  ⟨fun _ => by decide, fun hj => absurd hj (by decide)⟩

theorem strayRefresh_listsWithin : strayRefresh.ListsWithin := by unfold State.ListsWithin; decide

/-- The refresh enters the station's own notice in the table while the station is in STARTING. -/
theorem strayRefresh_step :
    ∃ t, step strayRefresh = .next t ∧ t.joined = false ∧ t.incidents.table ≠ [] :=
  ⟨_, rfl, by decide, by decide⟩

/-- Refutes O58: `SpeedsBounded` demands an empty incident table in STARTING, and a refresh timer of a call fills it. -/
theorem not_stepsKeepSpeedsAndSelectors : ¬ Obligations.StepsKeepSpeedsAndSelectors := fun h => by
  obtain ⟨t, ht, hj, hne⟩ := strayRefresh_step
  obtain ⟨-, hbounded, -⟩ := h
  obtain ⟨hempty, -⟩ := hbounded _ t strayRefresh_listsWithin strayRefresh_speedsBounded ht
  exact hne (hempty hj)

end Sys2Proof.Machine
end

section
/-! The queue of those that wait, pin reset, and the values that pin reset leaves (R43, R203). -/
namespace Sys2Proof.Machine
open Sys2Proof

/-! ### The queue -/

/-- Settles O1. -/
theorem frontCommandIsExecutedOnTheRest : Obligations.FrontCommandIsExecutedOnTheRest :=
  ⟨fun _ _ => rfl, fun s h => by unfold step; rw [h]⟩

/-- The queue stands at `q`. -/
def State.QueueIs (q : List Instr) (s : State) : Prop := s.pending = q

theorem keptQueue (q : List Instr) : Kept (State.QueueIs q) where

theorem exec_next (i : Instr) (s : State) : ∃ t, exec i s = .next t := by
  cases i <;> exact ⟨_, rfl⟩

/-- Settles O2: every arm of `exec` answers a next state, and no single update touches the queue. -/
theorem everyCommandAnswersAndKeepsTheQueue : Obligations.EveryCommandAnswersAndKeepsTheQueue := fun i s => by
  obtain ⟨t, ht⟩ := exec_next i s
  exact ⟨t, ht, (keptQueue s.pending).exec (fun _ _ h => h) (fun _ h => h) ht rfl⟩

/-! ### Pin reset -/

/-- Settles O3. -/
theorem pinResetEndsGivesResetValues : Obligations.PinResetEndsGivesResetValues := fun i s => by
  refine ⟨_, rfl, rfl, rfl, rfl, rfl, fun p => ?_, rfl, rfl, fun c => ?_, fun b => ?_, fun l => ?_, rfl, rfl, rfl, fun k => ?_,
    rfl, rfl, rfl, fun n => ?_, fun f => ?_, rfl, rfl, rfl, fun l => ?_, rfl, rfl, fun x => ?_, rfl, rfl⟩
  · cases p <;> exact ⟨rfl, rfl, rfl, rfl, rfl, rfl, rfl, rfl, rfl, rfl, rfl, rfl⟩
  · simp [State.resetWith, State.reset]
  · simp [State.resetWith, State.reset, resetClaim, resetAudio, silentTone]
  · simp [State.resetWith, State.reset, resetAudio]
  · simp [State.resetWith, State.reset]
  · simp [State.resetWith, State.reset]
  · cases f <;> exact ⟨rfl, rfl⟩
  · simp [State.resetWith, State.reset]
  · simp [State.resetWith, State.reset]

theorem State.unlessHeld_held {s : State} (h : s.resetHeld = true) (act : State → State) : s.unlessHeld act = s := by
  simp [State.unlessHeld, h]

theorem State.command_held {s : State} (h : s.resetHeld = true) (c : Command) (args : List Word)
    (body : State → ResponseCode × Answer × State) : s.command c args body = s := by
  simp [State.command, h]

theorem State.withImages_command_held {s : State} (h : s.resetHeld = true) (c : Command) (args : List Word)
    (body : State → ResponseCode × Answer × State) : (s.withImages fun s => s.command c args body) = s :=
  (State.withImages_of_imageKey_eq fun _ => by rw [State.command_held h]).trans (State.command_held h ..)

/-- A held part ignores every event that is no input and every command (assumption 22). -/
theorem exec_held {s : State} (h : s.resetHeld = true) (i : Instr) (hin : isInput i = false) : exec i s = .next s := by
  have timer (t : Timer) (act : State → State) : s.onTimer t act = s := State.onTimer_held t act s h
  have images := State.withImages_command_held h
  cases i with
  | pinResetAsserted | pinResetEnds | hookOffHook | hookOnHook | signalDetectLost | signalDetectReturns => cases hin
  | claimTimerExpiry c | holdRefreshTimerExpiry c | assertHoldOffExpiry c | heldOtherAgeOut c =>
    refine congrArg Host.Outcome.next ?_
    split
    · exact timer _ _
    · rfl
  | answerWindowExpiry f q =>
    refine congrArg Host.Outcome.next ?_
    split
    · rfl
    · exact timer _ _
  | playoutTick st => cases st <;> exact congrArg Host.Outcome.next (timer _ _)
  | lineFrameArrives | transmitComplete | signAnswer | cabinetFrameFault =>
    exact congrArg Host.Outcome.next (State.unlessHeld_held h _)
  | clearIncident args | submitReading args | publishPage args | withdrawPage args =>
    exact congrArg Host.Outcome.next (images _ _ _)
  | probeTimerExpiry | stationMapAgeOut | probeSendTimerExpiry | claimWaitTimerExpiry | offerTimerExpiry
  | incidentRefreshTimerExpiry | partnerSilenceTimerExpiry | offerEntryAgeOut | takeTimerExpiry | laneSilenceTimerExpiry
  | callBoxSendTimerExpiry | laneSendTimerExpiry | cadencePhaseEnd | incidentAgeOut | clearanceTimerExpiry | readingAgeOut
  | rateTimerExpiry | evaluationTimerExpiry | advertTimerExpiry | heldAdvertAgeOut | pageMinuteTimerExpiry
  | dwellTimerExpiry | flashTimerExpiry | imageRefreshTimerExpiry | resendTimerExpiry =>
    exact congrArg Host.Outcome.next (timer _ _)
  | fetch | configure | join | restart | readLine | readMap | readCircuits | readCalls | readOffers | takeCall | endCall
  | readIncidents | readReadings | fetchReading | readSpeed | readPage | readSign | setFaceDark | submitToll
  | readTollStore | fetchDelivery | issueEpoch | readCounters | readFaults | clearFaults =>
    exact congrArg Host.Outcome.next (State.command_held h ..)

/-- Settles O4. -/
theorem heldPartFollowsItsInputsAlone : Obligations.HeldPartFollowsItsInputsAlone := by
  refine ⟨fun s => ⟨_, rfl, rfl, rfl, rfl, rfl, rfl, rfl, rfl, rfl, fun p => ?_, fun b => ?_, fun l => ?_⟩,
    fun i s h hin => exec_held h i hin, fun p s h => ⟨?_, rfl⟩, fun b s h hj => ⟨?_, ?_⟩⟩
  · cases p <;> rfl
  · simp [State.heldInReset]
  · simp [State.heldInReset]
  · exact congrArg Host.Outcome.next (State.unlessHeld_held (s := s.modPort p fun x => { x with signal := false }) h _)
  · show execHookOffHook b s = _
    simp [execHookOffHook, State.hookRead, State.unlessHeld, State.modCall, hj, h]
  · show execHookOnHook b s = _
    simp [execHookOnHook, State.hookRead, State.unlessHeld, State.modCall, hj, h]

end Sys2Proof.Machine
end

section
/-! The status word and the sizes of the responses (R195, R198, section 11.4), and what holds right after pin reset. -/
namespace Sys2Proof.Machine
open Sys2Proof

/-! ### The status word -/

theorem bitAt_eq (b : Bool) (i : Nat) : bitAt b i = b.toNat * 2 ^ i := by cases b <;> simp [bitAt]

theorem ResponseCode.value_lt (c : ResponseCode) : c.value < 16 := by cases c <;> decide

theorem Command.code_lt (c : Command) : c.code < 64 := by cases c <;> decide

theorem State.statusWord_toNat (s : State) :
    s.statusWord.toNat =
      s.joined.toNat * 2 ^ 15 + s.response.code.value * 2 ^ 11 + s.callsFlag.toNat * 2 ^ 10 + s.tollFlag.toNat * 2 ^ 9 +
        s.readingsFlag.toNat * 2 ^ 8 + s.lineFlag.toNat * 2 ^ 7 + s.faultFlag.toNat * 2 ^ 6 + s.response.answered.code := by
  simp only [State.statusWord, bitAt_eq, BitVec.toNat_ofNat]
  have := s.response.code.value_lt
  have := s.response.answered.code_lt
  have := s.joined.toNat_le
  have := s.callsFlag.toNat_le
  have := s.tollFlag.toNat_le
  have := s.readingsFlag.toNat_le
  have := s.lineFlag.toNat_le
  have := s.faultFlag.toNat_le
  exact Nat.mod_eq_of_lt (by omega)

/-- A flag's bit, read out of the status word's number. -/
theorem State.statusWord_bit {s : State} {i : Nat} {b : Bool} (h : s.statusWord.toNat / 2 ^ i % 2 = b.toNat) :
    s.statusWord.getLsbD i = b := by
  rw [← BitVec.testBit_toNat, Nat.testBit_eq_decide_div_mod_eq, h]
  cases b <;> rfl

theorem State.statusWord_fields (s : State) :
    s.statusWord.getLsbD 15 = s.joined ∧ (s.statusWord.extractLsb' 11 4).toNat = s.response.code.value ∧
      s.statusWord.getLsbD 10 = s.callsFlag ∧ s.statusWord.getLsbD 9 = s.tollFlag ∧
      s.statusWord.getLsbD 8 = s.readingsFlag ∧ s.statusWord.getLsbD 7 = s.lineFlag ∧
      s.statusWord.getLsbD 6 = s.faultFlag ∧ (s.statusWord.extractLsb' 0 6).toNat = s.response.answered.code := by
  have hword := s.statusWord_toNat
  have := s.response.code.value_lt
  have := s.response.answered.code_lt
  have := s.joined.toNat_le
  have := s.callsFlag.toNat_le
  have := s.tollFlag.toNat_le
  have := s.readingsFlag.toNat_le
  have := s.lineFlag.toNat_le
  have := s.faultFlag.toNat_le
  refine ⟨statusWord_bit ?_, ?_, statusWord_bit ?_, statusWord_bit ?_, statusWord_bit ?_, statusWord_bit ?_,
    statusWord_bit ?_, ?_⟩
  case refine_2 => rw [BitVec.extractLsb'_toNat, Nat.shiftRight_eq_div_pow, hword]; omega
  case refine_8 => rw [BitVec.extractLsb'_toNat, Nat.shiftRight_eq_div_pow, hword]; omega
  all_goals rw [hword]; omega

theorem not_isEmpty_iff {α : Type} (l : List α) : (!l.isEmpty) = true ↔ l ≠ [] := by cases l <;> simp

theorem State.attn_iff (s : State) : s.attn = true ↔ ∃ i : Fin 5, s.statusWord.getLsbD (6 + i.val) = true := by
  obtain ⟨-, -, hcalls, htoll, hreadings, hline, hfault, -⟩ := s.statusWord_fields
  simp only [Fin.exists_fin_succ, Fin.exists_fin_zero, or_false]
  simp [State.attn]
  grind

/-! ### The sizes of the responses (section 11.4) -/

theorem flatMap_length {α : Type} {f : α → List Word} {n : Nat} (h : ∀ x, (f x).length = n) (xs : List α) :
    (xs.flatMap f).length = n * xs.length := by
  induction xs with
  | nil => rfl
  | cons x xs ih => rw [List.flatMap_cons, List.length_append, ih, h, List.length_cons, Nat.mul_succ]; omega

@[simp] theorem optionWords_length (x : Option Word) : (optionWords x).length = 2 := rfl

@[simp] theorem LaneCount.words_length (l : LaneCount) : l.words.length = 8 := by simp [LaneCount.words, wordsOf32]

@[simp] theorem ReadingReport.words_length (r : ReadingReport) : r.words.length = 6 := by simp [ReadingReport.words]

@[simp] theorem FaceSpeedReport.words_length (x : FaceSpeedReport) : x.words.length = 15 := by
  obtain ⟨d, raises, last, closed, advert, held⟩ := x
  cases last <;> cases held <;> rfl

@[simp] theorem signWords_length (r : Option SignReport) : (signWords r).length = 14 := by cases r <;> rfl

@[simp] theorem SinkReport.words_length (r : SinkReport) : r.words.length = 2 := by cases r <;> rfl

@[simp] theorem TollEntryReport.words_length (e : TollEntryReport) : e.words.length = 2 := rfl

theorem SinkTablesReport.words_length (t : SinkTablesReport) : t.words.length ≤ 5 := by
  obtain ⟨delivery, origins, named⟩ := t
  obtain _ | _ | named := named <;> simp [SinkTablesReport.words, originWords]

@[simp] theorem marksWords_length (first : Option Word) (last : Word) (q : Option Word) :
    (marksWords first last q).length = 5 := rfl

theorem tollStore_words_length {r : TollReport} (h : r.entries.length ≤ 16) : (Answer.tollStore r).words.length ≤ 48 := by
  have hentries := flatMap_length TollEntryReport.words_length r.entries
  have htables : (r.tables.elim [] SinkTablesReport.words).length ≤ 5 := by
    cases r.tables with
    | none => exact Nat.zero_le _
    | some t => exact t.words_length
  simp [Answer.words, TollReport.words, -List.length_flatMap, hentries]
  omega

theorem readings_words_length {r : ReadingsReport} (h : r.kinds.length = 4) :
    (Answer.readings r).words.length = if r.delivery.isSome then 30 else 29 := by
  have hkinds := flatMap_length ReadingReport.words_length r.kinds
  cases hd : r.delivery <;> simp [Answer.words, ReadingsReport.words, -List.length_flatMap, hkinds, h, hd]

theorem counters_words_length (r : CountersReport) :
    (Answer.counters r).words.length =
      68 + (if r.report.isSome then 7 else 0) + (if r.held.isSome then 5 else 0) := by
  have hlanes := flatMap_length LaneCount.words_length r.lanes.toList
  cases hr : r.report <;> cases hh : r.held <;>
    simp [Answer.words, CountersReport.words, -List.length_flatMap, hlanes, hr, hh, reportEntryWords, heldWords]

theorem delivery_words_length (q : Word) (origin left : Nat) (r : Report) :
    (Answer.delivery ⟨origin, q, .report r⟩ left).words.length = 72 := by
  have hlanes := flatMap_length LaneCount.words_length r.lanes.toList
  simp [Answer.words, deliveryWords, TollContent.words, -List.length_flatMap, hlanes]

theorem State.clockedOut_getElem? (s : State) {n i : Nat} (h : i < n) :
    (s.clockedOut n)[i]? = some (s.outputFrame.getD i 0) := by
  rw [State.clockedOut, List.getElem?_take_of_lt h, List.getElem?_append]
  split
  next hi => simp [hi]
  next hi => rw [List.getElem?_replicate_of_lt (by omega), List.getD_eq_getElem?_getD, List.getElem?_eq_none (Nat.le_of_not_lt hi)]; rfl

/-- Settles O49. -/
theorem statusWordShowsTheFlags : Obligations.StatusWordShowsTheFlags := fun s => by
  obtain ⟨hjoined, hcode, hcalls, htoll, hreadings, hline, hfault, hanswered⟩ := s.statusWord_fields
  refine ⟨hjoined, hcode, hcalls, ?_, ?_, hline, ?_, hanswered, s.attn_iff, fun h => ⟨_, ?_, rfl⟩,
    fun n i h => s.clockedOut_getElem? h, fun n h => by simp [State.clockedOut, h], fun r => rfl, fun es => ?_, fun es cs => ?_,
    fun bs ls => ?_, fun es => ?_, fun es n => ?_, fun r h => readings_words_length h, fun _ _ => rfl, fun r => ?_, fun _ _ => rfl,
    fun fs => ?_, fun _ _ _ => rfl, fun r h => tollStore_words_length h, fun q o l r => delivery_words_length q o l r,
    counters_words_length⟩
  · rw [htoll]; exact not_isEmpty_iff _
  · rw [hreadings]; exact not_isEmpty_iff _
  · rw [hfault]; exact s.faultFlag_iff
  · simp [State.outputFrame, h]
  · rw [Answer.words, List.length_cons, flatMap_length (f := MapReport.words) (n := 2) fun _ => rfl, Nat.add_comm]
  · rw [Answer.words, List.length_append, flatMap_length (f := CircuitReport.words) (n := 3) fun _ => rfl,
      flatMap_length (f := ClaimReport.words) (n := 2) fun _ => rfl]
  · rw [Answer.words, List.length_append, flatMap_length (f := CallReport.words) (n := 8) fun _ => rfl,
      flatMap_length (f := LaneReport.words) (n := 8) fun _ => rfl]
  · rw [Answer.words, List.length_cons, flatMap_length (f := OfferReport.words) (n := 5) fun _ => rfl, Nat.add_comm]
  · simp only [Answer.words, List.length_append, List.length_cons, flatMap_length (f := IncidentReport.words) (n := 4) fun _ => rfl,
      List.length_nil]
    omega
  · simp [Answer.words, SpeedReport.words]
  · simp [Answer.words]

/-! ### Right after pin reset -/

/-- The inputs of assumption 2. -/
def usualInputs : ResetInputs :=
  { number := 1, eastEnd := false, westEnd := false, eastSignal := true, westSignal := true
    offHook := Vector.replicate 4 false }

theorem reset_eq_resetWith : State.reset = State.resetWith usualInputs := by
  have hcalls : (Vector.ofFn fun b : Fin 4 => { resetCall with offHook := usualInputs.offHook[b] }) = State.reset.calls := by
    ext i hi; simp [usualInputs, State.reset, resetCall]
  simp only [State.resetWith, hcalls]
  rfl

theorem resetWith_selecting (i : ResetInputs) (q : List Instr) (f : Face) :
    ({ State.resetWith i with pending := q } : State).selecting f = false := by cases f <;> rfl

/-- Settles O60: the records are empty or at their first values, and the station is in STARTING, so no face selects. -/
theorem invariantsHoldAtReset : Obligations.InvariantsHoldAtReset := by
  unfold Obligations.InvariantsHoldAtReset
  intro kept
  have hkept (i : ResetInputs) (q : List Instr) : kept { State.resetWith i with pending := q } := by
    obtain ⟨hwithin, hquiet⟩ := (State.portsInOrder_iff _).2 (resetWith_portsInOrder i)
    refine ⟨hwithin, hquiet, ⟨.nil, by simp [State.resetWith, State.reset]⟩, ⟨Nat.zero_le _, .nil⟩,
      circuitsBound_of_reset rfl rfl fun b => by simp [State.resetWith, resetCall],
      ⟨fun b => by simpa [State.resetWith, State.reset, resetAudio] using emptyStore_inOrder,
        fun l => by simpa [State.resetWith, State.reset, resetAudio] using emptyStore_inOrder⟩,
      ⟨⟨Nat.zero_le _, .nil⟩, ⟨Nat.zero_le _, .nil⟩, ⟨Nat.zero_le _, .nil⟩, Nat.zero_le _, Nat.zero_le _, Nat.zero_le _⟩,
      ⟨fun l => by simpa [State.resetWith, State.reset] using zeroLane_within, fun _ h => absurd h (Option.not_mem_none _)⟩,
      fun f => by simp [State.resetWith, State.reset], ⟨show defaultConfig.valid = true by decide, fun f => ?_⟩, ⟨fun _ => rfl, fun h => absurd h (by simp [State.resetWith, State.reset])⟩,
      fun f => ⟨fun _ => by cases f <;> rfl, by cases f <;> exact ⟨Nat.zero_le _, .nil⟩⟩,
      fun f h => absurd h (by simp [resetWith_selecting]), ⟨Nat.zero_le _, Nat.zero_le _, Nat.zero_le _⟩,
      ⟨fun i => i.elim0, Nat.zero_le _, .nil⟩⟩
    have hadvert : IsAdvert (startFaceSpeed 120).d := ⟨by decide, by decide, by decide⟩
    refine ⟨by cases f <;> exact hadvert, ?_⟩
    cases f <;> exact fun _ h => absurd h (Option.not_mem_none _)
  exact ⟨reset_eq_resetWith ▸ hkept usualInputs [], fun i s => ⟨_, rfl, hkept i s.pending⟩⟩

end Sys2Proof.Machine
end

section
/-! What offering a local frame does to ports, deferred list and toll unit (R23, R31, R32, R38): the statements' own words for
it (`Port.afterOffer`, `State.Offered`) hold of the model's operations. -/
namespace Sys2Proof.Machine
open Sys2Proof

/-! ### A frame offered to one port's queue -/

theorem FrameClass.localQueue_keeps {c : FrameClass} (h : c ≠ .voice) : c.localQueue.dropsOldest = false := by
  cases c with
  | voice => exact absurd rfl h
  | control | bulk => rfl

theorem QueueName.capacity_pos (q : QueueName) : 0 < q.capacity := by cases q <;> decide

@[simp] theorem emptyQueues_get (q : QueueName) : emptyQueues.get q = [] := by cases q <;> rfl

theorem Queues.set_get (x : Queues) (q : QueueName) : x.set q (x.get q) = x := by cases q <;> rfl

theorem Queues.set_set (x : Queues) (q : QueueName) (fs gs : List Frame) : (x.set q fs).set q gs = x.set q gs := by
  cases q <;> rfl

theorem emptyQueues_set_nil (q : QueueName) : emptyQueues.set q [] = emptyQueues := by cases q <;> rfl

/-- Behind a frame being sent an offered frame waits where there is room, and else is refused (R29, R31). -/
theorem Port.offer_busy {x : Port} {q : QueueName} (f : Frame) (hs : x.sending.isSome = true)
    (hq : q.dropsOldest = false) :
    x.offer q f = ⟨x.afterOffer q f, decide ((x.queues.get q).length < q.capacity), none⟩ := by
  by_cases hroom : (x.queues.get q).length < q.capacity
  · have hnot : ¬q.capacity ≤ (x.queues.get q).length := Nat.not_le.2 hroom
    have hnone : x.sending.isNone = false := by simpa using hs
    simp [Port.offer, Port.afterOffer, hnot, hroom, hs, hnone]
  · have hfull : q.capacity ≤ (x.queues.get q).length := Nat.not_lt.1 hroom
    simp [Port.offer, Port.afterOffer, hfull, hroom, hs, hq]

/-- A full voice queue loses its oldest frame to the new one (R29, R31). -/
theorem Port.offer_drops {x : Port} {q : QueueName} (f : Frame) (hs : x.sending.isSome = true) (hq : q.dropsOldest = true)
    (hfull : q.capacity ≤ (x.queues.get q).length) :
    x.offer q f = ⟨{ x with queues := x.queues.set q ((x.queues.get q).drop 1 ++ [f]) }, true, none⟩ := by
  have hnone : x.sending.isNone = false := by simpa using hs
  simp [Port.offer, hfull, hq, hnone]

/-- Behind a frame being sent an offered frame waits at the tail of a queue with room. -/
theorem Port.offer_waits {x : Port} {q : QueueName} (f : Frame) (hs : x.sending.isSome = true)
    (hroom : (x.queues.get q).length < q.capacity) :
    x.offer q f = ⟨{ x with queues := x.queues.set q (x.queues.get q ++ [f]) }, true, none⟩ := by
  have hnone : x.sending.isNone = false := by simpa using hs
  have hnot : ¬q.capacity ≤ (x.queues.get q).length := Nat.not_le.2 hroom
  simp [Port.offer, hnot, hnone]

theorem Port.offer_refused {x : Port} {q : QueueName} (f : Frame) (hq : q.dropsOldest = false)
    (hfull : q.capacity ≤ (x.queues.get q).length) : x.offer q f = ⟨x, false, none⟩ := by
  simp [Port.offer, hfull, hq]

theorem Port.sendable_of_isUp {x : Port} (h : x.isUp = true) (q : QueueName) : x.sendable q = x.queues.get q := by
  simp [Port.sendable, h]

theorem Port.sendable_eq_nil {x : Port} {q : QueueName} (h : x.queues.get q = []) : x.sendable q = [] := by
  have := x.sendable_subset q
  rw [h] at this
  exact List.eq_nil_iff_forall_not_mem.2 fun f hf => List.not_mem_nil (this f hf)

/-- The pick of a port that may send from one queue alone. -/
theorem Port.pick_of_only {x : Port} {q : QueueName} (hq : x.sendable q ≠ [])
    (hother : ∀ r, r ≠ q → x.sendable r = []) : x.pick = some q := by
  cases q <;>
    simp [Port.pick, hq, hother .vt, hother .vl, hother .ct, hother .cl, hother .bt, hother .bl]

theorem Port.pick_of_none {x : Port} (h : ∀ q, x.sendable q = []) : x.pick = none := by
  simp [Port.pick, h]

/-- An IDLE transmitter with nothing queued takes the offered frame at once (R32). -/
theorem Port.offer_idle {x : Port} {f : Frame} (q : QueueName) (hs : x.sending = none) (hempty : x.queues = emptyQueues)
    (hsend : x.isUp = true ∨ f.kind = FrameKind.probe.code) :
    x.offer q f = ⟨x.afterOffer q f, true, some q⟩ := by
  have hcap := q.capacity_pos
  have hnot : ¬q.capacity ≤ 0 := by omega
  let y : Port := { x with queues := emptyQueues.set q [f] }
  have hsendable : y.sendable q = [f] := by
    unfold Port.sendable
    split
    · exact Queues.get_set_same _ _ _
    next hup =>
      obtain h | h := hsend
      · exact absurd h hup
      · simp [y, h]
  have hother (r : QueueName) (hr : r ≠ q) : y.sendable r = [] :=
    Port.sendable_eq_nil ((Queues.get_set_ne _ _ _ _ hr).trans (emptyQueues_get r))
  have hpick : y.pick = some q := Port.pick_of_only (by simp [hsendable]) hother
  have hwait (mine : QueueName) (n : Nat) :
      waitAfter q mine (!(y.queues.get mine).isEmpty) n = if q = mine then 0 else n := by
    unfold waitAfter
    split
    · rfl
    next hne =>
      have : y.queues.get mine = [] := (Queues.get_set_ne _ _ _ _ (Ne.symm hne)).trans (emptyQueues_get mine)
      simp [this]
  have htake : y.takeNext = (x.afterOffer q f, some q) := by
    have hcl := hwait .cl y.waitCL
    have hbl := hwait .bl y.waitBL
    simp only [Queues.get] at hcl hbl
    simp only [Port.takeNext, hpick, hsendable, hcl, hbl]
    simp [y, Port.afterOffer, hs, Queues.set_set, emptyQueues_set_nil, hempty]
  have hoffer : x.offer q f = ⟨y.takeNext.1, true, y.takeNext.2⟩ := by
    simp [Port.offer, hempty, hnot, hs, y]
  rw [hoffer, htake]

/-- An offer that steering makes, where nothing else waits for the transmitter: what it leaves of the port, and that it is
answered "sent" exactly where there is room. -/
theorem Port.offer_quiet {x : Port} {q : QueueName} (f : Frame) (hq : q.dropsOldest = false) (hup : x.isUp = true)
    (hquiet : x.sending.isSome = true ∨ x.queues = emptyQueues) :
    (x.offer q f).port = x.afterOffer q f ∧ (x.sending.isSome = true → (x.offer q f).took = none) := by
  cases hs : x.sending.isSome with
  | true => rw [Port.offer_busy f hs hq]; exact ⟨rfl, fun _ => rfl⟩
  | false =>
    rw [Port.offer_idle q (by simpa using hs) (hquiet.resolve_left (by simp [hs])) (.inl hup)]
    exact ⟨rfl, fun h => absurd h (by simp)⟩

theorem Port.offer_queued_iff (x : Port) (q : QueueName) (f : Frame) :
    (x.offer q f).queued = true ↔ ¬(q.capacity ≤ (x.queues.get q).length ∧ q.dropsOldest = false) := by
  obtain ⟨hfull, hq, h⟩ | ⟨held, hheld, ⟨-, h⟩ | ⟨-, h⟩⟩ := x.offer_cases q f
  · simp [h, hfull, hq]
  all_goals
    rw [h]
    obtain ⟨-, hroom⟩ | ⟨-, hfull⟩ := hheld
    · simp [Nat.not_le.2 hroom]
    · cases hq : q.dropsOldest with
      | true => simp
      | false => simp [Port.offer_refused f hq hfull] at h

theorem Port.afterOffer_isUp (x : Port) (q : QueueName) (f : Frame) : (x.afterOffer q f).isUp = x.isUp := by
  unfold Port.afterOffer
  split
  · split <;> rfl
  · rfl

theorem Port.afterOffer_sending (x : Port) (q : QueueName) (f : Frame) (h : x.sending.isSome = true) :
    (x.afterOffer q f).sending.isSome = true := by
  unfold Port.afterOffer
  rw [if_pos h]
  split <;> exact h

end Sys2Proof.Machine
end

section
/-! Steering a local frame (R23, R31), and the re-offering of deferred frames where every port in use is busy (R39). -/
namespace Sys2Proof.Machine
open Sys2Proof

/-! ### The routes -/

theorem State.mem_upPorts {s : State} {p : Side} : p ∈ s.upPorts ↔ (s.ports.get p).isUp = true := by
  cases p <;> simp [State.upPorts]

theorem State.routes_cases (target : Nat) (s : State) : s.routes target = s.upPorts ∨ ∃ p, s.routes target = [p] ∧
    (s.ports.get p).isUp = true := by
  unfold State.routes
  split
  next e _ =>
    split
    next hup => exact .inr ⟨e.port, rfl, hup⟩
    · exact .inl rfl
  · exact .inl rfl

theorem State.isUp_of_mem_routes {target : Nat} {s : State} {p : Side} (h : p ∈ s.routes target) :
    (s.ports.get p).isUp = true := by
  obtain e | ⟨q, e, hup⟩ := s.routes_cases target <;> rw [e] at h
  · exact State.mem_upPorts.1 h
  · exact List.mem_singleton.1 h ▸ hup

theorem State.routes_shape (target : Nat) (s : State) :
    s.routes target = [] ∨ (∃ p, s.routes target = [p]) ∨ s.routes target = [.east, .west] := by
  obtain e | ⟨p, e, -⟩ := s.routes_cases target
  · rw [e]
    cases he : (s.ports.get .east).isUp <;> cases hw : (s.ports.get .west).isUp <;> simp [State.upPorts, he, hw]
  · exact .inr (.inl ⟨p, e⟩)

theorem State.mem_routes_iff (target : Nat) (s : State) (p : Side) :
    p ∈ s.routes target ↔ (s.ports.get p).isUp = true ∧ (target = 0 ∨ s.mapEntry target = none ∨
      ∃ e, s.mapEntry target = some e ∧ (e.port = p ∨ (s.ports.get e.port).isUp = false)) := by
  by_cases h0 : target = 0
  · simp [State.routes, h0, State.mem_upPorts]
  · cases he : s.mapEntry target with
    | none => simp [State.routes, h0, he, State.mem_upPorts]
    | some e =>
      cases hup : (s.ports.get e.port).isUp with
      | false => simp [State.routes, h0, he, hup, State.mem_upPorts]
      | true =>
        simp only [State.routes, h0, he, hup, if_false, if_true, List.mem_singleton]
        simp only [reduceCtorEq, Option.some.injEq, exists_eq_left', false_or, hup, Bool.true_eq_false, or_false]
        exact ⟨fun h => ⟨h ▸ hup, h.symm⟩, fun h => h.2.symm⟩

/-! ### Offering to the ports of a route -/

theorem State.not_fullAt_iff {p : Side} {q : QueueName} {s : State} : ¬s.FullAt p q ↔
    ¬(q.capacity ≤ ((s.ports.get p).queues.get q).length ∧ q.dropsOldest = false) := Iff.rfl

/-- The port of a route takes the frame exactly where its queue is not full. -/
theorem State.offerPort_sent_iff {p : Side} {f : Frame} {s : State} (hup : (s.ports.get p).isUp = true) :
    (s.offerPort p f).sent = true ↔ ¬s.FullAt p (classOf f.kind).localQueue := by
  rw [State.offerPort, if_pos hup]
  exact Port.offer_queued_iff _ _ _

@[simp] theorem State.offerPort_ports_other (p : Side) (f : Frame) (s : State) :
    (s.offerPort p f).state.ports.get p.other = s.ports.get p.other := by
  unfold State.offerPort
  split
  · exact PerSide.get_set_other _ _ _
  · rfl

theorem State.fullAt_congr {s t : State} {p : Side} (q : QueueName) (h : t.ports.get p = s.ports.get p) :
    t.FullAt p q ↔ s.FullAt p q := by
  unfold State.FullAt
  rw [h]

/-- The producer is told "sent" exactly when a port of the route has room or drops its oldest (R31). -/
theorem State.sendTold_sent_iff (f : Frame) (s : State) :
    (s.sendTold f).1 = true ↔ ∃ p ∈ s.routes f.target, ¬s.FullAt p (classOf f.kind).localQueue := by
  have hup (p : Side) := s.isUp_of_mem_routes (target := f.target) (p := p)
  change (s.offerRoutes f).sent = true ↔ _
  unfold State.offerRoutes
  obtain e | ⟨p, e⟩ | e := s.routes_shape f.target <;> rw [e] at hup ⊢
  · simp [State.offerTo]
  · simp [State.offerTo, State.offerPort_sent_iff (hup p (List.mem_singleton_self p))]
  · have hwest : (s.offerPort .east f).state.ports.get .west = s.ports.get .west := s.offerPort_ports_other .east f
    simp only [State.offerTo, List.foldl_cons, List.foldl_nil, Bool.false_or, Bool.or_eq_true]
    rw [State.offerPort_sent_iff (hup .east (by simp)), State.offerPort_sent_iff (by rw [hwest]; exact hup .west (by simp)),
      State.fullAt_congr _ hwest]
    simp

/-- Nothing else waits at this port for its transmitter, and its transmitter stays as it is unless it is IDLE. -/
def Port.Quiet (x : Port) : Prop := x.sending.isSome = true ∨ x.queues = emptyQueues

theorem State.offerPort_quiet {p : Side} {f : Frame} {s : State} (hf : classOf f.kind ≠ .voice)
    (hup : (s.ports.get p).isUp = true) (hquiet : (s.ports.get p).Quiet) :
    (s.offerPort p f).state =
        { s with ports := s.ports.set p ((s.ports.get p).afterOffer (classOf f.kind).localQueue f) } ∧
      ((s.ports.get p).sending.isSome = true → (s.offerPort p f).takes = []) := by
  obtain ⟨hport, htook⟩ := Port.offer_quiet f (FrameClass.localQueue_keeps hf) hup hquiet
  rw [State.offerPort, if_pos hup]
  simp only [State.offerQueue, State.modPort, hport, true_and]
  exact fun h => by rw [htook h]; rfl

/-- What steering leaves of the ports, where nothing else waits at the ports of the route. -/
theorem State.offerRoutes_quiet {f : Frame} {s : State} (hf : classOf f.kind ≠ .voice)
    (hquiet : ∀ p ∈ s.routes f.target, (s.ports.get p).Quiet) :
    (s.offerRoutes f).state =
        { s with ports := s.portsAfterOffer (s.routes f.target) (classOf f.kind).localQueue f } ∧
      ((∀ p ∈ s.routes f.target, (s.ports.get p).sending.isSome = true) → (s.offerRoutes f).takes = []) := by
  have hup (p : Side) := s.isUp_of_mem_routes (target := f.target) (p := p)
  unfold State.offerRoutes
  obtain e | ⟨p, e⟩ | e := s.routes_shape f.target <;> rw [e] at hup hquiet ⊢
  · exact ⟨rfl, fun _ => rfl⟩
  · have hp : p ∈ [p] := List.mem_singleton_self p
    obtain ⟨hstate, htakes⟩ := State.offerPort_quiet hf (hup p hp) (hquiet p hp)
    refine ⟨?_, fun h => ?_⟩
    · simp only [State.offerTo, List.foldl_cons, List.foldl_nil, hstate, State.portsAfterOffer]
      cases p <;> rfl
    · simp [State.offerTo, htakes (h p hp)]
  · obtain ⟨hstate, htakes⟩ := State.offerPort_quiet hf (hup .east (by simp)) (hquiet .east (by simp))
    obtain ⟨hstate', htakes'⟩ := State.offerPort_quiet (p := .west) (s := (s.offerPort .east f).state) hf
      (by rw [hstate]; exact hup .west (by simp)) (by rw [hstate]; exact hquiet .west (by simp))
    refine ⟨?_, fun h => ?_⟩
    · have htwo : (s.offerTo [.east, .west] f).state = ((s.offerPort .east f).state.offerPort .west f).state := rfl
      rw [htwo, hstate', hstate]
      rfl
    · have hwest : (s.offerPort .east f).state.ports.get .west = s.ports.get .west := s.offerPort_ports_other .east f
      simp [State.offerTo, htakes (h .east (by simp)), htakes' (by rw [hwest]; exact h .west (by simp))]

/-- Refused everywhere, the frame changes nothing. -/
theorem State.offerPort_full {p : Side} {f : Frame} {s : State} (h : s.FullAt p (classOf f.kind).localQueue) :
    s.offerPort p f = ⟨s, false, []⟩ := by
  unfold State.offerPort
  split
  · obtain ⟨hfull, hkeeps⟩ := h
    have hset : s.ports.set p (s.ports.get p) = s.ports := by cases p <;> rfl
    simp only [State.offerQueue, Port.offer_refused f hkeeps hfull, State.modPort, hset]
    rfl
  · rfl

theorem State.offerRoutes_full {f : Frame} {s : State}
    (h : ∀ p ∈ s.routes f.target, s.FullAt p (classOf f.kind).localQueue) : s.offerRoutes f = ⟨s, false, []⟩ := by
  unfold State.offerRoutes
  obtain e | ⟨p, e⟩ | e := s.routes_shape f.target <;> rw [e] at h ⊢
  · rfl
  · simp [State.offerTo, State.offerPort_full (h p (by simp))]
  · simp [State.offerTo, State.offerPort_full (h .east (by simp)), State.offerPort_full (h .west (by simp))]

/-! ### Follow-ups of takes -/

@[simp] theorem State.settle_nil (s : State) : s.settle [] = s := rfl

theorem State.reoffer_none (cls : FrameClass) {s : State} (h : s.deferred = []) : s.reoffer cls = (s, []) := by
  have hsame : ({ s with deferred := [] } : State) = s := by rw [← h]
  simp [State.reoffer, h, reofferGo, hsame]

/-- With no deferred frame and no sink on a side, a take sets nothing off (R39, R41). -/
theorem State.onTake_nothing {t : Take} {s : State} (h : s.deferred = []) (hsink : t.2 = .bl → s.sinkOn t.1 = false) :
    s.onTake t = (s, []) := by
  obtain ⟨p, q⟩ := t
  cases q with
  | cl => exact State.reoffer_none .control h
  | bl => simp [State.onTake, State.reoffer_none .bulk h, hsink rfl]
  | vt | vl | ct | bt => rfl

theorem settleGo_nothing {s : State} (h : s.deferred = []) :
    ∀ (n : Nat) (ts : List Take), (∀ t ∈ ts, t.2 = .bl → s.sinkOn t.1 = false) → settleGo n ts s = s
  | 0, _, _ => rfl
  | _ + 1, [], _ => rfl
  | n + 1, t :: ts, hsink => by
    simp only [settleGo, State.onTake_nothing h (hsink t List.mem_cons_self), List.append_nil]
    exact settleGo_nothing h n ts fun u hu => hsink u (List.mem_cons_of_mem _ hu)

theorem State.settle_nothing {s : State} {ts : List Take} (h : s.deferred = [])
    (hsink : ∀ t ∈ ts, t.2 = .bl → s.sinkOn t.1 = false) : s.settle ts = s := settleGo_nothing h 8 ts hsink

/-! ### What a producer's offer does (R31, R38) -/

theorem State.sendTold_offered {f : Frame} {s : State} (hf : classOf f.kind ≠ .voice) : s.Offered none f (s.sendTold f).2 := by
  refine ⟨fun _ hquiet => ?_, fun hfull => ?_⟩
  · obtain ⟨hstate, htakes⟩ := State.offerRoutes_quiet hf fun p hp => (hquiet p hp).imp_right And.left
    have hsettled : (s.sendTold f).2 = (s.offerRoutes f).state := by
      by_cases hbusy : ∀ p ∈ s.routes f.target, (s.ports.get p).sending.isSome = true
      · simp [State.sendTold, htakes hbusy]
      · obtain ⟨p, hp, hidle⟩ : ∃ p ∈ s.routes f.target, (s.ports.get p).sending.isSome ≠ true := by simpa using hbusy
        obtain ⟨-, hdeferred, hsink⟩ := (hquiet p hp).resolve_left hidle
        refine State.settle_nothing ?_ fun t _ _ => ?_
        · rw [hstate]; exact hdeferred
        · rw [hstate]; exact hsink t.1
    rw [hsettled, hstate]
    exact ⟨rfl, rfl, rfl⟩
  · simp [State.sendTold, State.offerRoutes_full hfull]

theorem State.send_offered {f : Frame} {s : State} (hf : classOf f.kind ≠ .voice) : s.Offered none f (s.send f) :=
  State.sendTold_offered hf

theorem State.defer_deferred (tag : DeferTag) (f : Frame) (s : State) :
    s.defer tag f = { s with deferred := deferredAfter tag f s.deferred } := rfl

theorem State.sendOneOff_offered {tag : DeferTag} {f : Frame} {s : State} (hf : classOf f.kind ≠ .voice) :
    s.Offered (some tag) f (s.sendOneOff tag f) := by
  refine ⟨fun hroom hquiet => ?_, fun hfull => ?_⟩
  · obtain ⟨hsent, -⟩ := State.sendTold_offered (s := s) hf
    have htold : (s.sendTold f).1 = true := (s.sendTold_sent_iff f).2 hroom
    simpa [State.sendOneOff, htold] using hsent hroom hquiet
  · simp [State.sendOneOff, State.sendTold, State.offerRoutes_full hfull, State.defer_deferred]

/-- Settles O14. -/
theorem steeringQueuesAndDefers : Obligations.SteeringQueuesAndDefers := by
  refine ⟨fun target s p => s.mem_routes_iff target p, fun f s => s.sendTold_sent_iff f, fun f s hf => State.send_offered hf,
    fun tag f s hf => State.sendOneOff_offered hf, fun tag f s => ?_⟩
  obtain ⟨ports, deferred, toll, h, -⟩ := s.sendOneOff_lineWork tag f
  exact ⟨ports, deferred, toll, h⟩

end Sys2Proof.Machine
end

section
/-! The probe that a port sends each period (R24, R36) and the relay (R9, R13, R30). -/
namespace Sys2Proof.Machine
open Sys2Proof

/-! ### A probe each period (R36) -/

theorem State.sendProbe_eq (p : Side) (s : State) :
    s.sendProbe p =
      ({ s with ports := s.ports.set p { ((s.ports.get p).offer .cl (s.probeFrame p)).port with
          probeSendTimer := some (s.now + 100) } } : State).settle
        (takesOf p ((s.ports.get p).offer .cl (s.probeFrame p)).took) := by
  simp only [State.sendProbe, State.offerQueue, State.modPort, PerSide.get_set_same, PerSide.set_set]
  rfl

theorem exec_probeSendTimerExpiry {p : Side} {s : State} {due : Nat} (h : s.resetHeld = false)
    (hdue : (s.ports.get p).probeSendTimer = some due) :
    exec (.probeSendTimerExpiry p) s = .next ((s.clockTo due).sendProbe p) := by
  change execProbeSendTimerExpiry p s = _
  rw [execProbeSendTimerExpiry, hdue, State.onTimer_running due _ s h]

/-- Settles O12: the three clauses are the three ways in which CL takes an offer. -/
theorem probeSentEveryPeriod : Obligations.ProbeSentEveryPeriod := by
  intro p s due h hdue
  dsimp only
  rw [exec_probeSendTimerExpiry h hdue, State.sendProbe_eq]
  let x := (s.clockTo due).ports.get p
  refine ⟨fun hbusy hroom => ?_, fun hfull => ?_, fun hidle hempty hdeferred => ?_⟩
  · rw [Port.offer_waits (x := x) (q := .cl) _ hbusy hroom]
    rfl
  · rw [Port.offer_refused (x := x) (q := .cl) _ rfl hfull]
    rfl
  · rw [Port.offer_idle (x := x) .cl hidle hempty (.inr rfl), State.settle_nothing (by exact hdeferred) (by simp [takesOf])]
    have hafter (f : Frame) : x.afterOffer .cl f = { s.ports.get p with sending := some f, waitCL := 0 } := by
      have hx : x.sending.isSome = false := by simp [x, State.clockTo, hidle]
      simp only [Port.afterOffer, hx]
      rfl
    rw [hafter]
    rfl

/-! ### The relay (R9, R13, R30) -/

theorem FrameClass.transitQueue_ne (c : FrameClass) : c.transitQueue ≠ .cl ∧ c.transitQueue ≠ .bl := by
  cases c <;> exact ⟨by decide, by decide⟩

theorem FrameClass.transitQueue_keeps {c : FrameClass} (h : c.transitQueue ≠ .vt) : c.transitQueue.dropsOldest = false := by
  cases c with
  | voice => exact absurd rfl h
  | control | bulk => rfl

/-- A take from a transit queue sets nothing off (R39, R41). -/
theorem State.settle_transit {p : Side} {q : QueueName} {s : State} (h : q ≠ .cl ∧ q ≠ .bl) : s.settle [(p, q)] = s := by
  obtain ⟨hcl, hbl⟩ := h
  cases q with
  | cl => exact absurd rfl hcl
  | bl => exact absurd rfl hbl
  | vt | vl | ct | bt => rfl

section
variable {p : Side} {f : Frame} {s : State}

theorem State.relay_none (h : f.target = s.number ∨ f.hopLimit ≤ f.hops ∨ (s.ports.get p.other).isUp = false) :
    s.relay p f = s := by
  unfold State.relay
  rw [if_neg]
  rintro ⟨htarget, hhops, hup⟩
  obtain h | h | h := h
  · exact htarget h
  · omega
  · simp [h] at hup

/-- The relay as the offer to the other port's transit queue. -/
theorem State.relay_some (htarget : f.target ≠ s.number) (hhops : f.hops < f.hopLimit)
    (hup : (s.ports.get p.other).isUp = true) :
    s.relay p f =
      if ((s.ports.get p.other).offer (classOf f.kind).transitQueue f).queued then
        ({ s with ports := s.ports.set p.other ((s.ports.get p.other).offer (classOf f.kind).transitQueue f).port } : State).settle
          (takesOf p.other ((s.ports.get p.other).offer (classOf f.kind).transitQueue f).took)
      else s.latch .transitDrop := by
  rw [State.relay, if_pos ⟨htarget, hhops, hup⟩]
  rfl

theorem State.relay_waits (htarget : f.target ≠ s.number) (hhops : f.hops < f.hopLimit)
    (hup : (s.ports.get p.other).isUp = true) (hbusy : (s.ports.get p.other).sending.isSome = true)
    (hroom : ((s.ports.get p.other).queues.get (classOf f.kind).transitQueue).length <
      (classOf f.kind).transitQueue.capacity) :
    s.relay p f =
      { s with ports := s.ports.set p.other { s.ports.get p.other with
        queues := (s.ports.get p.other).queues.set (classOf f.kind).transitQueue
          ((s.ports.get p.other).queues.get (classOf f.kind).transitQueue ++ [f]) } } := by
  rw [State.relay_some htarget hhops hup, Port.offer_waits f hbusy hroom]
  rfl

end

/-- Settles O9. -/
theorem relayByTransitQueue : Obligations.RelayByTransitQueue := by
  refine ⟨fun p bytes f s h hkind => ?_, fun p f s => ⟨State.relay_none, fun htarget hhops hup hbusy => ⟨fun hroom => ?_,
    fun hfull hvt => ?_, fun hfull hvt => ?_⟩, fun htarget hhops hup hidle hempty => ?_⟩⟩
  · have hnone : kindOf f.counted.kind = none := by
      rw [kindOf, List.getElem?_eq_none]
      exact hkind
    have hvoice : f.kind ≠ FrameKind.voice.code := fun e => by rw [e] at hkind; exact absurd hkind (by decide)
    have htaken : (s.reached p f).takeLocally p f.counted = s.reached p f := by simp [State.takeLocally, hnone]
    have hreceive := (h.receive_eq hvoice).trans htaken
    rw [exec_lineFrameArrives p bytes s h.1,
      State.withImages_of_imageKey_eq fun g => by rw [hreceive, State.reached_imageKey], hreceive]
    rfl
  · exact State.relay_waits htarget hhops hup hbusy hroom
  · rw [State.relay_some htarget hhops hup, Port.offer_drops f hbusy (by rw [hvt]; rfl) hfull, hvt]
    rfl
  · rw [State.relay_some htarget hhops hup, Port.offer_refused f (FrameClass.transitQueue_keeps hvt) hfull]
    rfl
  · rw [State.relay_some htarget hhops hup, Port.offer_idle _ hidle hempty (.inl hup)]
    obtain ⟨hcl, hbl⟩ := (classOf f.kind).transitQueue_ne
    simp only [if_true, takesOf, State.settle_transit ⟨hcl, hbl⟩]
    simp [Port.afterOffer, hidle, hcl, hbl]

end Sys2Proof.Machine
end

section
/-! A try of the toll unit (R171, R172): what it sends, where the chosen sink's port is busy or IDLE with nothing queued. -/
namespace Sys2Proof.Machine
open Sys2Proof

/-! ### One entry is sent -/

/-- What sending an entry makes of the state, beside the port that took its frame (R172). -/
def State.tollGone (d : Side) (x : Port) (e : TollEntry) (s : State) : State :=
  { s with
    ports := s.ports.set d x
    toll := { s.toll.modEntry e.sequence TollEntry.nowSent with resendTimer := some (s.now + 2000) } }

section
variable {d : Side} {sink : Nat} {e : TollEntry} {s : State}

theorem State.tollFrame_isBulk : classOf (s.tollFrame sink e).kind = .bulk := rfl

theorem State.offerToll_of_offer {x : Port} {took : Option QueueName} (hup : (s.ports.get d).isUp = true)
    (h : (s.ports.get d).offer .bl (s.tollFrame sink e) = ⟨x, true, took⟩) :
    s.offerToll d sink e = ⟨s.tollGone d x e, true, takesOf d took⟩ := by
  have hoffer : s.offerPort d (s.tollFrame sink e) = ⟨s.modPort d fun _ => x, true, takesOf d took⟩ := by
    rw [State.offerPort, if_pos hup, State.tollFrame_isBulk, State.offerQueue]
    simp only [FrameClass.localQueue, h]
  simp only [State.offerToll, hoffer]
  rfl

theorem State.offerToll_refused (h : (s.ports.get d).isUp = false ∨ 16 ≤ (s.ports.get d).queues.bl.length) :
    s.offerToll d sink e = ⟨s, false, []⟩ := by
  have hoffer : s.offerPort d (s.tollFrame sink e) = ⟨s, false, []⟩ := by
    obtain hdown | hfull := h
    · simp [State.offerPort, hdown]
    · exact State.offerPort_full ⟨hfull, rfl⟩
  simp [State.offerToll, hoffer]

end

/-! ### The entries that a try sends -/

/-- The QUEUED entries, oldest first. -/
def Toll.queued (t : Toll) : List TollEntry := t.store.filter fun e => !e.sent

/-- The toll unit after these entries were sent. -/
def Toll.gone (out : List TollEntry) (timer : Timer) (t : Toll) : Toll :=
  { t with
    resendTimer := if out = [] then t.resendTimer else timer
    store := t.store.map fun e =>
      if e ∈ out then { e with sent := true, sendCount := min 255 (e.sendCount + 1) } else e }

theorem Toll.gone_nil (timer : Timer) (t : Toll) : t.gone [] timer = t := by simp [Toll.gone]

/-- The store around the oldest QUEUED entry: all before it are SENT. -/
theorem Toll.oldestQueued_split {t : Toll} {e : TollEntry} (h : t.oldestQueued = some e) :
    ∃ pre post, t.store = pre ++ e :: post ∧ (∀ x ∈ pre, x.sent = true) ∧ e.sent = false := by
  obtain ⟨he, pre, post, hstore, hpre⟩ := List.find?_eq_some_iff_append.1 h
  exact ⟨pre, post, hstore, fun x hx => by simpa using hpre x hx, by simpa using he⟩

theorem Toll.oldestQueued_none {t : Toll} (h : t.oldestQueued = none) : t.queued = [] := by
  refine List.filter_eq_nil_iff.2 fun e he => ?_
  simpa using List.find?_eq_none.1 h e he

/-- Sending the oldest QUEUED entry takes it from the QUEUED ones, counts it, and changes nothing of the others. -/
theorem Toll.sendOldest_facts {t : Toll} {e : TollEntry} (hnodup : (t.store.map (·.sequence)).Nodup)
    (h : t.oldestQueued = some e) (timer : Timer) {u : Toll}
    (hu : u = { t.modEntry e.sequence TollEntry.nowSent with resendTimer := timer }) :
    t.queued = e :: u.queued ∧ u.sentCount = t.sentCount + 1 ∧ u.base = t.base ∧ (u.store.map (·.sequence)).Nodup ∧
      ∀ out, out.Sublist u.queued → u.gone out timer = t.gone (e :: out) timer := by
  obtain ⟨pre, post, hstore, hpre, he⟩ := Toll.oldestQueued_split h
  have hustore : u.store = pre ++ e.nowSent :: post := by
    rw [hstore] at hnodup
    rw [hu, Toll.modEntry, hstore]
    exact modEntry_split _ hnodup
  have hseqs : u.store.map (·.sequence) = t.store.map (·.sequence) := by
    rw [hu]; exact t.modEntry_sequences e.sequence fun _ => rfl
  have hprequeued : (pre.filter fun x => !x.sent) = [] := List.filter_eq_nil_iff.2 fun x hx => by simp [hpre x hx]
  refine ⟨?_, ?_, ?_, hseqs ▸ hnodup, fun out hout => ?_⟩
  · simp [Toll.queued, hstore, hustore, hprequeued, he, TollEntry.nowSent]
  · simp only [Toll.sentCount, hstore, hustore, List.filter_append, List.filter_cons, he, TollEntry.nowSent,
      List.length_append, List.length_cons, Bool.false_eq_true, if_false, if_true]
    omega
  · simp only [Toll.base, ← List.head?_map, hseqs]
  · have hunsent (x : TollEntry) (hx : x.sent = true) : x ∉ out := fun hmem => by
      have := (List.mem_filter.1 (hout.subset hmem)).2
      simp [hx] at this
    have hother (x : TollEntry) (hx : x ∈ post) : x ≠ e := fun hxe => by
      rw [hstore, List.map_append, List.map_cons] at hnodup
      have := (List.nodup_cons.1 (List.nodup_append.1 hnodup).2.1).1
      exact this (hxe ▸ List.mem_map_of_mem hx)
    have hsame (x : TollEntry) (hx : x ≠ e) : (x ∈ e :: out) = (x ∈ out) := by simp [hx]
    have hstores : (t.gone (e :: out) timer).store = (u.gone out timer).store := by
      simp only [Toll.gone, hstore, hustore, List.map_append, List.map_cons]
      congr 1
      · refine List.map_congr_left fun x hx => ?_
        simp only [hsame x fun hxe => by simpa [hxe, he] using hpre x hx]
      · rw [if_pos List.mem_cons_self, if_neg (hunsent e.nowSent rfl),
          List.map_congr_left fun x hx => by simp only [hsame x (hother x hx)]; rfl]
        rfl
    simp only [Toll.gone] at hstores ⊢
    rw [hstores, hu]
    simp [Toll.modEntry]

/-! ### A try where the sink's port is busy -/

theorem tollTryGo_stops {n : Nat} {s : State}
    (h : (∀ d sink, s.toll.sink ≠ .via d sink) ∨ s.toll.oldestQueued = none ∨ 8 ≤ s.toll.sentCount) :
    tollTryGo n s = (s, []) := by
  cases n with
  | zero => rfl
  | succ n =>
    unfold tollTryGo
    split
    next d sink e hsink he =>
      obtain h | h | h := h
      · exact absurd hsink (h d sink)
      · rw [h] at he; cases he
      · rw [if_neg (by omega)]
    · rfl

theorem tollTryGo_refused {n : Nat} {s : State} {d : Side} {sink : Nat} (hsink : s.toll.sink = .via d sink)
    (h : (s.ports.get d).isUp = false ∨ 16 ≤ (s.ports.get d).queues.bl.length) : tollTryGo n s = (s, []) := by
  cases n with
  | zero => rfl
  | succ n =>
    unfold tollTryGo
    split
    next d' sink' e hsink' he =>
      obtain ⟨rfl, rfl⟩ := SinkChoice.via.inj (hsink.symm.trans hsink')
      split
      · simp [State.offerToll_refused h]
      · rfl
    · rfl

/-- The state after a try at a busy port: these entries are SENT, and their frames wait in its BL. -/
def State.tollWaits (d : Side) (sink : Nat) (out : List TollEntry) (s : State) : State :=
  { s with
    toll := s.toll.gone out (some (s.now + 2000))
    ports := s.ports.set d
      { s.ports.get d with queues := { (s.ports.get d).queues with
        bl := (s.ports.get d).queues.bl ++ out.map fun e => s.tollFrame sink e } } }

theorem State.tollWaits_nil (d : Side) (sink : Nat) (s : State) : s.tollWaits d sink [] = s := by
  simp only [State.tollWaits, Toll.gone_nil, List.map_nil, List.append_nil]
  cases d <;> rfl

/-- How many entries a try can send at a busy port. -/
def State.tollRoom (d : Side) (s : State) : Nat := min (8 - s.toll.sentCount) (16 - (s.ports.get d).queues.bl.length)

theorem tollTryGo_busy (n : Nat) (s : State) {d : Side} {sink : Nat} (hsink : s.toll.sink = .via d sink)
    (hnodup : (s.toll.store.map (·.sequence)).Nodup) (hup : (s.ports.get d).isUp = true)
    (hbusy : (s.ports.get d).sending.isSome = true) :
    tollTryGo n s = (s.tollWaits d sink (s.toll.queued.take (min n (s.tollRoom d))), []) := by
  induction n generalizing s with
  | zero => simp [tollTryGo, State.tollWaits_nil]
  | succ n ih =>
    cases he : s.toll.oldestQueued with
    | none => simp [tollTryGo_stops (.inr (.inl he)), Toll.oldestQueued_none he, State.tollWaits_nil]
    | some e =>
      by_cases hcount : s.toll.sentCount < 8
      · by_cases hroom : (s.ports.get d).queues.bl.length < 16
        · have hoffer := State.offerToll_of_offer (e := e) hup (Port.offer_waits (q := .bl) (s.tollFrame sink e) hbusy hroom)
          generalize hu : State.tollGone d _ e s = u at hoffer
          have hutoll : u.toll = { s.toll.modEntry e.sequence TollEntry.nowSent with resendTimer := some (s.now + 2000) } := by
            rw [← hu]; rfl
          have huport : u.ports.get d = { s.ports.get d with queues := { (s.ports.get d).queues with
              bl := (s.ports.get d).queues.bl ++ [s.tollFrame sink e] } } := by
            rw [← hu]; simp [State.tollGone, Queues.set, Queues.get]
          obtain ⟨hqueued, hsent, hbase, hnodup', hgone⟩ := Toll.sendOldest_facts hnodup he _ hutoll
          have hframe (x : TollEntry) : u.tollFrame sink x = s.tollFrame sink x := by
            have hfresh : u.toll.fresh = s.toll.fresh := by rw [hutoll]; rfl
            have hnumber : u.number = s.number := by rw [← hu]; rfl
            simp only [State.tollFrame, State.newFrame, hbase, hfresh, hnumber]
          have hrec := ih u (by rw [hutoll]; exact hsink) hnodup' (by rw [huport]; exact hup) (by rw [huport]; exact hbusy)
          have hroom' : s.tollRoom d = u.tollRoom d + 1 := by
            simp only [State.tollRoom, hsent, huport, List.length_append, List.length_singleton]
            omega
          unfold tollTryGo
          simp only [hsink, he, hcount, if_true, hoffer, hrec, takesOf, List.append_nil]
          rw [hroom', hqueued, Nat.add_min_add_right, List.take_succ_cons]
          refine Prod.ext ?_ rfl
          have hnow : u.now = s.now := by rw [← hu]; rfl
          simp only [State.tollWaits, huport, hframe, hnow, hgone _ (List.take_sublist _ _)]
          rw [← hu]
          simp only [State.tollGone, PerSide.set_set, List.append_assoc, List.singleton_append, List.map_cons]
        · have hfull : s.tollRoom d = 0 := by simp only [State.tollRoom]; omega
          simp [tollTryGo_refused hsink (.inr (Nat.not_lt.1 hroom)), hfull, State.tollWaits_nil]
      · have hfull : s.tollRoom d = 0 := by simp only [State.tollRoom]; omega
        rw [tollTryGo_stops (.inr (.inr (Nat.not_lt.1 hcount))), hfull]
        simp [State.tollWaits_nil]

/-! ### A try as the statements say it -/

theorem tollTryGo_ends {n : Nat} {s : State} {d : Side} {sink : Nat} (hsink : s.toll.sink = .via d sink)
    (hnodup : (s.toll.store.map (·.sequence)).Nodup) (hup : (s.ports.get d).isUp = true)
    (hbusy : (s.ports.get d).sending.isSome = true) (hn : 8 ≤ n + s.toll.sentCount)
    (hroom : (s.ports.get d).queues.bl.length + (8 - s.toll.sentCount) ≤ 16) :
    let u := (tollTryGo n s).1
    u.toll.oldestQueued = none ∨ 8 ≤ u.toll.sentCount := by
  induction n generalizing s with
  | zero => exact .inr (by simpa [tollTryGo] using hn)
  | succ n ih =>
    cases he : s.toll.oldestQueued with
    | none => rw [tollTryGo_stops (.inr (.inl he))]; exact .inl he
    | some e =>
      by_cases hcount : s.toll.sentCount < 8
      · have hoffer := State.offerToll_of_offer (e := e) hup
          (Port.offer_waits (q := .bl) (s.tollFrame sink e) hbusy (show _ < 16 by simp only [Queues.get]; omega))
        generalize hu : State.tollGone d _ e s = u at hoffer
        have hutoll : u.toll = { s.toll.modEntry e.sequence TollEntry.nowSent with resendTimer := some (s.now + 2000) } := by
          rw [← hu]; rfl
        have huport : u.ports.get d = { s.ports.get d with queues := { (s.ports.get d).queues with
            bl := (s.ports.get d).queues.bl ++ [s.tollFrame sink e] } } := by
          rw [← hu]; simp [State.tollGone, Queues.set, Queues.get]
        obtain ⟨-, hsent, -, hnodup', -⟩ := Toll.sendOldest_facts hnodup he _ hutoll
        unfold tollTryGo
        simp only [hsink, he, hcount, if_true, hoffer]
        refine ih (by rw [hutoll]; exact hsink) hnodup' (by rw [huport]; exact hup) (by rw [huport]; exact hbusy)
          (by omega) ?_
        rw [huport, hsent]
        simp only [List.length_append, List.length_singleton]
        omega
      · rw [tollTryGo_stops (.inr (.inr (Nat.not_lt.1 hcount)))]
        exact .inr (Nat.not_lt.1 hcount)

/-- Where the chosen sink's port is IDLE with nothing queued, the first frame is taken at once and the others wait. -/
theorem State.tollTry_idle {s : State} {d : Side} {sink : Nat} {first : TollEntry} {rest : List TollEntry}
    (hsink : s.toll.sink = .via d sink)
    (hnodup : (s.toll.store.map (·.sequence)).Nodup) (hup : (s.ports.get d).isUp = true)
    (hidle : (s.ports.get d).sending = none) (hempty : (s.ports.get d).queues = emptyQueues) (hdeferred : s.deferred = [])
    (hout : s.toll.queued.take (8 - s.toll.sentCount) = first :: rest) :
    s.tollTry = { s with
      toll := s.toll.gone (first :: rest) (some (s.now + 2000))
      ports := s.ports.set d { s.ports.get d with
        sending := some (s.tollFrame sink first), waitBL := 0
        queues := { (s.ports.get d).queues with bl := rest.map fun e => s.tollFrame sink e } } } := by
  have hcount : s.toll.sentCount < 8 := by
    refine Nat.lt_of_not_le fun h => ?_
    rw [Nat.sub_eq_zero_of_le h] at hout
    cases hout
  have he : s.toll.oldestQueued = some first := by
    cases he : s.toll.oldestQueued with
    | none => simp [Toll.oldestQueued_none he] at hout
    | some e =>
      obtain ⟨hqueued, -⟩ := Toll.sendOldest_facts hnodup he none rfl
      rw [hqueued, show 8 - s.toll.sentCount = (7 - s.toll.sentCount) + 1 by omega, List.take_succ_cons] at hout
      rw [(List.cons.inj hout).1]
  have hoffer := State.offerToll_of_offer hup (Port.offer_idle (f := s.tollFrame sink first) .bl hidle hempty (.inl hup))
  have hafter : (s.ports.get d).afterOffer .bl (s.tollFrame sink first) =
      { s.ports.get d with sending := some (s.tollFrame sink first), waitBL := 0 } := by
    simp [Port.afterOffer, hidle]
  rw [hafter] at hoffer
  generalize hu : State.tollGone d _ first s = u at hoffer
  have hutoll : u.toll = { s.toll.modEntry first.sequence TollEntry.nowSent with resendTimer := some (s.now + 2000) } := by
    rw [← hu]; rfl
  have huport : u.ports.get d = { s.ports.get d with sending := some (s.tollFrame sink first), waitBL := 0 } := by
    rw [← hu]; simp [State.tollGone]
  obtain ⟨hqueued, hsent, hbase, hnodup', hgone⟩ := Toll.sendOldest_facts hnodup he _ hutoll
  have hframe (x : TollEntry) : u.tollFrame sink x = s.tollFrame sink x := by
    have hfresh : u.toll.fresh = s.toll.fresh := by rw [hutoll]; rfl
    have hnumber : u.number = s.number := by rw [← hu]; rfl
    simp only [State.tollFrame, State.newFrame, hbase, hfresh, hnumber]
  have husink : u.toll.sink = .via d sink := by rw [hutoll]; exact hsink
  have hbl : (u.ports.get d).queues.bl = [] := by rw [huport]; simp [hempty, emptyQueues]
  have hubusy : (u.ports.get d).sending.isSome = true := by rw [huport]; rfl
  have huup : (u.ports.get d).isUp = true := by rw [huport]; exact hup
  have hbusy := tollTryGo_busy 7 u husink hnodup' huup hubusy
  have hends := tollTryGo_ends (n := 7) husink hnodup' huup hubusy (by omega) (by rw [hbl]; simp; omega)
  have hrest : u.toll.queued.take (min 7 (u.tollRoom d)) = rest := by
    have hmin : min 7 (u.tollRoom d) = 7 - s.toll.sentCount := by
      simp only [State.tollRoom, hsent, hbl, List.length_nil]
      omega
    rw [hqueued, show 8 - s.toll.sentCount = (7 - s.toll.sentCount) + 1 by omega, List.take_succ_cons] at hout
    rw [hmin, (List.cons.inj hout).2]
  rw [hrest] at hbusy
  have hgo : tollTryGo 8 s = (u.tollWaits d sink rest, [(d, .bl)]) := by
    unfold tollTryGo
    simp only [hsink, he, hcount, if_true, hoffer, hbusy, takesOf, List.append_nil]
  have hresult : u.tollWaits d sink rest = { s with
      toll := s.toll.gone (first :: rest) (some (s.now + 2000))
      ports := s.ports.set d { s.ports.get d with
        sending := some (s.tollFrame sink first), waitBL := 0
        queues := { (s.ports.get d).queues with bl := rest.map fun e => s.tollFrame sink e } } } := by
    have hnow : u.now = s.now := by rw [← hu]; rfl
    have hsub : rest.Sublist u.toll.queued := hrest ▸ List.take_sublist _ _
    simp only [State.tollWaits, huport, hframe, hnow, hgone rest hsub]
    rw [← hu]
    simp only [State.tollGone, PerSide.set_set, hempty, emptyQueues, List.nil_append]
  have hagain : (u.tollWaits d sink rest).onTake (d, .bl) = (u.tollWaits d sink rest, []) := by
    have hdef : (u.tollWaits d sink rest).deferred = [] := by rw [← hu]; exact hdeferred
    rw [hbusy] at hends
    simp only [State.onTake, State.reoffer_none .bulk hdef]
    split
    · rw [State.tollTryTakes, tollTryGo_stops (.inr hends)]
      rfl
    · rfl
  have hsettle : (u.tollWaits d sink rest).settle [(d, .bl)] = u.tollWaits d sink rest := by
    simp only [State.settle, settleGo, hagain, List.append_nil]
  have htry : s.tollTry = (tollTryGo 8 s).1.settle (tollTryGo 8 s).2 := rfl
  rw [htry, hgo, hsettle, hresult]

/-- At a busy port, or at one that is not in use, a try makes no take. -/
theorem State.tollTryTakes_busy {s : State} {d : Side} {sink : Nat} (hsink : s.toll.sink = .via d sink)
    (hnodup : (s.toll.store.map (·.sequence)).Nodup) (hup : (s.ports.get d).isUp = true)
    (hbusy : (s.ports.get d).sending.isSome = true) :
    s.tollTryTakes = (s.tollWaits d sink (s.toll.queued.take (s.tollRoom d)), []) := by
  have hmin : min 8 (s.tollRoom d) = s.tollRoom d := by simp only [State.tollRoom]; omega
  rw [State.tollTryTakes, tollTryGo_busy 8 s hsink hnodup hup hbusy, hmin]

/-- A try of the toll unit does what the statements say of it. -/
theorem State.tollTry_tried (s : State) : s.TollTried s.tollTry := by
  have hstops {P : Prop} (hp : P) (h : P → tollTryGo 8 s = (s, [])) : s.tollTry = s := by
    simp [State.tollTry, State.tollTryTakes, h hp]
  refine ⟨fun h => hstops h fun h => tollTryGo_stops (.inl h), fun d sink hsink hnodup => ⟨fun h => ?_, fun hup hbusy => ?_,
    fun hup hidle hempty hdeferred => ⟨fun hout => ?_, fun first rest hout => ?_⟩⟩⟩
  · exact hstops h fun h => tollTryGo_refused hsink (.inl h)
  · simp only [State.tollTry, State.tollTryTakes_busy hsink hnodup hup hbusy, State.settle_nil]
    rfl
  · refine hstops hout fun hout => tollTryGo_stops (.inr ?_)
    obtain h | h := List.take_eq_nil_iff.1 hout
    · exact .inr (by omega)
    · exact .inl (List.find?_eq_none.2 fun e he => by simpa using List.filter_eq_nil_iff.1 h e he)
  · have hout' : s.toll.queued.take (8 - s.toll.sentCount) = first :: rest := hout
    rw [State.tollTry_idle hsink hnodup hup hidle hempty hdeferred hout', ← hout']
    rfl

end Sys2Proof.Machine
end

section
/-! The transmitter that becomes free (R32 to R34), and what its takes set off (R39, R41). -/
namespace Sys2Proof.Machine
open Sys2Proof

/-! ### Re-offering where every port in use is busy (R39) -/

/-- A port of the frame's route takes it. -/
def State.HasRoomFor (d : Deferred) (s : State) : Prop :=
  ∃ p ∈ s.routes d.frame.target, ¬s.FullAt p (classOf d.frame.kind).localQueue

/-- What one re-offered frame makes of the state. -/
def State.reoffered (d : Deferred) (s : State) : State :=
  { s with ports := s.portsAfterOffer (s.routes d.frame.target) (classOf d.frame.kind).localQueue d.frame }

theorem State.portsAfterOffer_get (ps : List Side) (q : QueueName) (f : Frame) (s : State) (p : Side) :
    (s.portsAfterOffer ps q f).get p = if p ∈ ps then (s.ports.get p).afterOffer q f else s.ports.get p := by
  cases p <;> rfl

theorem State.reoffered_isUp (d : Deferred) (s : State) (p : Side) :
    ((s.reoffered d).ports.get p).isUp = (s.ports.get p).isUp := by
  simp only [State.reoffered, State.portsAfterOffer_get]
  split
  · exact Port.afterOffer_isUp _ _ _
  · rfl

theorem State.reoffered_sending (d : Deferred) (s : State) (p : Side) (h : (s.ports.get p).sending.isSome = true) :
    ((s.reoffered d).ports.get p).sending.isSome = true := by
  simp only [State.reoffered, State.portsAfterOffer_get]
  split
  · exact Port.afterOffer_sending _ _ _ h
  · exact h

theorem State.Busy.reoffered {s : State} (h : s.Busy) (d : Deferred) : (s.reoffered d).Busy := fun p hup =>
  s.reoffered_sending d p (h p (s.reoffered_isUp d p ▸ hup))

/-- What re-offered frames leave of ports and toll unit. -/
theorem State.afterReoffers_parts (ds : List Deferred) (s : State) :
    (s.afterReoffers ds).toll = s.toll ∧ ∀ p, ((s.afterReoffers ds).ports.get p).isUp = (s.ports.get p).isUp ∧
      ((s.ports.get p).sending.isSome = true → ((s.afterReoffers ds).ports.get p).sending.isSome = true) := by
  induction ds generalizing s with
  | nil => exact ⟨rfl, fun _ => ⟨rfl, id⟩⟩
  | cons d ds ih =>
    obtain ⟨htoll, hports⟩ := ih (s.reoffered d)
    refine ⟨htoll, fun p => ?_⟩
    obtain ⟨hup, hsending⟩ := hports p
    exact ⟨hup.trans (s.reoffered_isUp d p), fun h => hsending (s.reoffered_sending d p h)⟩

theorem State.Busy.offerRoutes {s : State} (h : s.Busy) {d : Deferred} (hd : classOf d.frame.kind ≠ .voice) :
    (s.offerRoutes d.frame).state = s.reoffered d ∧ (s.offerRoutes d.frame).takes = [] := by
  have hbusy : ∀ p ∈ s.routes d.frame.target, (s.ports.get p).sending.isSome = true := fun p hp =>
    h p (State.isUp_of_mem_routes hp)
  obtain ⟨hstate, htakes⟩ := State.offerRoutes_quiet hd fun p hp => .inl (hbusy p hp)
  exact ⟨hstate, htakes hbusy⟩

theorem State.offerRoutes_sent_iff {d : Deferred} {s : State} : (s.offerRoutes d.frame).sent = true ↔ s.HasRoomFor d :=
  s.sendTold_sent_iff d.frame

theorem State.offerRoutes_not_sent {d : Deferred} {s : State} (h : ¬s.HasRoomFor d) :
    s.offerRoutes d.frame = ⟨s, false, []⟩ := by
  refine State.offerRoutes_full fun p hp => ?_
  by_contra hroom
  exact h ⟨p, hp, hroom⟩

theorem reofferGo_busy {cls : FrameClass} (hcls : cls ≠ .voice) (ds : List Deferred) (s : State) (h : s.Busy) :
    ∃ out kept left, reofferGo cls ds s = (left, s.afterReoffers out, []) ∧
      (ds.filter fun d => classOf d.frame.kind == cls) = out ++ kept ∧
      (left.filter fun d => classOf d.frame.kind == cls) = kept ∧
      (left.filter fun d => classOf d.frame.kind != cls) = (ds.filter fun d => classOf d.frame.kind != cls) ∧
      left.Sublist ds ∧
      (∀ before after d, out = before ++ d :: after → (s.afterReoffers before).HasRoomFor d) ∧
      ∀ d rest, kept = d :: rest → ¬(s.afterReoffers out).HasRoomFor d := by
  induction ds generalizing s with
  | nil => exact ⟨[], [], [], rfl, rfl, rfl, rfl, .refl _, by simp, by simp⟩
  | cons d ds ih =>
    by_cases hd : classOf d.frame.kind = cls
    · by_cases hroom : s.HasRoomFor d
      · obtain ⟨hstate, htakes⟩ := h.offerRoutes (d := d) (hd ▸ hcls)
        obtain ⟨out, kept, left, hgo, hfilter, hkept, hothers, hsub, hrooms, hfull⟩ := ih _ (h.reoffered d)
        refine ⟨d :: out, kept, left, ?_, by simp [hd, hfilter], hkept, by simp [hd, hothers], hsub.cons d, ?_, hfull⟩
        · simp only [reofferGo, hd, if_true, State.offerRoutes_sent_iff.2 hroom, hstate, htakes, hgo, List.nil_append]
          rfl
        · intro before after x hx
          cases before with
          | nil =>
            obtain ⟨rfl, -⟩ := List.cons.inj hx
            exact hroom
          | cons y before =>
            obtain ⟨rfl, hrest⟩ := List.cons.inj hx
            exact hrooms before after x hrest
      · refine ⟨[], d :: ds.filter fun d => classOf d.frame.kind == cls, d :: ds, ?_, by simp [hd], by simp [hd], rfl,
          .refl _, by simp, fun x rest hx => ?_⟩
        · simp only [reofferGo, hd, if_true, State.offerRoutes_not_sent hroom]
          rfl
        · obtain ⟨rfl, -⟩ := List.cons.inj hx
          exact hroom
    · obtain ⟨out, kept, left, hgo, hfilter, hkept, hothers, hsub, hrooms, hfull⟩ := ih s h
      refine ⟨out, kept, d :: left, ?_, by simp [hd, hfilter], by simp [hd, hkept], by simp [hd, hothers], hsub.cons_cons d,
        hrooms, hfull⟩
      simp only [reofferGo, hd, if_false, hgo]

/-- What R39 says of a re-offering, where every port in use is busy. -/
theorem State.Busy.reoffer {s : State} (h : s.Busy) {cls : FrameClass} (hcls : cls ≠ .voice) :
    s.Reoffered cls (s.reoffer cls).1 ∧ (s.reoffer cls).2 = [] ∧ (s.reoffer cls).1.toll = s.toll ∧
      ∀ p, ((s.reoffer cls).1.ports.get p).isUp = (s.ports.get p).isUp ∧
        ((s.ports.get p).sending.isSome = true → ((s.reoffer cls).1.ports.get p).sending.isSome = true) := by
  obtain ⟨out, kept, left, hgo, hfilter, hkept, hothers, hsub, hrooms, hfull⟩ := reofferGo_busy hcls s.deferred s h
  have hstate : s.reoffer cls = ({ s.afterReoffers out with deferred := left }, []) := by
    simp only [State.reoffer, hgo]
  rw [hstate]
  exact ⟨⟨out, kept, hfilter, rfl, hkept, hothers, hsub, hrooms, hfull⟩, rfl, s.afterReoffers_parts out⟩

theorem State.Busy.reoffer_busy {s : State} (h : s.Busy) {cls : FrameClass} (hcls : cls ≠ .voice) :
    (s.reoffer cls).1.Busy := fun p hup => by
  obtain ⟨-, -, -, hports⟩ := h.reoffer hcls
  exact (hports p).2 (h p ((hports p).1 ▸ hup))

/-! ### A take at the chosen sink's port (R41) -/

theorem tollTryGo_takes_busy (n : Nat) (s : State) {d : Side} {sink : Nat} (hsink : s.toll.sink = .via d sink)
    (hbusy : (s.ports.get d).sending.isSome = true) : (tollTryGo n s).2 = [] := by
  induction n generalizing s with
  | zero => rfl
  | succ n ih =>
    by_cases hopen : (s.ports.get d).isUp = true ∧ (s.ports.get d).queues.bl.length < 16
    · obtain ⟨hup, hroom⟩ := hopen
      cases he : s.toll.oldestQueued with
      | none => rw [tollTryGo_stops (.inr (.inl he))]
      | some e =>
        by_cases hcount : s.toll.sentCount < 8
        · have hoffer := State.offerToll_of_offer (e := e) hup (Port.offer_waits (q := .bl) (s.tollFrame sink e) hbusy hroom)
          unfold tollTryGo
          simp only [hsink, he, hcount, if_true, hoffer, takesOf, List.nil_append]
          exact ih _ hsink (by simpa [State.tollGone] using hbusy)
        · rw [tollTryGo_stops (.inr (.inr (Nat.not_lt.1 hcount)))]
    · rw [tollTryGo_refused hsink]
      cases hup : (s.ports.get d).isUp with
      | false => exact .inl rfl
      | true => exact .inr (Nat.not_lt.1 fun h => hopen ⟨hup, h⟩)

theorem State.tollTry_of_busy {s : State} {d : Side} {sink : Nat} (hsink : s.toll.sink = .via d sink)
    (hbusy : (s.ports.get d).sending.isSome = true) : s.tollTryTakes = (s.tollTry, []) := by
  have htakes : s.tollTryTakes.2 = [] := tollTryGo_takes_busy 8 s hsink hbusy
  refine Prod.ext ?_ htakes
  simp only [State.tollTry, htakes, State.settle_nil]

theorem State.sinkOn_iff {p : Side} {s : State} : s.sinkOn p = true ↔ ∃ sink, s.toll.sink = .via p sink := by
  unfold State.sinkOn
  split
  next d sink h => simp [h]
  next h => simpa using fun sink => h p sink

theorem State.settle_one {s t : State} {u : Take} (h : s.onTake u = (t, [])) : s.settle [u] = t := by
  simp only [State.settle, settleGo, h, List.append_nil]

/-- What follows a take where every port in use is busy (R39, R41). -/
theorem State.Busy.settle_cl {s : State} (h : s.Busy) (p : Side) : s.settle [(p, .cl)] = (s.reoffer .control).1 := by
  obtain ⟨-, htakes, -⟩ := h.reoffer (cls := .control) (by decide)
  exact State.settle_one (Prod.ext rfl htakes)

theorem State.Busy.settle_bl {s : State} (h : s.Busy) {p : Side} (hp : (s.ports.get p).sending.isSome = true) :
    s.settle [(p, .bl)] = if s.sinkOn p then (s.reoffer .bulk).1.tollTry else (s.reoffer .bulk).1 := by
  obtain ⟨-, htakes, htoll, hports⟩ := h.reoffer (cls := .bulk) (by decide)
  have hsink : (s.reoffer .bulk).1.sinkOn p = s.sinkOn p := by simp only [State.sinkOn, htoll]
  refine State.settle_one ?_
  simp only [State.onTake, hsink, htakes]
  split
  next hon =>
    obtain ⟨sink, hvia⟩ := State.sinkOn_iff.1 hon
    rw [State.tollTry_of_busy (by rw [htoll]; exact hvia) ((hports p).2 hp)]
    rfl
  · exact Prod.ext rfl htakes

/-! ### Which queue the transmitter takes from (R33, R34) -/

theorem Port.takeNext_of_pick {x : Port} {q : QueueName} {f : Frame} {rest : List Frame} (hpick : x.pick = some q)
    (hs : x.sendable q = f :: rest) :
    x.takeNext = ({ x with
      queues := x.queues.set q ((x.queues.get q).erase f), sending := some f
      waitCL := waitAfter q .cl (!x.queues.cl.isEmpty) x.waitCL
      waitBL := waitAfter q .bl (!x.queues.bl.isEmpty) x.waitBL }, some q) := by
  simp [Port.takeNext, hpick, hs]

theorem Port.takeNext_of_pick_none {x : Port} (hpick : x.pick = none) : x.takeNext = ({ x with sending := none }, none) := by
  simp [Port.takeNext, hpick]

/-- The order of R33, where neither guarantee holds. -/
theorem Port.pick_in_order {x : Port} {q : QueueName} (hcl : ¬(x.waitCL = 4 ∧ x.sendable .cl ≠ []))
    (hbl : ¬(x.waitBL = 4 ∧ x.sendable .bl ≠ [])) (hq : x.sendable q ≠ [])
    (hbefore : ∀ r : QueueName, r.rank < q.rank → x.sendable r = []) : x.pick = some q := by
  have hnone (r : QueueName) (h : r.rank < q.rank) : (x.sendable r).isEmpty = true := by simp [hbefore r h]
  have hsome : (x.sendable q).isEmpty = false := by simpa using hq
  rw [Port.pick, if_neg hcl, if_neg hbl]
  cases q with
  | vt => simp [hsome]
  | vl => simp [hsome, hnone .vt (by decide)]
  | ct => simp [hsome, hnone .vt (by decide), hnone .vl (by decide)]
  | cl => simp [hsome, hnone .vt (by decide), hnone .vl (by decide), hnone .ct (by decide)]
  | bt => simp [hsome, hnone .vt (by decide), hnone .vl (by decide), hnone .ct (by decide), hnone .cl (by decide)]
  | bl =>
    simp [hsome, hnone .vt (by decide), hnone .vl (by decide), hnone .ct (by decide), hnone .cl (by decide),
      hnone .bt (by decide)]

theorem exec_transmitComplete {p : Side} {s : State} (h : s.resetHeld = false) :
    exec (.transmitComplete p) s = .next (s.transmitted p) := by
  change execTransmitComplete p s = _
  simp [execTransmitComplete, State.unlessHeld, h]

theorem State.transmitted_busy {p : Side} {s : State} (h : (s.ports.get p).sending.isSome = true) :
    s.transmitted p =
      ({ s with ports := s.ports.set p (s.ports.get p).takeNext.1 } : State).settle (takesOf p (s.ports.get p).takeNext.2) := by
  have hnone : (s.ports.get p).sending.isNone = false := by simpa using h
  simp [State.transmitted, hnone, State.modPort]

/-- A free transmitter where nothing waits for its take. -/
theorem State.transmitted_plain {p : Side} {s : State} {y : Port} {took : Option QueueName}
    (h : (s.ports.get p).sending.isSome = true) (hdeferred : s.deferred = []) (hsink : took = some .bl → s.sinkOn p = false)
    (htake : (s.ports.get p).takeNext = (y, took)) : s.transmitted p = { s with ports := s.ports.set p y } := by
  rw [State.transmitted_busy h, htake]
  refine State.settle_nothing hdeferred fun t ht hbl => ?_
  cases took with
  | none => cases ht
  | some q =>
    obtain rfl := List.mem_singleton.1 ht
    exact hsink (congrArg some hbl)

/-! ### The guarantee (R33, R34) -/

/-- A wait count's bound, from what one take makes of it. -/
theorem Port.takes_bound {mine : QueueName} {wait : Port → Nat}
    (hstep : ∀ (x : Port) (q : QueueName), x.isUp = true → x.takeNext.2 = some q → q ≠ mine → x.queues.get mine ≠ [] →
      wait x ≤ 4 → x.takeNext.1.isUp = true ∧ x.takeNext.1.queues.get mine = x.queues.get mine ∧
        wait x.takeNext.1 = (if q = .ct ∨ q = .bt then wait x + 1 else wait x) ∧ wait x.takeNext.1 ≤ 4)
    (n : Nat) (x : Port) (hup : x.isUp = true) (hwait : wait x ≤ 4) (hheld : x.queues.get mine ≠ [])
    (hnot : mine ∉ x.takes n) : (x.takes n).count .ct + (x.takes n).count .bt + wait x ≤ 4 := by
  induction n generalizing x with
  | zero => simpa [Port.takes] using hwait
  | succ n ih =>
    cases hq : x.takeNext.2 with
    | none => simpa [Port.takes, hq] using hwait
    | some q =>
      simp only [Port.takes, hq, List.mem_cons, not_or] at hnot ⊢
      obtain ⟨hne, hnot⟩ := hnot
      obtain ⟨hup', hqueue, hafter, hle⟩ := hstep x q hup hq (Ne.symm hne) hheld hwait
      have hrest := ih _ hup' hle (hqueue ▸ hheld) hnot
      rw [hafter] at hrest
      cases q <;> simp at hrest ⊢ <;> omega

/-- A take leaves the other queues, and a wait count that is not at 4 where a transit take passes a local queue. -/
theorem Port.takeNext_other {x : Port} {q : QueueName} (h : x.takeNext.2 = some q) :
    x.takeNext.1.isUp = x.isUp ∧ (∀ r, r ≠ q → x.takeNext.1.queues.get r = x.queues.get r) ∧
      x.takeNext.1.waitCL = waitAfter q .cl (!x.queues.cl.isEmpty) x.waitCL ∧
      x.takeNext.1.waitBL = waitAfter q .bl (!x.queues.bl.isEmpty) x.waitBL ∧
      (q = .ct ∨ q = .bt → ¬(x.waitCL = 4 ∧ x.sendable .cl ≠ []) ∧ ¬(x.waitBL = 4 ∧ x.sendable .bl ≠ [])) := by
  obtain e | ⟨q', f, rest, hpick, -, e⟩ := x.takeNext_cases
  · rw [e] at h; cases h
  · rw [e] at h ⊢
    obtain rfl := Option.some.inj h
    refine ⟨rfl, fun r hr => Queues.get_set_ne _ _ _ _ hr, rfl, rfl, fun hq => ?_⟩
    unfold Port.pick at hpick
    split at hpick
    · cases hpick; simp at hq
    next hcl =>
      split at hpick
      · cases hpick; simp at hq
      next hbl => exact ⟨hcl, hbl⟩

theorem waitAfter_transit {q mine : QueueName} {n : Nat} (hne : q ≠ mine) (hn : n ≤ 4) (h : q = .ct ∨ q = .bt → n ≠ 4) :
    waitAfter q mine true n = (if q = .ct ∨ q = .bt then n + 1 else n) ∧ waitAfter q mine true n ≤ 4 := by
  unfold waitAfter
  rw [if_neg hne]
  split
  next ht => have := h ht.1; rw [if_pos ht.1]; omega
  next ht => rw [if_neg fun hq => ht ⟨hq, rfl⟩]; exact ⟨rfl, hn⟩

theorem Port.takes_bound_cl (n : Nat) (x : Port) (hup : x.isUp = true) (hwait : x.waitCL ≤ 4) (hheld : x.queues.cl ≠ [])
    (hnot : QueueName.cl ∉ x.takes n) : (x.takes n).count .ct + (x.takes n).count .bt + x.waitCL ≤ 4 := by
  refine Port.takes_bound (mine := .cl) (wait := Port.waitCL) (fun x q hup hq hne hheld hwait => ?_) n x hup hwait hheld hnot
  obtain ⟨hup', hothers, hcl, -, hguard⟩ := Port.takeNext_other hq
  have hwaiting : (!x.queues.cl.isEmpty) = true := by
    have hne' : x.queues.cl ≠ [] := hheld
    simpa using hne'
  rw [hwaiting] at hcl
  have hbound := waitAfter_transit hne hwait fun ht h4 =>
    (hguard ht).1 ⟨h4, by rw [Port.sendable_of_isUp hup]; exact hheld⟩
  rw [← hcl] at hbound
  exact ⟨hup'.trans hup, hothers .cl (Ne.symm hne), hbound⟩

theorem Port.takes_bound_bl (n : Nat) (x : Port) (hup : x.isUp = true) (hwait : x.waitBL ≤ 4) (hheld : x.queues.bl ≠ [])
    (hnot : QueueName.bl ∉ x.takes n) : (x.takes n).count .ct + (x.takes n).count .bt + x.waitBL ≤ 4 := by
  refine Port.takes_bound (mine := .bl) (wait := Port.waitBL) (fun x q hup hq hne hheld hwait => ?_) n x hup hwait hheld hnot
  obtain ⟨hup', hothers, -, hbl, hguard⟩ := Port.takeNext_other hq
  have hwaiting : (!x.queues.bl.isEmpty) = true := by
    have hne' : x.queues.bl ≠ [] := hheld
    simpa using hne'
  rw [hwaiting] at hbl
  have hbound := waitAfter_transit hne hwait fun ht h4 =>
    (hguard ht).2 ⟨h4, by rw [Port.sendable_of_isUp hup]; exact hheld⟩
  rw [← hbl] at hbound
  exact ⟨hup'.trans hup, hothers .bl (Ne.symm hne), hbound⟩

/-! ### What a free transmitter does -/

/-- The follow-ups of a take where every port in use is busy. -/
theorem State.transmitted_followed {p : Side} {s : State} (hp : (s.ports.get p).sending.isSome = true) (h : s.Busy) :
    let taken := (s.ports.get p).takeNext
    let after : State := { s with ports := s.ports.set p taken.1 }
    (taken.2 = some .cl → after.Reoffered .control (s.transmitted p)) ∧
      (taken.2 = some .bl → ∃ u, after.Reoffered .bulk u ∧
        (s.sinkOn p = true → u.TollTried (s.transmitted p)) ∧ (s.sinkOn p = false → s.transmitted p = u)) ∧
      (taken.2 ≠ some .cl → taken.2 ≠ some .bl → s.transmitted p = after) := by
  intro taken after
  have heq : s.transmitted p = after.settle (takesOf p taken.2) := State.transmitted_busy hp
  have hsome (q : QueueName) (hq : taken.2 = some q) : (after.ports.get p).sending.isSome = true := by
    simp only [after, PerSide.get_set_same]
    obtain e | ⟨q', f, rest, -, -, e⟩ := (s.ports.get p).takeNext_cases
    · simp only [taken, e] at hq; cases hq
    · simp only [taken, e]; rfl
  have hbusy (q : QueueName) (hq : taken.2 = some q) : after.Busy := fun d hup => by
    by_cases hd : d = p
    · exact hd ▸ hsome q hq
    · have hget : after.ports.get d = s.ports.get d := by simp [after, PerSide.get_set, hd]
      rw [hget] at hup ⊢
      exact h d hup
  refine ⟨fun hq => ?_, fun hq => ?_, fun hcl hbl => ?_⟩
  · rw [heq, hq]
    have := (hbusy .cl hq).settle_cl p
    simp only [takesOf, this]
    exact ((hbusy .cl hq).reoffer (by decide)).1
  · have hsettle := (hbusy .bl hq).settle_bl (hsome .bl hq)
    refine ⟨(after.reoffer .bulk).1, ((hbusy .bl hq).reoffer (by decide)).1, fun hon => ?_, fun hoff => ?_⟩
    · have hafter : after.sinkOn p = true := hon
      rw [heq, hq]
      simp only [takesOf, hsettle, hafter, if_true]
      exact State.tollTry_tried _
    · have hafter : after.sinkOn p = false := hoff
      rw [heq, hq]
      simp only [takesOf, hsettle, hafter, Bool.false_eq_true, if_false]
  · rw [heq]
    cases hq : taken.2 with
    | none => rfl
    | some q => exact State.settle_transit ⟨fun e => hcl (e ▸ hq), fun e => hbl (e ▸ hq)⟩

theorem waitAfter_of_take (q mine : QueueName) (fs : List Frame) (n : Nat) :
    waitAfter q mine (!fs.isEmpty) n =
      if q = mine then 0 else if (q = .ct ∨ q = .bt) ∧ fs ≠ [] then min 4 (n + 1) else n := by
  cases fs <;> simp [waitAfter]

/-- Settles O13. -/
theorem transmitterTakesInOrder : Obligations.TransmitterTakesInOrder := by
  refine ⟨fun p s h hp hbusy => ⟨_, exec_transmitComplete h, State.transmitted_followed hp hbusy⟩,
    fun p s h hup hp hdeferred hsink => ?_, fun p s h => ⟨fun hup hp hdeferred => ⟨fun f rest hq hf => ?_, fun hnone => ?_⟩,
      fun hnone => ?_⟩, fun n x hup => ⟨x.takes_bound_cl n hup, x.takes_bound_bl n hup⟩⟩
  · intro x guaranteeCL guaranteeBL
    have hsendable (q : QueueName) : x.sendable q = x.queues.get q := Port.sendable_of_isUp hup q
    have htaken (q : QueueName) (f : Frame) (rest : List Frame) (hpick : x.pick = some q) (hq : x.queues.get q = f :: rest) :=
      State.transmitted_plain hp hdeferred (fun _ => hsink) (Port.takeNext_of_pick hpick ((hsendable q).trans hq))
    rw [exec_transmitComplete h]
    refine ⟨fun f rest hcl hq => ?_, fun f rest hcl hbl hq => ?_, fun q f rest hcl hbl hq hbefore => ?_, fun hempty => ?_⟩
    · have hpick : x.pick = some .cl := by
        rw [Port.pick, if_pos ⟨hcl.1, by rw [hsendable]; exact hcl.2⟩]
      rw [htaken .cl f rest hpick hq, show x.queues.get .cl = f :: rest from hq, List.erase_cons_head]
      simp only [waitAfter_of_take]
      rfl
    · have hpick : x.pick = some .bl := by
        rw [Port.pick, if_neg (by rw [hsendable]; exact hcl), if_pos ⟨hbl.1, by rw [hsendable]; exact hbl.2⟩]
      rw [htaken .bl f rest hpick hq, show x.queues.get .bl = f :: rest from hq, List.erase_cons_head]
      simp only [waitAfter_of_take]
      rfl
    · have hpick : x.pick = some q := Port.pick_in_order (by rw [hsendable]; exact hcl) (by rw [hsendable]; exact hbl)
        (by rw [hsendable, hq]; exact List.cons_ne_nil _ _) fun r hr => (hsendable r).trans (hbefore r hr)
      rw [htaken q f rest hpick hq, hq, List.erase_cons_head]
      simp only [waitAfter_of_take]
      rfl
    · have hpick : x.pick = none := Port.pick_of_none fun q => (hsendable q).trans (hempty q)
      rw [State.transmitted_plain (took := none) hp hdeferred (fun h => by cases h) (Port.takeNext_of_pick_none hpick)]
  · have hsendable (q : QueueName) :
        (s.ports.get p).sendable q = ((s.ports.get p).queues.get q).filter fun f => f.kind == FrameKind.probe.code := by
      rw [Port.sendable, hup]; rfl
    have hsend : (s.ports.get p).sendable .cl = f :: rest.filter fun f => f.kind == FrameKind.probe.code := by
      rw [hsendable, hq]
      simp [Queues.get, hf, FrameKind.code]
    have hpick : (s.ports.get p).pick = some .cl :=
      Port.pick_of_only (by rw [hsend]; exact List.cons_ne_nil _ _) fun r hr => by
        rw [hsendable, hq]
        cases r <;> simp [Queues.get, emptyQueues] at hr ⊢
    rw [exec_transmitComplete h, State.transmitted_plain hp hdeferred (fun h => by cases h)
      (Port.takeNext_of_pick hpick hsend), hq]
    simp only [waitAfter_of_take]
    simp [Queues.get, Queues.set, emptyQueues]
  · have hpick : (s.ports.get p).pick = none := Port.pick_of_none fun q => by
      rw [Port.sendable, hup]
      exact List.filter_eq_nil_iff.2 fun f hf => by simpa [FrameKind.code] using hnone q f hf
    rw [exec_transmitComplete h,
      State.transmitted_plain (took := none) hp hdeferred (fun h => by cases h) (Port.takeNext_of_pick_none hpick)]
  · rw [exec_transmitComplete h, State.transmitted, hnone]
    rfl

end Sys2Proof.Machine
end

section
/-! Reception as it meets the port (R5, R14 to R17, R25, R27): outcomes, probes, and what the taking of a frame leaves of the
line. -/
namespace Sys2Proof.Machine
open Sys2Proof

/-! ### What leaves the line as it is -/

/-- Both states show the same line: ports but for their queues, reach views and the LINE flag. -/
def State.SameLine (s t : State) : Prop :=
  (∀ p, (s.ports.get p).SameLink (t.ports.get p)) ∧ t.reach = s.reach ∧ t.lineFlag = s.lineFlag

theorem State.SameLine.rfl' (s : State) : s.SameLine s := ⟨fun _ => Port.SameLink.rfl' _, rfl, rfl⟩

theorem State.SameLine.trans {s t u : State} (h : s.SameLine t) (k : t.SameLine u) : s.SameLine u := by
  obtain ⟨hports, hreach, hflag⟩ := h
  obtain ⟨kports, kreach, kflag⟩ := k
  exact ⟨fun p => (hports p).trans (kports p), kreach.trans hreach, kflag.trans hflag⟩

theorem State.SameLine.of_eq {s t : State} (hports : t.ports = s.ports) (hreach : t.reach = s.reach)
    (hflag : t.lineFlag = s.lineFlag) : s.SameLine t :=
  ⟨fun p => by rw [hports]; exact Port.SameLink.rfl' _, hreach, hflag⟩

theorem State.LineWork.sameLine {s t : State} (h : s.LineWork t) : s.SameLine t := by
  obtain ⟨_, _, _, rfl, h⟩ := h
  exact ⟨h, rfl, rfl⟩

theorem State.RoadWork.sameLine {s t : State} (h : s.RoadWork t) : s.SameLine t := by
  obtain ⟨u, _, _, _, h, rfl⟩ := h
  exact h.sameLine

theorem State.CallWork.sameLine {s t : State} (h : s.CallWork t) : s.SameLine t := by
  obtain ⟨u, _, _, _, _, _, h, rfl⟩ := h
  exact h.sameLine

theorem State.TollWork.sameLine {s t : State} (h : s.TollWork t) : s.SameLine t := by
  obtain ⟨u, _, h, rfl⟩ := h
  exact h.sameLine

theorem State.ImageWork.sameLine {s t : State} (h : s.ImageWork t) : s.SameLine t := by
  obtain ⟨_, _, rfl⟩ := h
  exact State.SameLine.rfl' s

theorem State.modIncidents_incidentsChanged_sameLine (change : Incidents → Incidents) (cause : Bool) (s : State) :
    s.SameLine ((s.modIncidents change).incidentsChanged cause) :=
  State.SameLine.trans (.of_eq rfl rfl rfl) (State.incidentsChanged_roadWork cause _).sameLine

theorem State.enterIncident_sameLine (e : Incident) (s : State) : s.SameLine (s.enterIncident e) := by
  unfold State.enterIncident
  dsimp only
  split
  · exact .rfl' s
  · split
    · split
      · exact .of_eq rfl rfl rfl
      · exact State.modIncidents_incidentsChanged_sameLine _ _ s
    · split
      · exact State.modIncidents_incidentsChanged_sameLine _ _ s
      · split
        · exact .rfl' s
        · split
          · exact State.modIncidents_incidentsChanged_sameLine _ _ s
          · exact .rfl' s

theorem State.takeIncident_sameLine (p : Side) (f : Frame) (callId : Byte) (b : Fin 4) (s : State) :
    s.SameLine (s.takeIncident p f callId b) := by
  unfold State.takeIncident
  split
  · exact State.enterIncident_sameLine _ s
  · exact .rfl' s

theorem State.removeIncident_sameLine (origin : Nat) (callId : Byte) (s : State) :
    s.SameLine (s.removeIncident origin callId) := by
  unfold State.removeIncident
  split
  · exact State.modIncidents_incidentsChanged_sameLine _ _ s
  · exact .rfl' s

theorem State.clearIncident_sameLine (origin : Nat) (callId : Byte) (s : State) :
    s.SameLine (s.clearIncident origin callId) := by
  have hremoved (change : Incidents → Incidents) : s.SameLine ((s.modIncidents change).removeIncident origin callId) :=
    State.SameLine.trans (.of_eq rfl rfl rfl) (State.removeIncident_sameLine origin callId _)
  unfold State.clearIncident
  dsimp only
  split
  · exact (hremoved _).trans (.of_eq rfl rfl rfl)
  · exact hremoved _

theorem State.applyPage_sameLine (origin : Nat) (notice : PageNotice) (s : State) :
    s.SameLine (s.applyPage origin notice).2 := by
  unfold State.applyPage
  dsimp only
  split_ifs
  · exact .of_eq rfl rfl rfl
  · exact State.SameLine.trans (.of_eq rfl rfl rfl) (State.selectBoth_roadWork _).sameLine
  · exact .of_eq rfl rfl rfl
  · exact .rfl' s

theorem State.relay_sameLine (p : Side) (f : Frame) (s : State) : s.SameLine (s.relay p f) := by
  unfold State.relay
  dsimp only
  split
  · split
    · exact ((State.offerQueue_lineWork _ _ f s).trans (State.settle_lineWork _ _)).sameLine
    · exact .of_eq rfl rfl rfl
  · exact .rfl' s

theorem State.taking_sameLine {α : Type} (fields : Option α) {act : α → State → State} (s : State)
    (h : ∀ x, s.SameLine (act x s)) : s.SameLine (s.taking fields act) := by
  cases fields with
  | none => exact .rfl' s
  | some x => exact h x

/-- No taking but a probe's touches the line. -/
theorem State.handTo_sameLine {k : FrameKind} (hk : k ≠ .probe) (p : Side) (f : Frame) (s : State) :
    s.SameLine (s.handTo k p f) := by
  cases k <;> refine State.taking_sameLine _ s fun x => ?_
  case probe => exact absurd rfl hk
  case voice => exact (State.takeVoice_callWork p f.origin x s).sameLine
  case claim => exact (State.takeClaim_callWork f.origin x.1 x.2 s).sameLine
  case release => exact (State.takeRelease_callWork f.origin x s).sameLine
  case offer => exact (State.takeOffer_callWork p f.origin x s).sameLine
  case take => exact (State.takeTake_callWork p f.origin x.1 x.2 s).sameLine
  case refuse => exact (State.CallWork.foldl (State.refuseLane_callWork f.origin x.1 x.2) _ s).sameLine
  case hangup => exact (State.takeHangup_callWork f.origin x.1 x.2 s).sameLine
  case incident => exact State.takeIncident_sameLine p f x.1 x.2 s
  case clear => exact State.clearIncident_sameLine x.1 x.2 s
  case reading => exact .of_eq rfl rfl rfl
  case speed => exact (State.takeSpeed_roadWork p f x s).sameLine
  case page => exact State.applyPage_sameLine f.origin x s
  case toll => exact (State.takeToll_lineWork f.origin x s).sameLine
  case tollAck => exact (State.takeTollAck_tollWork x s).sameLine
  case epoch => exact (State.takeEpoch_tollWork x s).sameLine

/-! ### A probe is taken (R15 to R17, R25) -/

section
variable {x : Port} {timer : Timer}

theorem Port.heardProbe_down (h : x.state = .down) :
    x.heardProbe timer = { x with state := .listening, probes := 0, history := [], probeTimer := timer } := by
  unfold Port.heardProbe
  split <;> simp_all

theorem Port.heardProbe_listening (h : x.state = .listening) (hp : x.probes < 2) :
    x.heardProbe timer = { x with probes := x.probes + 1, probeTimer := timer } := by
  unfold Port.heardProbe
  split <;> simp_all

theorem Port.heardProbe_third (h : x.state = .listening) (hp : 2 ≤ x.probes) :
    x.heardProbe timer = { x with state := .up, probes := 0, history := [], probeTimer := timer } := by
  unfold Port.heardProbe
  split <;> simp_all

theorem Port.heardProbe_inUse (h : x.isUp = true) : x.heardProbe timer = { x with probeTimer := timer } := by
  unfold Port.heardProbe
  split
  · simp_all [Port.isUp]
  · simp_all [Port.isUp]
  · rfl

end

/-- The line after a valid probe, before anything is sent. -/
def State.probed (p : Side) (origin : Nat) (x : ProbeFields) (s : State) : State :=
  { s with
    ports := s.ports.set p ((s.ports.get p).heardProbe (s.startTimer 300))
    reach := s.reach.set p (heardReach origin x)
    lineFlag := s.lineFlag || ((s.ports.get p).heardProbe (s.startTimer 300)).state != (s.ports.get p).state }

theorem State.takeProbe_eq (p : Side) (origin : Nat) (x : ProbeFields) (s : State) :
    s.takeProbe p origin x =
      (if (s.ports.get p).state = .listening ∧ ((s.ports.get p).heardProbe (s.startTimer 300)).state = .up then
        (s.probed p origin x).reofferBoth else s.probed p origin x).reviewIfChanged s := by
  unfold State.takeProbe State.probed
  simp only [State.modPort, PerSide.get_set_same]
  by_cases h : ((s.ports.get p).heardProbe (s.startTimer 300)).state = (s.ports.get p).state
  · simp [h]
  · have hne : (((s.ports.get p).heardProbe (s.startTimer 300)).state != (s.ports.get p).state) = true := by simpa using h
    simp only [if_neg h, hne, Bool.or_true]

theorem State.takeProbe_lineWork (p : Side) (origin : Nat) (x : ProbeFields) (s : State) :
    (s.probed p origin x).LineWork (s.takeProbe p origin x) := by
  rw [State.takeProbe_eq]
  refine State.LineWork.trans ?_ (State.reviewIfChanged_lineWork _ s)
  split
  · exact State.reofferBoth_lineWork _
  · exact .rfl' _

/-- Local taking leaves the line, or takes a probe. -/
theorem State.takeLocally_line (p : Side) (f : Frame) (s : State) :
    s.SameLine (s.takeLocally p f) ∨ ∃ x, s.takeLocally p f = s.takeProbe p f.origin x := by
  unfold State.takeLocally
  split
  · exact .inl (.rfl' s)
  next k _ =>
    split
    · by_cases hk : k = .probe
      · subst hk
        simp only [State.handTo, State.taking]
        cases parseProbe f.payload with
        | none => exact .inl (.rfl' s)
        | some x => exact .inr ⟨x, rfl⟩
      · exact .inl (State.handTo_sameLine hk p f s)
    · exact .inl (.rfl' s)

/-- A good frame of another station is taken in a state that shows the line it arrived on. -/
theorem State.goodFrame_line {p : Side} {f : Frame} {s : State} (h : f.origin ≠ s.number) :
    ∃ u : State, s.SameLine u ∧ s.goodFrame p f = u.takeLocally p f.counted := by
  simp only [State.goodFrame, h, if_false]
  refine ⟨_, State.SameLine.trans ?_ (State.relay_sameLine p f.counted _), rfl⟩
  split
  · exact State.SameLine.trans (.of_eq rfl rfl rfl) (State.showVoice_callWork _ _).sameLine
  · exact .of_eq rfl rfl rfl

/-! ### An outcome is recorded (R14, R17) -/

/-- A port with one more outcome in its history, after the state test. -/
def Port.recorded (good : Bool) (x : Port) : Port :=
  { x with history := addOutcome good x.history, state := testedState x.state (addOutcome good x.history) }

theorem State.recordOutcome_line (p : Side) (good : Bool) (s : State) :
    ({ s with
      ports := s.ports.set p ((s.ports.get p).recorded good)
      lineFlag := s.lineFlag || ((s.ports.get p).recorded good).state != (s.ports.get p).state } : State).LineWork
      (s.recordOutcome p good) := by
  unfold State.recordOutcome
  dsimp only
  refine State.LineWork.trans ?_ (State.reviewIfChanged_lineWork _ s)
  simp only [State.setPortState, State.modPort, PerSide.get_set_same, PerSide.set_set]
  by_cases h : (s.ports.get p).state = testedState (s.ports.get p).state (addOutcome good (s.ports.get p).history)
  · have hsame : (((s.ports.get p).recorded good).state != (s.ports.get p).state) = false := by
      simpa [Port.recorded] using h.symm
    rw [if_pos h, hsame, Bool.or_false]
    have hport : (s.ports.get p).recorded good =
        { s.ports.get p with history := addOutcome good (s.ports.get p).history } := by
      simp only [Port.recorded, ← h]
    rw [hport]
    exact .rfl' _
  · have hne : (((s.ports.get p).recorded good).state != (s.ports.get p).state) = true := by
      simpa [Port.recorded] using Ne.symm h
    rw [if_neg h, hne, Bool.or_true]
    exact .rfl' _

theorem addOutcome_eq {good : Bool} {history : List Bool} (h : history.length ≤ 32) :
    addOutcome good history = (history ++ [good]).drop (history.length - 31) := by
  unfold addOutcome
  split
  next hfull => rw [show history.length - 31 = 1 by omega, List.drop_append_of_le_length (by omega)]
  next hfull => rw [show history.length - 31 = 0 by omega]; rfl

theorem failures_eq_count (history : List Bool) : failures history = history.count false := by
  rw [failures, List.count_eq_length_filter]
  congr 1
  exact List.filter_congr fun x _ => by cases x <;> rfl

theorem testedState_isUp {st : PortState} {history : List Bool} (h : st = .up ∨ st = .degraded) :
    testedState st history = .up ∨ testedState st history = .degraded := by
  obtain rfl | rfl := h <;> simp only [testedState] <;> split <;> simp

/-! ### Judging a frame by the port's state (R5, R17) -/

/-- The port's history and state, and the LINE flag, show this record. -/
def State.ShowsRecord (p : Side) (good : Bool) (s t : State) : Prop :=
  (t.ports.get p).history = addOutcome good (s.ports.get p).history ∧
    (t.ports.get p).state = testedState (s.ports.get p).state (addOutcome good (s.ports.get p).history) ∧
    t.lineFlag = (s.lineFlag || (t.ports.get p).state != (s.ports.get p).state)

theorem State.ShowsRecord.sameLine {p : Side} {good : Bool} {s t u : State} (h : s.ShowsRecord p good t) (k : t.SameLine u) :
    s.ShowsRecord p good u := by
  obtain ⟨hhistory, hstate, hflag⟩ := h
  obtain ⟨hports, -, hline⟩ := k
  obtain ⟨kstate, -, -, -, -, khistory, -⟩ := hports p
  exact ⟨khistory.trans hhistory, kstate.trans hstate, by rw [hline, kstate]; exact hflag⟩

theorem State.recordOutcome_shows (p : Side) (good : Bool) (s : State) : s.ShowsRecord p good (s.recordOutcome p good) :=
  State.ShowsRecord.sameLine ⟨by simp [Port.recorded], by simp [Port.recorded], by simp⟩
    (State.recordOutcome_line p good s).sameLine

/-- A probe at a port in use changes neither its history nor its state (R17). -/
theorem State.ShowsRecord.takeProbe {p : Side} {good : Bool} {s t : State} (h : s.ShowsRecord p good t) (origin : Nat)
    (x : ProbeFields) (hup : (t.ports.get p).isUp = true) : s.ShowsRecord p good (t.takeProbe p origin x) := by
  refine State.ShowsRecord.sameLine ?_ (t.takeProbe_lineWork p origin x).sameLine
  obtain ⟨hhistory, hstate, hflag⟩ := h
  simp only [State.ShowsRecord, State.probed, PerSide.get_set_same, Port.heardProbe_inUse hup]
  exact ⟨hhistory, hstate, by simpa using hflag⟩

theorem State.receive_none_of_isUp {p : Side} {s : State} (he : (s.ports.get p).endStrap = false)
    (hup : (s.ports.get p).isUp = true) : s.receive p none = s.recordOutcome p false := by
  simp only [State.receive, he, Bool.false_eq_true, if_false]
  cases hst : (s.ports.get p).state with
  | down | listening => simp [Port.isUp, hst] at hup
  | up | degraded => rfl

theorem State.receive_shows {p : Side} {s : State} (he : (s.ports.get p).endStrap = false)
    (hup : (s.ports.get p).isUp = true) (received : Option Frame) :
    s.ShowsRecord p received.isSome (s.receive p received) := by
  cases received with
  | none =>
    rw [State.receive_none_of_isUp he hup]
    exact s.recordOutcome_shows p false
  | some f =>
    have hshows := s.recordOutcome_shows p true
    rw [s.receive_some_of_isUp p f he hup]
    by_cases ho : f.origin = (s.recordOutcome p true).number
    · rw [State.goodFrame_own p f _ ho]
      exact hshows.sameLine (.of_eq rfl rfl rfl)
    · obtain ⟨u, hline, hgood⟩ := State.goodFrame_line (p := p) ho
      have hu := hshows.sameLine hline
      rw [hgood]
      obtain htaken | ⟨x, htaken⟩ := u.takeLocally_line p f.counted
      · exact hu.sameLine htaken
      · rw [htaken]
        refine hu.takeProbe f.counted.origin x ?_
        have hst : (s.ports.get p).state = .up ∨ (s.ports.get p).state = .degraded := by simpa [Port.isUp] using hup
        obtain ⟨-, hstate, -⟩ := hu
        simpa [Port.isUp, hstate] using testedState_isUp hst

/-- What a frame that goes no further leaves makes no image due. -/
theorem exec_lineFrameArrives_quiet {p : Side} {bytes : List Byte} {s t : State} (h : s.resetHeld = false)
    (hreceive : s.receive p (parseFrame bytes) = t) (himages : ∀ g, t.imageKey g = s.imageKey g) :
    exec (.lineFrameArrives p bytes) s = .next t := by
  rw [exec_lineFrameArrives p bytes s h, State.withImages_of_imageKey_eq fun g => by rw [hreceive, himages], hreceive]

/-- Settles O6. -/
theorem framesAreJudgedByPortState : Obligations.FramesAreJudgedByPortState := by
  refine ⟨fun p bytes s h => ⟨fun he => ?_, fun he => ⟨fun hst hkind => ?_, fun hst hparse => ?_, fun hst f hparse hkind => ?_,
    fun hup hparse => ?_⟩⟩, fun p bytes s h he hup hlen => ?_⟩
  · exact exec_lineFrameArrives_quiet h (by simp [State.receive, he]) fun _ => rfl
  · refine exec_lineFrameArrives_quiet h ?_ fun _ => rfl
    cases hparse : parseFrame bytes with
    | none => simp [State.receive, he, hst]
    | some f => simp [State.receive, he, hst, FrameKind.code, hkind f hparse]
  · exact exec_lineFrameArrives_quiet h (by simp [State.receive, he, hst, hparse, State.modPort]) fun _ => rfl
  · exact exec_lineFrameArrives_quiet h (by simp [State.receive, he, hst, hparse, FrameKind.code, hkind]) fun _ => rfl
  · refine exec_lineFrameArrives_quiet h ?_ fun g => s.recordOutcome_imageKey p false g
    rw [hparse, State.receive_none_of_isUp he hup]
  · have hshows := (State.receive_shows he hup (parseFrame bytes)).sameLine
      (State.withImages_cases (fun s => s.receive p (parseFrame bytes)) s).sameLine
    obtain ⟨hhistory, hstate, hflag⟩ := hshows
    refine ⟨_, exec_lineFrameArrives p bytes s h, ?_, fun hst => ?_, fun hst => ?_, hflag⟩
    · rw [hhistory, addOutcome_eq hlen]
    · rw [hstate, hhistory, hst, testedState, failures_eq_count]
    · rw [hstate, hhistory, hst, testedState, failures_eq_count]

end Sys2Proof.Machine
end

section
/-! Valid probes (R15 to R17, R25, R39, R170). -/
namespace Sys2Proof.Machine
open Sys2Proof

section
variable {p : Side} {bytes : List Byte} {f : Frame} {x : ProbeFields} {s : State}

/-- The state that a good frame is heard in: its outcome is recorded where the port is in use (R17). -/
def State.judged (p : Side) (s : State) : State := if (s.ports.get p).isUp then s.recordOutcome p true else s

theorem State.judged_frame (p : Side) (s : State) :
    (s.judged p).number = s.number ∧ (s.judged p).now = s.now ∧ (s.judged p).reach = s.reach ∧
      ∀ g, (s.judged p).imageKey g = s.imageKey g := by
  unfold State.judged
  split
  · obtain ⟨hnumber, hnow, -, hreach, -⟩ := s.recordOutcome_frame p true
    exact ⟨hnumber, hnow, hreach, fun g => s.recordOutcome_imageKey p true g⟩
  · exact ⟨rfl, rfl, rfl, fun _ => rfl⟩

/-- The state that a valid probe is taken in. -/
def State.atProbe (p : Side) (f : Frame) (s : State) : State := ((s.judged p).learn p f.counted).relay p f.counted

theorem State.atProbe_frame (p : Side) (f : Frame) (s : State) :
    (s.judged p).SameLine (s.atProbe p f) ∧ (s.atProbe p f).number = s.number ∧ (s.atProbe p f).now = s.now ∧
      (s.atProbe p f).reach = s.reach ∧ ∀ g, (s.atProbe p f).imageKey g = s.imageKey g := by
  obtain ⟨hnumber, hnow, hreach, hkey⟩ := s.judged_frame p
  have hline : (s.judged p).SameLine (s.atProbe p f) :=
    State.SameLine.trans (t := (s.judged p).learn p f.counted) (.of_eq rfl rfl rfl) (State.relay_sameLine p f.counted _)
  obtain ⟨ports, deferred, toll, faults, hrelay⟩ := ((s.judged p).learn p f.counted).relay_eq p f.counted
  refine ⟨hline, ?_, ?_, ?_, fun g => ?_⟩ <;> rw [State.atProbe, hrelay]
  · exact hnumber
  · exact hnow
  · exact hreach
  · exact hkey g

theorem State.ValidProbe.receive_eq (h : s.ValidProbe p bytes f x) :
    s.receive p (parseFrame bytes) = (s.atProbe p f).takeProbe p f.origin x := by
  obtain ⟨-, he, hparse, ho, hkind, hhops, htarget, hpayload⟩ := h
  obtain ⟨hnumber, -⟩ := s.judged_frame p
  obtain ⟨-, hnumber', -⟩ := s.atProbe_frame p f
  have hgood : s.receive p (some f) = (s.judged p).goodFrame p f := by
    unfold State.judged
    split
    next hup => exact s.receive_some_of_isUp p f he hup
    next hup => exact s.receive_probe_of_not_isUp p f he (by simpa using hup) hkind
  have htakes : (s.atProbe p f).takesKind .probe f.counted = true := by
    simp only [State.takesKind, hnumber', Frame.counted, hhops]
    simpa using htarget
  rw [hparse, hgood, State.goodFrame_of_not_voice p f _ (by rw [hnumber]; exact ho) (by rw [hkind]; decide)]
  rw [← State.atProbe, State.takeLocally_eq_handTo (k := .probe) (f := f.counted) p hkind htakes]
  simp only [State.handTo, Frame.counted, hpayload, State.taking]

theorem State.takeProbe_imageKey (p : Side) (origin : Nat) (x : ProbeFields) (g : Face) (s : State) :
    (s.takeProbe p origin x).imageKey g = s.imageKey g := (s.takeProbe_lineWork p origin x).imageKey g

theorem State.ValidProbe.exec_eq (h : s.ValidProbe p bytes f x) :
    exec (.lineFrameArrives p bytes) s = .next ((s.atProbe p f).takeProbe p f.origin x) := by
  obtain ⟨-, -, -, -, hkey⟩ := s.atProbe_frame p f
  exact exec_lineFrameArrives_quiet h.1 h.receive_eq fun g => (State.takeProbe_imageKey p _ x g _).trans (hkey g)

/-- The line after a valid probe. -/
theorem State.takeProbe_port (p : Side) (f : Frame) (x : ProbeFields) (s : State) :
    ((s.atProbe p f).takeProbe p f.origin x).reach = s.reach.set p (heardReach f.origin x) ∧
      ∃ y : Port, ((s.judged p).ports.get p).SameLink y ∧
        (y.heardProbe (some (s.now + 300))).SameLink (((s.atProbe p f).takeProbe p f.origin x).ports.get p) ∧
        ((s.atProbe p f).takeProbe p f.origin x).lineFlag =
          ((s.judged p).lineFlag || (y.heardProbe (some (s.now + 300))).state != y.state) := by
  obtain ⟨hline, -, hnow, hreach, -⟩ := s.atProbe_frame p f
  obtain ⟨hports, hreach', hflag⟩ := ((s.atProbe p f).takeProbe_lineWork p f.origin x).sameLine
  have htimer : (s.atProbe p f).startTimer 300 = some (s.now + 300) := by rw [State.startTimer, hnow]
  refine ⟨by rw [hreach', State.probed, hreach], (s.atProbe p f).ports.get p, hline.1 p, ?_, ?_⟩
  · have := hports p
    rwa [State.probed, PerSide.get_set_same, htimer] at this
  · rw [hflag, State.probed, htimer, hline.2.2]

theorem heardRole_eq (origin : Nat) (joined has : Bool) (beyond : Option RoleEntry) :
    heardRole origin (joined && has) beyond =
      if joined = true ∧ has = true then some ⟨origin, 1⟩
      else beyond.bind fun r => if r.hops + 1 ≤ 63 then some ⟨r.station, r.hops + 1⟩ else none := by
  unfold heardRole
  cases beyond <;> simp

theorem State.judged_of_not_up (h : (s.ports.get p).isUp = false) : s.judged p = s := by simp [State.judged, h]

/-- The port's state after a valid probe (R15 to R17). -/
theorem State.ValidProbe.port (p : Side) (f : Frame) (x : ProbeFields) (s : State) :
    let t := (s.atProbe p f).takeProbe p f.origin x
    (t.ports.get p).probeTimer = some (s.now + 300) ∧
      ((s.ports.get p).state = .down →
        (t.ports.get p).state = .listening ∧ (t.ports.get p).probes = 0 ∧ (t.ports.get p).history = [] ∧
          t.lineFlag = true) ∧
      ((s.ports.get p).state = .listening → (s.ports.get p).probes < 2 →
        (t.ports.get p).state = .listening ∧ (t.ports.get p).probes = (s.ports.get p).probes + 1 ∧
          t.lineFlag = s.lineFlag) ∧
      ((s.ports.get p).state = .listening → 2 ≤ (s.ports.get p).probes →
        (t.ports.get p).state = .up ∧ (t.ports.get p).probes = 0 ∧ (t.ports.get p).history = [] ∧
          t.lineFlag = true) ∧
      ((s.ports.get p).isUp = true → (t.ports.get p).isUp = true ∧ (t.ports.get p).probes = (s.ports.get p).probes) := by
  intro t
  obtain ⟨-, y, hy, ht, hflag⟩ := State.takeProbe_port p f x s
  obtain ⟨tstate, -, -, tprobes, ttimer, thistory, -⟩ := ht
  obtain ⟨ystate, -, -, yprobes, -, -, -⟩ := hy
  have hquiet (st : PortState) (hst : (s.ports.get p).state = st) (hne : st ≠ .up ∧ st ≠ .degraded) :
      s.judged p = s := State.judged_of_not_up (by simp [Port.isUp, hst, hne])
  refine ⟨?_, fun hst => ?_, fun hst hp => ?_, fun hst hp => ?_, fun hup => ?_⟩
  · rw [ttimer]
    unfold Port.heardProbe
    split
    · rfl
    · split <;> rfl
    · rfl
  · rw [hquiet .down hst (by simp)] at ystate yprobes hflag
    have hheard := Port.heardProbe_down (timer := some (s.now + 300)) (ystate.trans hst)
    rw [hheard] at tstate tprobes thistory hflag
    exact ⟨tstate, tprobes, thistory, by rw [hflag, ystate, hst]; simp⟩
  · rw [hquiet .listening hst (by simp)] at ystate yprobes hflag
    have hheard := Port.heardProbe_listening (timer := some (s.now + 300)) (ystate.trans hst) (by rw [yprobes]; exact hp)
    rw [hheard] at tstate tprobes hflag
    exact ⟨tstate.trans (ystate.trans hst), by rw [tprobes, yprobes], by rw [hflag]; simp⟩
  · rw [hquiet .listening hst (by simp)] at ystate yprobes hflag
    have hheard := Port.heardProbe_third (timer := some (s.now + 300)) (ystate.trans hst) (by rw [yprobes]; exact hp)
    rw [hheard] at tstate tprobes thistory hflag
    exact ⟨tstate, tprobes, thistory, by rw [hflag, ystate, hst]; simp⟩
  · have hjudged : (s.judged p).ports.get p = (s.recordOutcome p true).ports.get p := by simp [State.judged, hup]
    obtain ⟨hports, -⟩ := (s.recordOutcome_line p true).sameLine
    obtain ⟨rstate, -, -, rprobes, -⟩ := hports p
    simp only [PerSide.get_set_same] at rstate rprobes
    rw [hjudged, rstate] at ystate
    rw [hjudged, rprobes] at yprobes
    have hyup : y.isUp = true := by
      have hst : (s.ports.get p).state = .up ∨ (s.ports.get p).state = .degraded := by simpa [Port.isUp] using hup
      simpa [Port.isUp, ystate, Port.recorded] using testedState_isUp hst
    rw [Port.heardProbe_inUse hyup] at tstate tprobes
    have tstate' : (t.ports.get p).state = y.state := tstate
    exact ⟨by simpa [Port.isUp, tstate'] using hyup, tprobes.trans yprobes⟩

/-- The probe that brings a port to UP re-offers the deferred list, and then the toll unit reviews its sink (R39, R170). -/
theorem State.ValidProbe.raises (h : s.ValidProbe p bytes f x) (hlimit : f.hopLimit = 1)
    (hst : (s.ports.get p).state = .listening) (hp : 2 ≤ (s.ports.get p).probes)
    (hsending : (s.ports.get p).sending.isSome = true) (hbusy : s.Busy) :
    let t := (s.atProbe p f).takeProbe p f.origin x
    ∃ u v : State,
      ({ s with
          map := t.map, reach := t.reach, lineFlag := true
          ports := s.ports.set p
            { s.ports.get p with state := .up, probes := 0, history := [], probeTimer := some (s.now + 300) } } : State).Reoffered
        .control u ∧ u.Reoffered .bulk v ∧ t = v.reviewSink ∧
        v.joined = s.joined ∧ v.config = s.config := by
  intro t
  obtain ⟨-, -, -, -, -, hhops, -, -⟩ := h
  let u := s.learn p f.counted
  have hat : s.atProbe p f = u := by
    rw [State.atProbe, State.judged_of_not_up (by simp [Port.isUp, hst])]
    exact State.relay_none (.inr (.inl (by simp [Frame.counted, hhops, hlimit])))
  have hheard : (u.ports.get p).heardProbe (u.startTimer 300) =
      { s.ports.get p with state := .up, probes := 0, history := [], probeTimer := some (s.now + 300) } :=
    Port.heardProbe_third hst hp
  let raised := u.probed p f.origin x
  have hrbusy : raised.Busy := fun d hup => by
    by_cases hd : d = p
    · subst hd
      simpa [raised, State.probed, hheard] using hsending
    · have hget : raised.ports.get d = s.ports.get d := by
        simp only [raised, State.probed, PerSide.get_set, if_neg hd]
        rfl
      rw [hget] at hup ⊢
      exact hbusy d hup
  obtain ⟨hcontrol, hctakes, -, hcports⟩ := hrbusy.reoffer (cls := .control) (by decide)
  obtain ⟨hbulk, hbtakes, -, hbports⟩ := (hrbusy.reoffer_busy (cls := .control) (by decide)).reoffer (cls := .bulk) (by decide)
  have hboth : raised.reofferBoth = ((raised.reoffer .control).1.reoffer .bulk).1 := by
    simp only [State.reofferBoth, hctakes, hbtakes, List.nil_append, State.settle_nil]
  have ht : t = (((raised.reoffer .control).1.reoffer .bulk).1).reviewSink := by
    have hview : raised.reofferBoth.lineView ≠ u.lineView := by
      obtain ⟨hports, -⟩ := (State.reofferBoth_lineWork raised).sameLine
      have hpst : (raised.reofferBoth.ports.get p).state = .up := by
        rw [(hports p).1]; simp [raised, State.probed, hheard]
      have hust : (u.ports.get p).state = .listening := hst
      intro hview
      simp only [State.lineView, Prod.mk.injEq] at hview
      obtain ⟨heast, hwest, -⟩ := hview
      cases p with
      | east => exact absurd (hpst.symm.trans (heast.trans hust)) (by decide)
      | west => exact absurd (hpst.symm.trans (hwest.trans hust)) (by decide)
    have hup : (u.ports.get p).state = .listening ∧ ((u.ports.get p).heardProbe (u.startTimer 300)).state = .up :=
      ⟨hst, by rw [hheard]⟩
    simp only [t, hat, State.takeProbe_eq, if_pos hup]
    rw [State.reviewIfChanged, if_neg hview, hboth]
  have hwork : raised.LineWork t := by
    simp only [t, hat]
    exact State.takeProbe_lineWork p f.origin x u
  have hkept : ((raised.reoffer .control).1.reoffer .bulk).1.joined = s.joined ∧
      ((raised.reoffer .control).1.reoffer .bulk).1.config = s.config := by
    obtain ⟨_, _, _, e, -⟩ := (raised.reoffer_lineWork .control).trans ((raised.reoffer .control).1.reoffer_lineWork .bulk)
    rw [e]; exact ⟨rfl, rfl⟩
  refine ⟨(raised.reoffer .control).1, _, ?_, hbulk, ht, hkept⟩
  have hmap : t.map = raised.map ∧ t.reach = raised.reach := by
    obtain ⟨_, _, _, e, -⟩ := hwork
    rw [e]; exact ⟨rfl, rfl⟩
  have hraised : raised = { s with
      map := t.map, reach := t.reach, lineFlag := true
      ports := s.ports.set p
        { s.ports.get p with state := .up, probes := 0, history := [], probeTimer := some (s.now + 300) } } := by
    have hust : (u.ports.get p).state = .listening := hst
    have hflag : raised.lineFlag = true := by simp [raised, State.probed, hheard, hust]
    have hports : raised.ports = s.ports.set p
        { s.ports.get p with state := .up, probes := 0, history := [], probeTimer := some (s.now + 300) } := by
      simp only [raised, State.probed, hheard]
      rfl
    have heta : raised =
        { s with map := raised.map, reach := raised.reach, lineFlag := raised.lineFlag, ports := raised.ports } := rfl
    rw [hmap.1, hmap.2, ← hports, ← hflag]
    exact heta
  rw [← hraised]
  exact hcontrol

theorem State.reviewSink_eq_self (h : s.joined = false ∨ s.config.sink = true) : s.reviewSink = s := by
  unfold State.reviewSink
  obtain h | h := h <;> simp [h]

end

/-- Settles O10. -/
theorem probesRaiseThePortAndItsView : Obligations.ProbesRaiseThePortAndItsView := by
  refine ⟨fun p bytes f x s h => ⟨_, h.exec_eq, State.ValidProbe.port p f x s⟩, fun p bytes f x s h => ?_,
    fun p bytes f x s h hlimit hst hp hsending hbusy => ?_⟩
  · obtain ⟨hreach, -⟩ := State.takeProbe_port p f x s
    refine ⟨_, h.exec_eq, ?_, ?_, ?_⟩ <;> rw [hreach]
    · exact PerSide.get_set_other _ _ _
    · rw [PerSide.get_set_same]; exact heardRole_eq ..
    · rw [PerSide.get_set_same]; exact heardRole_eq ..
  · obtain ⟨u, v, hcontrol, hbulk, ht, hjoined, hconfig⟩ := h.raises hlimit hst hp hsending hbusy
    refine ⟨u, v, _, h.exec_eq, hcontrol, hbulk, fun hno => ?_, fun _ _ => ht⟩
    rw [ht, State.reviewSink_eq_self (by rw [hjoined, hconfig]; exact hno)]

end Sys2Proof.Machine
end

section
/-! What every sending keeps: a property that each offer to a port and each change of toll entries keeps (R20, R31, R172). A port
that is not in use takes no part, and the chosen sink stays. -/
namespace Sys2Proof.Machine
open Sys2Proof

/-- The property is kept by an offer to a port, by a change of the deferred list and by one of the toll unit's entries. -/
structure SendKept (P : State → Prop) : Prop where
  offer : ∀ s d f, P s → P (s.offerPort d f).state
  deferred : ∀ (s : State) ds, P s → P { s with deferred := ds }
  toll : ∀ (s : State) d sink store timer, s.toll.sink = .via d sink →
    (store.map fun e : TollEntry => e.sequence) = (s.toll.store.map fun e => e.sequence) → P s →
    P { s with toll := { s.toll with store := store, resendTimer := timer } }

namespace SendKept

variable {P : State → Prop} (K : SendKept P) {s : State}
include K

theorem offerTo (ps : List Side) (f : Frame) (h : P s) : P (s.offerTo ps f).state :=
  List.foldlRecOn (motive := fun r : Sent => P r.state) ps _ h fun r hr d _ => K.offer r.state d f hr

theorem offerRoutes (f : Frame) (h : P s) : P (s.offerRoutes f).state := K.offerTo _ f h

theorem reofferGo (cls : FrameClass) (ds : List Deferred) (h : P s) : P (reofferGo cls ds s).2.1 := by
  induction ds generalizing s with
  | nil => exact h
  | cons d ds ih =>
    unfold Machine.reofferGo
    split
    · dsimp only
      split
      · exact ih (K.offerRoutes d.frame h)
      · exact K.offerRoutes d.frame h
    · exact ih h

theorem reoffer (cls : FrameClass) (h : P s) : P (s.reoffer cls).1 := K.deferred _ _ (K.reofferGo cls _ h)

theorem offerToll {d : Side} {sink : Nat} (hsink : s.toll.sink = .via d sink) (e : TollEntry) (h : P s) :
    P (s.offerToll d sink e).state := by
  have hoffered := K.offer s d (s.tollFrame sink e) h
  unfold State.offerToll
  dsimp only
  split
  · exact K.toll _ d sink _ _ (by rw [State.offerPort_toll]; exact hsink) (Toll.modEntry_sequences _ e.sequence fun _ => rfl) hoffered
  · exact hoffered

theorem tollTryGo (n : Nat) (h : P s) : P (tollTryGo n s).1 := by
  induction n generalizing s with
  | zero => exact h
  | succ n ih =>
    unfold Machine.tollTryGo
    split
    next hsink _ =>
      split
      · dsimp only
        split
        · exact ih (K.offerToll hsink _ h)
        · exact K.offerToll hsink _ h
      · exact h
    · exact h

theorem onTake (t : Take) (h : P s) : P (s.onTake t).1 := by
  unfold State.onTake
  split
  · exact K.reoffer .control h
  · dsimp only
    split
    · exact K.tollTryGo 8 (K.reoffer .bulk h)
    · exact K.reoffer .bulk h
  · exact h

theorem settle (ts : List Take) (h : P s) : P (s.settle ts) := by
  have hgo (n : Nat) : ∀ (ts : List Take) (s : State), P s → P (settleGo n ts s) := by
    induction n with
    | zero => exact fun _ _ h => h
    | succ n ih =>
      intro ts s h
      cases ts with
      | nil => exact h
      | cons t ts => exact ih _ _ (K.onTake t h)
  exact hgo 8 ts s h

theorem send (f : Frame) (h : P s) : P (s.send f) := K.settle _ (K.offerRoutes f h)

theorem sendOneOff (tag : DeferTag) (f : Frame) (h : P s) : P (s.sendOneOff tag f) := by
  unfold State.sendOneOff
  dsimp only
  split
  · exact K.send f h
  · exact K.deferred _ _ (K.send f h)

theorem tollTry (h : P s) : P s.tollTry := K.settle _ (K.tollTryGo 8 h)

end SendKept

/-! ### A port that is not in use -/

/-- The port at this side is this one. -/
def State.HasPort (p : Side) (y : Port) (s : State) : Prop := s.ports.get p = y

theorem sendKept_hasPort (p : Side) {y : Port} (hup : y.isUp = false) : SendKept (State.HasPort p y) where
  offer s d f h := by
    unfold State.offerPort
    split
    next hd =>
      have hne : p ≠ d := fun e => by rw [← e, show s.ports.get p = y from h, hup] at hd; cases hd
      unfold State.HasPort
      simp only [State.offerQueue, State.modPort, PerSide.get_set, if_neg hne]
      exact h
    · exact h
  deferred _ _ h := h
  toll _ _ _ _ _ _ _ h := h

/-! ### The chosen sink -/

/-- The chosen sink is this one. -/
def State.HasSink (x : SinkChoice) (s : State) : Prop := s.toll.sink = x

theorem sendKept_hasSink (x : SinkChoice) : SendKept (State.HasSink x) where
  offer s d f h := by
    unfold State.HasSink
    rw [State.offerPort_toll]
    exact h
  deferred _ _ h := h
  toll _ _ _ _ _ _ _ h := h

/-- The entries carry these sequences, and the fresh flag is this one. -/
def State.HasEntries (qs : List Word) (fresh : Bool) (s : State) : Prop :=
  (s.toll.store.map fun e => e.sequence) = qs ∧ s.toll.fresh = fresh

theorem sendKept_hasEntries (qs : List Word) (fresh : Bool) : SendKept (State.HasEntries qs fresh) where
  offer s d f h := by
    unfold State.HasEntries
    rw [State.offerPort_toll]
    exact h
  deferred _ _ h := h
  toll _ _ _ _ _ _ e h := ⟨e.trans h.1, h.2⟩

/-- The toll unit is this one, without a sink on the line. -/
def State.HasTollAtRest (toll : Toll) (s : State) : Prop := s.toll = toll ∧ ∀ d sink, toll.sink ≠ .via d sink

theorem sendKept_hasTollAtRest (toll : Toll) : SendKept (State.HasTollAtRest toll) where
  offer s d f h := by
    unfold State.HasTollAtRest
    rw [State.offerPort_toll]
    exact h
  deferred _ _ h := h
  toll _ d sink _ _ hsink _ h := absurd (h.1 ▸ hsink) (h.2 d sink)

/-- The delivery queue and the origin table are these. -/
def State.HasTables (delivery : List Delivery) (origins : List OriginEntry) (s : State) : Prop :=
  s.toll.delivery = delivery ∧ s.toll.origins = origins

theorem sendKept_hasTables (delivery : List Delivery) (origins : List OriginEntry) :
    SendKept (State.HasTables delivery origins) where
  offer s d f h := by
    unfold State.HasTables
    rw [State.offerPort_toll]
    exact h
  deferred _ _ h := h
  toll _ _ _ _ _ _ _ h := h

theorem State.changeSink_sink (x : SinkChoice) (s : State) : (s.changeSink x).toll.sink = x :=
  (sendKept_hasSink x).tollTry rfl

theorem State.reviewSink_sink {s : State} (hj : s.joined = true) (hs : s.config.sink = false) :
    s.reviewSink.toll.sink = s.reviewedSink := by
  unfold State.reviewSink
  rw [if_pos (by simp [hj, hs])]
  split
  next h => exact h.symm
  · exact State.changeSink_sink _ s

/-! ### What sending changes -/

/-- Sending: ports' queues, the deferred list and the toll unit, and no port that is not in use. -/
def State.Sends (s t : State) : Prop := s.LineWork t ∧ ∀ p, (s.ports.get p).isUp = false → t.ports.get p = s.ports.get p

theorem State.Sends.rfl' (s : State) : s.Sends s := ⟨.rfl' s, fun _ _ => rfl⟩

theorem State.Sends.trans {s t u : State} (h : s.Sends t) (k : t.Sends u) : s.Sends u := by
  obtain ⟨h, hidle⟩ := h
  obtain ⟨k, kidle⟩ := k
  refine ⟨h.trans k, fun p hup => ?_⟩
  have hp := hidle p hup
  exact (kidle p (by rw [hp]; exact hup)).trans hp

theorem State.sendOneOff_sends (tag : DeferTag) (f : Frame) (s : State) : s.Sends (s.sendOneOff tag f) :=
  ⟨State.sendOneOff_lineWork tag f s, fun p hup => (sendKept_hasPort p hup).sendOneOff tag f rfl⟩

theorem State.send_sends (f : Frame) (s : State) : s.Sends (s.send f) :=
  ⟨State.send_lineWork f s, fun p hup => (sendKept_hasPort p hup).send f rfl⟩

theorem State.tollTry_sends (s : State) : s.Sends s.tollTry :=
  ⟨State.tollTry_lineWork s, fun p hup => (sendKept_hasPort p hup).tollTry rfl⟩

theorem State.reviewSink_sends (s : State) : s.Sends s.reviewSink := by
  refine ⟨State.reviewSink_lineWork s, fun p hup => ?_⟩
  unfold State.reviewSink
  split
  · split
    · rfl
    · exact (sendKept_hasPort p hup).tollTry rfl
  · rfl

theorem State.setDeferred_sends (d : List Deferred) (s : State) : s.Sends { s with deferred := d } :=
  ⟨State.LineWork.setDeferred s d, fun _ _ => rfl⟩

theorem State.Sends.parts {s t : State} (h : s.Sends t) :
    t = { s with ports := t.ports, deferred := t.deferred, toll := t.toll } := by
  obtain ⟨⟨ports, deferred, toll, rfl, -⟩, -⟩ := h
  rfl

end Sys2Proof.Machine
end

section
/-! The call unit's operations, each as an equation: a call or lane record changes (R63, R76, R84), a call begins to offer
(R67, R70), and what the loss of a port or a station does (R21, R22). -/
namespace Sys2Proof.Machine
open Sys2Proof

/-! ### The circuit that a call holds (R45) -/

theorem State.heldCircuit_eq_some_iff {b : Fin 4} {c : Fin 16} {s : State} : s.heldCircuit b = some c ↔ s.Holds b c := by
  unfold State.heldCircuit State.Holds
  cases hc : s.calls[b].circuit with
  | none => simp
  | some d =>
    dsimp only
    split
    next b' refresh holdOff hd =>
      split
      next hb =>
        subst hb
        simp only [Option.some.injEq]
        exact ⟨fun e => by subst e; exact ⟨rfl, refresh, holdOff, hd⟩, fun h => h.1⟩
      next hb =>
        simp only [reduceCtorEq, Option.some.injEq, false_iff, not_and]
        rintro rfl ⟨r, o, h⟩
        rw [hd] at h
        cases h
        exact hb rfl
    next hnot =>
      simp only [reduceCtorEq, Option.some.injEq, false_iff, not_and]
      rintro rfl ⟨r, o, h⟩
      exact hnot b r o h

theorem State.heldCircuit_eq_none_iff {b : Fin 4} {s : State} : s.heldCircuit b = none ↔ ∀ c, ¬s.Holds b c := by
  simp only [← State.heldCircuit_eq_some_iff, Option.eq_none_iff_forall_ne_some, ne_eq]

/-! ### A record changes -/

/-- The playout unit after a change of a call record's state (R94, R100). -/
def State.playoutAfterCall (b : Fin 4) (old new : CallState) (s : State) : Playout :=
  { s.playout with
    boxes := s.playout.boxes.set b
      { s.playout.boxes[b] with
        store := emptyStore
        sendSeq := if new = .seizing then 0 else s.playout.boxes[b].sendSeq
        sendTimer := if new = .connected then some (s.now + 20) else none }
    tones := s.playout.tones.set b (s.toneAfter old new s.playout.tones[b]) }

/-- The playout unit after a change of a lane (R91, R94). -/
def State.playoutAfterLane (l : Fin 2) (old new : LaneState) (s : State) : Playout :=
  { s.playout with
    lanes := s.playout.lanes.set l
      { s.playout.lanes[l] with
        store := emptyStore
        sendSeq := if new = .talking ∧ old ≠ .talking then 0 else s.playout.lanes[l].sendSeq
        sendTimer := if new = .talking then
          (if old = .talking then s.playout.lanes[l].sendTimer else some (s.now + 20)) else none } }

section
variable {b : Fin 4} {l : Fin 2} {s : State}

theorem State.putCall_same {r : CallRecord} (hstate : r.state = s.calls[b].state) (hpartner : r.partner = s.calls[b].partner) :
    s.putCall b r = { s with calls := s.calls.set b r } := by
  simp only [State.putCall, if_pos hstate, if_pos hpartner]
  rfl

theorem State.putCall_changes {r : CallRecord} (hstate : r.state ≠ s.calls[b].state) :
    s.putCall b r =
      { s with
        calls := s.calls.set b { r with changedAt := s.now }
        callUnit := { s.callUnit with callsChanged := true }
        playout := s.playoutAfterCall b s.calls[b].state r.state
        deferred := if r.state = .idle ∨ r.state = .cleared then s.deferred.filter fun d => d.tag != .firstIncident b
          else s.deferred } := by
  simp only [State.putCall, if_neg hstate]
  split <;> rfl

theorem State.putLane_changes {r : OpLane} (hstate : r.state ≠ s.callUnit.lanes[l].state) :
    s.putLane l r =
      { s with
        callUnit := { s.callUnit with
          callsChanged := true, lanes := s.callUnit.lanes.set l { r with changedAt := s.now } }
        playout := s.playoutAfterLane l s.callUnit.lanes[l].state r.state
        deferred := if r.state = .idle ∨ r.state = .lost then s.deferred.filter fun d => d.tag != .take l
          else s.deferred } := by
  simp only [State.putLane, if_neg hstate]
  rw [if_neg fun h => hstate h.1]
  split <;> rfl

theorem State.putLane_same {r : OpLane} (hstate : r.state = s.callUnit.lanes[l].state)
    (houtcome : r.outcome = s.callUnit.lanes[l].outcome) :
    s.putLane l r = { s with callUnit := { s.callUnit with lanes := s.callUnit.lanes.set l r } } := by
  simp only [State.putLane, if_pos hstate]
  rw [if_pos ⟨hstate, houtcome⟩]
  rfl

/-! ### Offering (R67, R70) -/

/-- The next count of a call's OFFERs. -/
def CallRecord.nextCount (r : CallRecord) : Nat := min 255 (r.offerCount.getD 0 + 1)

/-- The OFFER frame of a call (R67). -/
def State.offerFrame (b : Fin 4) (c : Fin 16) (s : State) : Frame :=
  s.broadcast63 .offer [s.calls[b].callId.getD 0, byteOf b.val, circuitByte c, byteOf s.calls[b].nextCount]

theorem State.sendOffer_eq (c : Fin 16) :
    s.sendOffer b c =
      ({ s with calls := s.calls.set b { s.calls[b] with
          offerCount := some s.calls[b].nextCount, offerTimer := some (s.now + 5000) } } : State).send
        (s.offerFrame b c) := rfl

theorem State.offerIfHeld_of_holds {c : Fin 16} (h : s.Holds b c) : s.offerIfHeld b = s.sendOffer b c := by
  simp only [State.offerIfHeld, State.heldCircuit_eq_some_iff.2 h]

theorem State.offerIfHeld_of_not_holds (h : ∀ c, ¬s.Holds b c) :
    s.offerIfHeld b = { s with calls := s.calls.set b { s.calls[b] with offerTimer := none } } := by
  simp only [State.offerIfHeld, State.heldCircuit_eq_none_iff.2 h]
  rfl

/-- The state in which a call has entered OFFERING, before its OFFER. -/
def State.nowOffering (b : Fin 4) (s : State) : State :=
  { s with
    calls := s.calls.set b
      { s.calls[b] with
        state := .offering, partner := none, silenceTimer := none, offeringSince := some s.now, offerTimer := none,
        changedAt := s.now }
    callUnit := { s.callUnit with callsChanged := true }
    playout := s.playoutAfterCall b s.calls[b].state .offering }

theorem State.enterOffering_eq (h : s.calls[b].state ≠ .offering) : s.enterOffering b = (s.nowOffering b).offerIfHeld b := by
  rw [State.enterOffering, State.putCall_changes (Ne.symm h)]
  rfl

theorem State.nowOffering_holds (c : Fin 16) : (s.nowOffering b).Holds b c ↔ s.Holds b c := by
  simp [State.Holds, State.nowOffering]

theorem State.losePartner_eq (h : s.calls[b].state = .connected) : s.losePartner b = (s.nowOffering b).offerIfHeld b := by
  rw [State.losePartner, if_pos h, State.enterOffering_eq (by rw [h]; decide)]

theorem State.losePartner_of_ne (h : s.calls[b].state ≠ .connected) : s.losePartner b = s := by
  rw [State.losePartner, if_neg h]

theorem State.laneToLost_eq {outcome : LaneOutcome} (h : s.callUnit.lanes[l].state ≠ .lost) :
    s.laneToLost l outcome =
      { s with
        callUnit := { s.callUnit with
          callsChanged := true
          lanes := s.callUnit.lanes.set l
            { s.callUnit.lanes[l] with
              state := .lost, takeSends := none, takeTimer := none, silenceTimer := none, outcome := outcome,
              changedAt := s.now } }
        playout := { s.playout with
          lanes := s.playout.lanes.set l { s.playout.lanes[l] with store := emptyStore, sendTimer := none } }
        deferred := s.deferred.filter fun d => d.tag != .take l } := by
  rw [State.laneToLost, State.putLane_changes (Ne.symm h)]
  simp [State.playoutAfterLane]

theorem State.laneToIdle_eq {outcome : LaneOutcome} (h : s.callUnit.lanes[l].state ≠ .idle) :
    s.laneToIdle l outcome =
      { s with
        callUnit := { s.callUnit with
          callsChanged := true
          lanes := s.callUnit.lanes.set l { resetLane with outcome := outcome, changedAt := s.now } }
        playout := { s.playout with
          lanes := s.playout.lanes.set l { s.playout.lanes[l] with store := emptyStore, sendTimer := none } }
        deferred := s.deferred.filter fun d => d.tag != .take l } := by
  have hidle : (LaneState.idle) ≠ s.callUnit.lanes[l].state := Ne.symm h
  rw [State.laneToIdle, State.putLane_changes hidle]
  simp [State.playoutAfterLane, resetLane]

end

/-! ### What the losses of calls and lanes can change -/

/-- Losing partners and lanes: sending, call and lane records, the calls-changed mark and the playout unit. -/
def State.Loses (s t : State) : Prop :=
  ∃ ports deferred toll calls lanes changed playout,
    t = { s with
      ports := ports, deferred := deferred, toll := toll, calls := calls, playout := playout
      callUnit := { s.callUnit with lanes := lanes, callsChanged := changed } } ∧
    (∀ p, (s.ports.get p).SameLink (ports.get p)) ∧
    (∀ p, (s.ports.get p).isUp = false → ports.get p = s.ports.get p) ∧
    (s.callUnit.callsChanged = true → changed = true)

theorem State.Sends.loses {s t : State} (h : s.Sends t) : s.Loses t := by
  obtain ⟨⟨ports, deferred, toll, rfl, hlink⟩, hidle⟩ := h
  exact ⟨ports, deferred, toll, s.calls, s.callUnit.lanes, s.callUnit.callsChanged, s.playout, rfl, hlink, hidle, id⟩

theorem State.Loses.rfl' (s : State) : s.Loses s := (State.Sends.rfl' s).loses

theorem State.Loses.trans {s t u : State} (h : s.Loses t) (k : t.Loses u) : s.Loses u := by
  obtain ⟨ports, deferred, toll, calls, lanes, changed, playout, rfl, hlink, hidle, hchanged⟩ := h
  obtain ⟨ports', deferred', toll', calls', lanes', changed', playout', rfl, klink, kidle, kchanged⟩ := k
  refine ⟨ports', deferred', toll', calls', lanes', changed', playout', rfl, fun p => (hlink p).trans (klink p),
    fun p hup => ?_, fun h => kchanged (hchanged h)⟩
  have hp := hidle p hup
  exact (kidle p (by rw [hp]; exact hup)).trans hp

theorem State.Loses.parts (s : State) (calls : Vector CallRecord 4) (lanes : Vector OpLane 2) (changed : Bool)
    (playout : Playout) (deferred : List Deferred) (hchanged : s.callUnit.callsChanged = true → changed = true) :
    s.Loses { s with
      calls := calls, playout := playout, deferred := deferred
      callUnit := { s.callUnit with lanes := lanes, callsChanged := changed } } :=
  ⟨s.ports, deferred, s.toll, calls, lanes, changed, playout, rfl, fun _ => .rfl' _, fun _ _ => rfl, hchanged⟩

theorem State.Loses.foldl {α : Type} {act : State → α → State} (h : ∀ (s : State) x, s.Loses (act s x))
    (xs : List α) (s : State) : s.Loses (xs.foldl act s) := by
  induction xs generalizing s with
  | nil => exact .rfl' s
  | cons x xs ih => exact (h s x).trans (ih _)

theorem State.offerIfHeld_loses (b : Fin 4) (s : State) : s.Loses (s.offerIfHeld b) := by
  have hcalls (calls : Vector CallRecord 4) : s.Loses { s with calls := calls } :=
    State.Loses.parts s calls s.callUnit.lanes s.callUnit.callsChanged s.playout s.deferred id
  by_cases h : ∃ c, s.Holds b c
  · obtain ⟨c, h⟩ := h
    rw [State.offerIfHeld_of_holds h, State.sendOffer_eq]
    exact (hcalls _).trans (State.send_sends _ _).loses
  · rw [State.offerIfHeld_of_not_holds (not_exists.1 h)]
    exact hcalls _

theorem State.losePartner_loses (b : Fin 4) (s : State) : s.Loses (s.losePartner b) := by
  by_cases h : s.calls[b].state = .connected
  · rw [State.losePartner_eq h]
    exact (State.Loses.parts s _ s.callUnit.lanes true _ s.deferred fun _ => rfl).trans (State.offerIfHeld_loses b _)
  · rw [State.losePartner_of_ne h]
    exact .rfl' s

theorem State.laneToLost_loses {l : Fin 2} {s : State} (outcome : LaneOutcome) (h : s.callUnit.lanes[l].state ≠ .lost) :
    s.Loses (s.laneToLost l outcome) := by
  rw [State.laneToLost_eq h]
  exact State.Loses.parts s s.calls _ true _ _ fun _ => rfl

/-! ### Folding over ports or lanes -/

/-- What a fold leaves at an index that only the index's own step touches. -/
theorem foldl_visit {α : Type} {ι : Type} [DecidableEq ι] {R : State → State → Prop} {act : State → ι → State}
    {view : State → ι → α} (hrefl : ∀ s, R s s) (htrans : ∀ {s t u}, R s t → R t u → R s u)
    (hact : ∀ s i, R s (act s i)) (hother : ∀ s i j, i ≠ j → view (act s i) j = view s j) {j : ι}
    (xs : List ι) (s : State) (hnodup : xs.Nodup) (hj : j ∈ xs) :
    ∃ u, R s u ∧ view u j = view s j ∧ view (xs.foldl act s) j = view (act u j) j ∧ R (act u j) (xs.foldl act s) := by
  have hrest (ys : List ι) (hys : j ∉ ys) (t : State) : view (ys.foldl act t) j = view t j ∧ R t (ys.foldl act t) := by
    induction ys generalizing t with
    | nil => exact ⟨rfl, hrefl t⟩
    | cons y ys ih =>
      obtain ⟨hview, hR⟩ := ih (fun h => hys (List.mem_cons_of_mem _ h)) (act t y)
      have hy : y ≠ j := fun e => hys (e ▸ List.mem_cons_self)
      exact ⟨hview.trans (hother t y j hy), htrans (hact t y) hR⟩
  induction xs generalizing s with
  | nil => cases hj
  | cons i xs ih =>
    obtain ⟨hi, hnodup⟩ := List.nodup_cons.1 hnodup
    by_cases hij : i = j
    · subst hij
      obtain ⟨hview, hR⟩ := hrest xs hi (act s i)
      exact ⟨s, hrefl s, rfl, hview, hR⟩
    · obtain ⟨u, hu, hsame, hview, hR⟩ := ih (act s i) hnodup ((List.mem_cons.1 hj).resolve_left (Ne.symm hij))
      exact ⟨u, htrans (hact s i) hu, hsame.trans (hother s i j hij), hview, hR⟩

end Sys2Proof.Machine
end

section
/-! What is lost with a port and with a station (R15, R18, R21, R22, R70, R75, R79). -/
namespace Sys2Proof.Machine
open Sys2Proof

/-! ### A call loses its partner -/

theorem Vector.getElem_set_fin_self {α : Type} {n : Nat} (xs : Vector α n) (i : Fin n) (x : α) :
    (xs.set i x)[i] = x := by simp

theorem Vector.getElem_set_fin_ne {α : Type} {n : Nat} (xs : Vector α n) {i j : Fin n} (x : α) (h : i ≠ j) :
    (xs.set i x)[j] = xs[j] := by
  simp [Fin.val_ne_of_ne h]

theorem State.Sends.calls {s t : State} (h : s.Sends t) : t.calls = s.calls := by rw [h.parts]
theorem State.Sends.callUnit {s t : State} (h : s.Sends t) : t.callUnit = s.callUnit := by rw [h.parts]

/-- What offering leaves of a record, and of all else. -/
theorem State.offerIfHeld_calls (b : Fin 4) (s : State) :
    ∃ count timer, (s.offerIfHeld b).calls =
      s.calls.set b { s.calls[b] with offerCount := count, offerTimer := timer } := by
  by_cases h : ∃ c, s.Holds b c
  · obtain ⟨c, h⟩ := h
    rw [State.offerIfHeld_of_holds h, State.sendOffer_eq, (State.send_sends _ _).calls]
    exact ⟨_, _, rfl⟩
  · rw [State.offerIfHeld_of_not_holds (not_exists.1 h)]
    exact ⟨_, _, rfl⟩

theorem State.offerIfHeld_callUnit (b : Fin 4) (s : State) : (s.offerIfHeld b).callUnit = s.callUnit := by
  by_cases h : ∃ c, s.Holds b c
  · obtain ⟨c, h⟩ := h
    rw [State.offerIfHeld_of_holds h, State.sendOffer_eq, (State.send_sends _ _).callUnit]
  · rw [State.offerIfHeld_of_not_holds (not_exists.1 h)]

/-- A CONNECTED call returns to OFFERING without its partner, keeping its circuit (R70). -/
theorem State.losePartner_connected {b : Fin 4} {s : State} (h : s.calls[b].state = .connected) :
    let t := s.losePartner b
    t.calls[b].state = .offering ∧ t.calls[b].partner = none ∧ t.calls[b].offeringSince = some s.now ∧
      t.calls[b].circuit = s.calls[b].circuit ∧ t.calls[b].callId = s.calls[b].callId ∧ t.callUnit.callsChanged = true := by
  intro t
  obtain ⟨count, timer, hcalls⟩ := (s.nowOffering b).offerIfHeld_calls b
  have hunit := State.offerIfHeld_callUnit b (s.nowOffering b)
  rw [← State.losePartner_eq h] at hcalls hunit
  simp [t, hcalls, hunit, State.nowOffering]

theorem State.losePartner_calls_other {b b' : Fin 4} (h : b ≠ b') (s : State) :
    (s.losePartner b).calls[b'] = s.calls[b'] := by
  by_cases hst : s.calls[b].state = .connected
  · rw [State.losePartner_eq hst]
    obtain ⟨count, timer, hcalls⟩ := (s.nowOffering b).offerIfHeld_calls b
    rw [hcalls, Vector.getElem_set_fin_ne _ _ h, State.nowOffering, Vector.getElem_set_fin_ne _ _ h]
  · rw [State.losePartner_of_ne hst]

theorem State.losePartner_lanes (b : Fin 4) (s : State) : (s.losePartner b).callUnit.lanes = s.callUnit.lanes := by
  by_cases hst : s.calls[b].state = .connected
  · rw [State.losePartner_eq hst, State.offerIfHeld_callUnit, State.nowOffering]
  · rw [State.losePartner_of_ne hst]

/-! ### The calls and lanes that a loss concerns -/

/-- The calls whose partner is concerned lose it. -/
@[irreducible] def State.dropPartners (gone : Partner → Bool) (s : State) : State :=
  boxIndices.foldl (fun (s : State) (b : Fin 4) => if s.calls[b].partner.elim false gone then s.losePartner b else s) s

/-- The lanes that are concerned are LOST. -/
@[irreducible] def State.dropLanes (gone : OpLane → Bool) (s : State) : State :=
  laneIndices.foldl
    (fun (s : State) (l : Fin 2) => if gone s.callUnit.lanes[l] then s.laneToLost l .routeLost else s) s

section
variable (gone : Partner → Bool) (s : State)

theorem State.dropPartners_loses : s.Loses (s.dropPartners gone) := by
  rw [State.dropPartners]
  refine State.Loses.foldl (fun s b => ?_) _ s
  split
  · exact State.losePartner_loses b s
  · exact .rfl' s

theorem State.dropPartners_lanes : (s.dropPartners gone).callUnit.lanes = s.callUnit.lanes := by
  rw [State.dropPartners]
  refine List.foldlRecOn (motive := fun t : State => t.callUnit.lanes = s.callUnit.lanes) _ _ rfl fun t ht b _ => ?_
  split
  · rw [State.losePartner_lanes, ht]
  · exact ht

theorem State.Loses.now_eq {s t : State} (h : s.Loses t) : t.now = s.now := by
  obtain ⟨_, _, _, _, _, _, _, rfl, -⟩ := h
  rfl

theorem State.Loses.changed {s t : State} (h : s.Loses t) (hs : s.callUnit.callsChanged = true) :
    t.callUnit.callsChanged = true := by
  obtain ⟨_, _, _, _, _, _, _, rfl, -, -, hchanged⟩ := h
  exact hchanged hs

theorem boxIndices_all (b : Fin 4) : b ∈ boxIndices := by fin_cases b <;> simp [boxIndices]

theorem laneIndices_all (l : Fin 2) : l ∈ laneIndices := by fin_cases l <;> simp [laneIndices]

/-- What dropping partners leaves of each call. -/
theorem State.dropPartners_call (b : Fin 4) :
    ((∀ x, s.calls[b].partner = some x → gone x = false) → (s.dropPartners gone).calls[b] = s.calls[b]) ∧
      ∀ x, s.calls[b].state = .connected → s.calls[b].partner = some x → gone x = true →
        let t := s.dropPartners gone
        t.calls[b].state = .offering ∧ t.calls[b].partner = none ∧ t.calls[b].offeringSince = some s.now ∧
          t.calls[b].circuit = s.calls[b].circuit ∧ t.calls[b].callId = s.calls[b].callId ∧
          t.callUnit.callsChanged = true := by
  obtain ⟨u, hu, hsame, hview, hR⟩ := foldl_visit (R := State.Loses) (view := fun s (b : Fin 4) => s.calls[b]) (j := b)
    (act := fun (s : State) (b : Fin 4) => if s.calls[b].partner.elim false gone then s.losePartner b else s)
    State.Loses.rfl' State.Loses.trans (fun s b => by
      split
      · exact State.losePartner_loses b s
      · exact .rfl' s) (fun s i j hij => by
      split
      · exact State.losePartner_calls_other hij s
      · rfl) boxIndices s (by decide) (boxIndices_all b)
  rw [← State.dropPartners] at hview hR
  have hcall : (s.dropPartners gone).calls[b] = (if u.calls[b].partner.elim false gone then u.losePartner b else u).calls[b] :=
    hview
  refine ⟨fun hno => ?_, fun x hst hx hgone => ?_⟩
  · rw [hcall, if_neg, hsame]
    rw [hsame]
    cases hx : s.calls[b].partner with
    | none => simp
    | some x => simp [hno x hx]
  · have hif : u.calls[b].partner.elim false gone = true := by rw [hsame, hx]; exact hgone
    rw [if_pos hif] at hcall
    simp only [if_pos hif] at hR
    obtain ⟨hstate, hpartner, hsince, hcircuit, hid, hchanged⟩ := State.losePartner_connected (hsame ▸ hst)
    refine ⟨?_, ?_, ?_, ?_, ?_, hR.changed hchanged⟩ <;> rw [hcall]
    · exact hstate
    · exact hpartner
    · rw [hsince, hu.now_eq]
    · rw [hcircuit, hsame]
    · rw [hid, hsame]

end

section
variable {gone : OpLane → Bool} (hgone : ∀ r, gone r = true → r.state ≠ .lost) (s : State)
include hgone

theorem State.dropLanes_loses : s.Loses (s.dropLanes gone) := by
  rw [State.dropLanes]
  refine State.Loses.foldl (fun s l => ?_) _ s
  split
  next h => exact State.laneToLost_loses _ (hgone _ h)
  · exact .rfl' s

theorem State.dropLanes_calls : (s.dropLanes gone).calls = s.calls := by
  rw [State.dropLanes]
  refine List.foldlRecOn (motive := fun t : State => t.calls = s.calls) _ _ rfl fun t ht l _ => ?_
  split
  next h => rw [State.laneToLost_eq (hgone _ h)]; exact ht
  · exact ht

/-- What dropping lanes leaves of each lane. -/
theorem State.dropLanes_lane (l : Fin 2) :
    (gone s.callUnit.lanes[l] = false → (s.dropLanes gone).callUnit.lanes[l] = s.callUnit.lanes[l]) ∧
      (gone s.callUnit.lanes[l] = true →
        let t := s.dropLanes gone
        t.callUnit.lanes[l].state = .lost ∧ t.callUnit.lanes[l].outcome = .routeLost ∧
          t.callUnit.lanes[l].call = s.callUnit.lanes[l].call ∧ t.callUnit.callsChanged = true) := by
  obtain ⟨u, hu, hsame, hview, hR⟩ := foldl_visit (R := State.Loses) (view := fun s (l : Fin 2) => s.callUnit.lanes[l]) (j := l)
    (act := fun (s : State) (l : Fin 2) => if gone s.callUnit.lanes[l] then s.laneToLost l .routeLost else s)
    State.Loses.rfl' State.Loses.trans (fun s l => by
      split
      next h => exact State.laneToLost_loses _ (hgone _ h)
      · exact .rfl' s) (fun s i j hij => by
      split
      next h => rw [State.laneToLost_eq (hgone _ h)]; exact Vector.getElem_set_fin_ne _ _ hij
      · rfl) laneIndices s (by decide) (laneIndices_all l)
  rw [← State.dropLanes] at hview hR
  have hlane : (s.dropLanes gone).callUnit.lanes[l] =
      (if gone u.callUnit.lanes[l] then u.laneToLost l .routeLost else u).callUnit.lanes[l] := hview
  refine ⟨fun hno => ?_, fun hyes => ?_⟩
  · rw [hlane, if_neg (by rw [hsame, hno]; decide), hsame]
  · have hif : gone u.callUnit.lanes[l] = true := by rw [hsame]; exact hyes
    rw [if_pos hif] at hlane
    simp only [if_pos hif] at hR
    have hlost := State.laneToLost_eq (s := u) (l := l) (outcome := .routeLost) (hgone _ hif)
    refine ⟨?_, ?_, ?_, hR.changed (by rw [hlost])⟩ <;> rw [hlane, hlost]
    · simp
    · simp
    · simp [← hsame]

end

/-! ### A station goes (R22) -/

/-- The lane talks with a call of this station. -/
def OpLane.talksTo (station : Nat) (r : OpLane) : Bool :=
  r.state == .talking && r.call.elim false fun c => c.origin == station

/-- The lane's call came through this port. -/
def OpLane.reachedBy (p : Side) (r : OpLane) : Bool :=
  (r.state == .taking || r.state == .talking) && r.call.elim false fun c => c.port == p

theorem OpLane.talksTo_not_lost (station : Nat) (r : OpLane) (h : r.talksTo station = true) : r.state ≠ .lost := by
  intro e; simp [OpLane.talksTo, e] at h

theorem OpLane.reachedBy_not_lost (p : Side) (r : OpLane) (h : r.reachedBy p = true) : r.state ≠ .lost := by
  intro e; simp [OpLane.reachedBy, e] at h

theorem State.stationGone_eq (station : Nat) (s : State) :
    s.stationGone station = (s.dropPartners fun q => q.station == station).dropLanes (OpLane.talksTo station) := by
  unfold State.stationGone State.dropLanes State.dropPartners
  simp [OpLane.talksTo]

theorem State.portGone_eq (p : Side) (s : State) :
    s.portGone p =
      let t := (s.dropPartners fun q => q.port == p).dropLanes (OpLane.reachedBy p)
      if t.callUnit.offers.any fun o => o.port == p then t.setOffers (t.callUnit.offers.filter fun o => o.port != p)
      else t := by
  unfold State.portGone State.dropLanes State.dropPartners
  simp [OpLane.reachedBy]

end Sys2Proof.Machine
end

section
/-! What is lost with a port and with a station: the statement (R15, R18, R21, R22, R70, R79). -/
namespace Sys2Proof.Machine
open Sys2Proof

section
variable (station : Nat) (s : State)

theorem State.stationGone_loses : s.Loses (s.stationGone station) := by
  rw [State.stationGone_eq]
  exact (State.dropPartners_loses _ s).trans (State.dropLanes_loses (OpLane.talksTo_not_lost station) _)

/-- What a station's going leaves of each call. -/
theorem State.stationGone_call (b : Fin 4) :
    ((∀ x, s.calls[b].partner = some x → x.station ≠ station) → (s.stationGone station).calls[b] = s.calls[b]) ∧
      ∀ x, s.calls[b].state = .connected → s.calls[b].partner = some x → x.station = station →
        let t := s.stationGone station
        t.calls[b].state = .offering ∧ t.calls[b].partner = none ∧ t.calls[b].offeringSince = some s.now ∧
          t.calls[b].circuit = s.calls[b].circuit ∧ t.calls[b].callId = s.calls[b].callId ∧
          t.callUnit.callsChanged = true := by
  obtain ⟨hkept, hlost⟩ := State.dropPartners_call (fun q => q.station == station) s b
  have hlanes := State.dropLanes_loses (OpLane.talksTo_not_lost station) (s.dropPartners fun q => q.station == station)
  have hcalls := State.dropLanes_calls (OpLane.talksTo_not_lost station) (s.dropPartners fun q => q.station == station)
  rw [← State.stationGone_eq] at hlanes hcalls
  generalize s.stationGone station = t at hlanes hcalls ⊢
  dsimp only
  rw [hcalls]
  refine ⟨fun h => hkept fun x hx => by simpa using h x hx, fun x hst hx hstation => ?_⟩
  obtain ⟨hstate, hpartner, hsince, hcircuit, hid, hchanged⟩ := hlost x hst hx (by simpa using hstation)
  exact ⟨hstate, hpartner, hsince, hcircuit, hid, hlanes.changed hchanged⟩

/-- What a station's going leaves of each lane. -/
theorem State.stationGone_lane (l : Fin 2) :
    (s.callUnit.lanes[l].talksTo station = false → (s.stationGone station).callUnit.lanes[l] = s.callUnit.lanes[l]) ∧
      (s.callUnit.lanes[l].talksTo station = true →
        let t := s.stationGone station
        t.callUnit.lanes[l].state = .lost ∧ t.callUnit.lanes[l].outcome = .routeLost ∧
          t.callUnit.lanes[l].call = s.callUnit.lanes[l].call ∧ t.callUnit.callsChanged = true) := by
  have h := State.dropLanes_lane (OpLane.talksTo_not_lost station) (s.dropPartners fun q => q.station == station) l
  rw [State.dropPartners_lanes, ← State.stationGone_eq] at h
  exact h

end

theorem OpLane.talksTo_eq_false {station : Nat} {r : OpLane}
    (h : r.state ≠ .talking ∨ ∀ c, r.call = some c → c.origin ≠ station) : r.talksTo station = false := by
  cases hr : r.call with
  | none => simp [OpLane.talksTo, hr]
  | some c =>
    simp only [OpLane.talksTo, hr, Option.elim_some, Bool.and_eq_false_iff, beq_eq_false_iff_ne]
    exact h.imp_right fun h => h c hr

theorem OpLane.reachedBy_eq_true {p : Side} {r : OpLane} {c : LaneCall} (h : r.state = .taking ∨ r.state = .talking)
    (hc : r.call = some c) (hp : c.port = p) : r.reachedBy p = true := by
  obtain h | h := h <;> simp [OpLane.reachedBy, h, hc, hp]

theorem OpLane.talksTo_eq_true {station : Nat} {r : OpLane} {c : LaneCall} (h : r.state = .talking)
    (hc : r.call = some c) (ho : c.origin = station) : r.talksTo station = true := by
  simp [OpLane.talksTo, h, hc, ho]

theorem State.Loses.parts_eq {s t : State} (h : s.Loses t) :
    t = { s with
      ports := t.ports, deferred := t.deferred, toll := t.toll, calls := t.calls, callUnit := t.callUnit,
      playout := t.playout } ∧ t.callUnit.offers = s.callUnit.offers ∧ t.callUnit.nextCallId = s.callUnit.nextCallId := by
  obtain ⟨_, _, _, _, _, _, _, rfl, -⟩ := h
  exact ⟨rfl, rfl, rfl⟩

/-! ### A port enters DOWN (R21) -/

/-- The station as a port has entered DOWN, before the call unit hears of it. -/
def State.atDown (p : Side) (s : State) : State :=
  { s with
    ports := s.ports.set p (s.ports.get p).toDown
    map := s.map.filter fun e => e.port != p
    reach := s.reach.set p noReach
    lineFlag := true
    speed := { s.speed with faces := s.speed.faces.set p { s.speed.faces.get p with advert := none } } }

/-- What went through the port is given up: its partners, lanes and offers, and the stations learned there. -/
@[irreducible] def State.giveUpPort (p : Side) (stations : List Nat) (s : State) : State :=
  stations.foldl (fun (s : State) (station : Nat) => s.stationGone station) (s.portGone p)

theorem State.goDown_eq (p : Side) (s : State) :
    s.goDown p = ((s.atDown p).giveUpPort p (s.mapStationsOn p)).reviewIfChanged s := by
  rw [State.giveUpPort]
  rfl

section
variable (p : Side) (s : State)

/-- The partners and lanes that went through the port are dropped. -/
@[irreducible] def State.portDropped : State := (s.dropPartners fun q => q.port == p).dropLanes (OpLane.reachedBy p)

theorem State.portDropped_loses : s.Loses (s.portDropped p) :=
  State.portDropped.eq_1 p s ▸ (State.dropPartners_loses _ s).trans (State.dropLanes_loses (OpLane.reachedBy_not_lost p) _)

theorem State.portGone_cases :
    (s.portGone p = s.portDropped p ∧ ∀ o ∈ s.callUnit.offers, o.port ≠ p) ∨
      s.portGone p = (s.portDropped p).setOffers ((s.portDropped p).callUnit.offers.filter fun o => o.port != p) := by
  obtain ⟨-, hoffers, -⟩ := (State.portDropped_loses p s).parts_eq
  rw [State.portGone_eq]
  rw [← State.portDropped]
  dsimp only
  by_cases h : ((s.portDropped p).callUnit.offers.any fun o => o.port == p) = true
  · exact .inr (if_pos h)
  · refine .inl ⟨if_neg h, fun o ho e => h ?_⟩
    rw [hoffers]
    exact List.any_eq_true.2 ⟨o, ho, by simpa using e⟩

/-- What the loss of a port leaves of calls and lanes. -/
theorem State.portGone_drops :
    (∀ (b : Fin 4) (x : Partner), s.calls[b].state = .connected → s.calls[b].partner = some x → x.port = p →
        (s.portGone p).calls[b].state = .offering ∧ (s.portGone p).calls[b].partner = none) ∧
      ∀ l : Fin 2, s.callUnit.lanes[l].reachedBy p = true →
        (s.portGone p).callUnit.lanes[l].state = .lost ∧ (s.portGone p).callUnit.lanes[l].outcome = .routeLost := by
  have hsame : (s.portGone p).calls = (s.portDropped p).calls ∧
      (s.portGone p).callUnit.lanes = (s.portDropped p).callUnit.lanes := by
    obtain ⟨h, -⟩ | h := State.portGone_cases p s <;> rw [h]
    · exact ⟨rfl, rfl⟩
    · exact ⟨rfl, rfl⟩
  obtain ⟨hcalls, hlanes⟩ := hsame
  rw [hcalls, hlanes]
  refine ⟨fun b x hst hx hport => ?_, fun l hl => ?_⟩
  · rw [State.portDropped, State.dropLanes_calls (OpLane.reachedBy_not_lost p)]
    obtain ⟨hstate, hpartner, -⟩ := (State.dropPartners_call (fun q => q.port == p) s b).2 x hst hx (by simpa using hport)
    exact ⟨hstate, hpartner⟩
  · have h := (State.dropLanes_lane (OpLane.reachedBy_not_lost p) (s.dropPartners fun q => q.port == p) l).2
    rw [State.dropPartners_lanes, ← State.portDropped] at h
    obtain ⟨hstate, houtcome, -⟩ := h hl
    exact ⟨hstate, houtcome⟩

/-- Giving up a port: what it can change. -/
theorem State.giveUpPort_loses (stations : List Nat) :
    ∃ u, s.Loses u ∧ ∃ offers changed,
      s.giveUpPort p stations =
        { u with callUnit := { u.callUnit with offers := offers, offersChanged := changed } } ∧
      ∀ o ∈ offers, o.port ≠ p := by
  have hloses := State.Loses.foldl (fun s station => State.stationGone_loses station s) stations (s.portGone p)
  rw [← State.giveUpPort] at hloses
  have hdrop := State.portDropped_loses p s
  obtain ⟨-, hoffers, -⟩ := hdrop.parts_eq
  obtain ⟨h, hnone⟩ | h := State.portGone_cases p s
  · rw [h] at hloses
    obtain ⟨-, ho, -⟩ := (hdrop.trans hloses).parts_eq
    exact ⟨_, hdrop.trans hloses, _, _, rfl, by rw [ho]; exact hnone⟩
  · rw [h] at hloses
    obtain ⟨ports, deferred, toll, calls, lanes, changed, playout, heq, hrest⟩ := hloses
    have hloses' : (s.portDropped p).Loses
        { s.portDropped p with
          ports := ports, deferred := deferred, toll := toll, calls := calls, playout := playout
          callUnit := { (s.portDropped p).callUnit with lanes := lanes, callsChanged := changed } } :=
      ⟨ports, deferred, toll, calls, lanes, changed, playout, rfl, hrest⟩
    refine ⟨_, hdrop.trans hloses', (s.portDropped p).callUnit.offers.filter fun o => o.port != p, true, heq, fun o ho => ?_⟩
    simpa using (List.mem_filter.1 ho).2

/-- What giving up a port leaves of its calls and lanes. -/
theorem State.giveUpPort_drops (stations : List Nat) :
    (∀ (b : Fin 4) (x : Partner), s.calls[b].state = .connected → s.calls[b].partner = some x → x.port = p →
        (s.giveUpPort p stations).calls[b].state = .offering ∧ (s.giveUpPort p stations).calls[b].partner = none) ∧
      ∀ l : Fin 2, s.callUnit.lanes[l].reachedBy p = true →
        (s.giveUpPort p stations).callUnit.lanes[l].state = .lost ∧
          (s.giveUpPort p stations).callUnit.lanes[l].outcome = .routeLost := by
  obtain ⟨hcall, hlane⟩ := State.portGone_drops p s
  refine ⟨fun b x hst hx hport => ?_, fun l hl => ?_⟩
  · rw [State.giveUpPort]
    refine List.foldlRecOn
      (motive := fun t : State => t.calls[b].state = .offering ∧ t.calls[b].partner = none) _ _ (hcall b x hst hx hport)
      fun t ht station _ => ?_
    rw [(State.stationGone_call station t b).1 fun y hy => by rw [ht.2] at hy; cases hy]
    exact ht
  · rw [State.giveUpPort]
    refine List.foldlRecOn
      (motive := fun t : State => t.callUnit.lanes[l].state = .lost ∧ t.callUnit.lanes[l].outcome = .routeLost) _ _
      (hlane l hl) fun t ht station _ => ?_
    rw [(State.stationGone_lane station t l).1 (OpLane.talksTo_eq_false (.inl (by rw [ht.1]; decide)))]
    exact ht

end

theorem State.reviewIfChanged_sends (s before : State) : s.Sends (s.reviewIfChanged before) := by
  unfold State.reviewIfChanged
  split
  · exact .rfl' s
  · exact State.reviewSink_sends s

theorem State.chooseSink_via {s : State} {p : Side} {station : Nat} (h : s.chooseSink = .via p station) :
    (s.ports.get p).isUp = true := by
  unfold State.chooseSink at h
  have hup {d : Side} {e : RoleEntry} (he : s.eligible d = some e) : (s.ports.get d).isUp = true := by
    unfold State.eligible at he
    split at he
    next h => exact h
    · cases he
  split at h
  · cases h
  next he _ => cases h; exact hup he
  next _ hw => cases h; exact hup hw
  next he hw =>
    dsimp only at h
    split_ifs at h <;> cases h
    · exact hup he
    · exact hup hw
    · exact hup hw
    · exact hup he

/-- A reviewed sink never lies through a port that is not in use (R169, R170). -/
theorem State.reviewedSink_via {s : State} {p : Side} {station : Nat} (h : s.reviewedSink = .via p station) :
    (s.ports.get p).isUp = true := by
  unfold State.reviewedSink at h
  split at h
  · cases h
  · exact State.chooseSink_via h
  next d n hsink =>
    split at h
    next hkeeps =>
      cases h
      unfold State.keepsSink State.eligible at hkeeps
      by_contra hno
      rw [if_neg hno] at hkeeps
      cases hkeeps
    · exact State.chooseSink_via h

/-- A port that leaves LISTENING, UP or DEGRADED enters DOWN with the effects of R21. -/
theorem State.goDown_wentDown (p : Side) (s : State) (hst : (s.ports.get p).state ≠ .down) :
    (s.goDown p).now = s.now ∧ s.WentDown p (s.goDown p) ∧ ((s.goDown p).ports.get p) = (s.ports.get p).toDown := by
  obtain ⟨u, hu, offers, changed, hgiven, hoffers⟩ := State.giveUpPort_loses p (s.atDown p) (s.mapStationsOn p)
  obtain ⟨hcalls, hlanes⟩ := State.giveUpPort_drops p (s.atDown p) (s.mapStationsOn p)
  obtain ⟨ports, deferred, toll, calls, lanes, callsChanged, playout, rfl, hlink, hidle, -⟩ := hu
  have hport : ports.get p = (s.ports.get p).toDown := by
    rw [hidle p] <;> simp [State.atDown, Port.toDown, Port.isUp]
  have hother := hlink p.other
  simp only [State.atDown, PerSide.get_set_other] at hother
  rw [State.goDown_eq, hgiven]
  rw [hgiven] at hcalls hlanes
  generalize hv : ({ s.atDown p with
    ports := ports, deferred := deferred, toll := toll, calls := calls, playout := playout
    callUnit := { (s.atDown p).callUnit with
      lanes := lanes, callsChanged := callsChanged, offers := offers, offersChanged := changed } } : State) = v at hcalls hlanes ⊢
  have hvports : v.ports = ports := by rw [← hv]
  have hreview : v.reviewIfChanged s = v.reviewSink := by
    refine if_neg fun h => hst ?_
    have hdown : (v.ports.get p).state = .down := by rw [hvports, hport]; rfl
    cases p
    · exact ((Prod.mk.inj h).1).symm.trans hdown
    · exact ((Prod.mk.inj (Prod.mk.inj h).2).1).symm.trans hdown
  rw [hreview]
  obtain ⟨hwork, hkeep⟩ := State.reviewSink_sends v
  have hdown : (v.ports.get p).isUp = false := by rw [hvports, hport]; rfl
  have hfinal : v.reviewSink.ports.get p = (s.ports.get p).toDown := by rw [hkeep p hdown, hvports, hport]
  have hsink (hj : s.joined = true) (hs : s.config.sink = false) (station : Nat) : v.reviewSink.toll.sink ≠ .via p station := by
    rw [State.reviewSink_sink (by rw [← hv]; exact hj) (by rw [← hv]; exact hs)]
    intro h
    rw [State.reviewedSink_via h] at hdown
    cases hdown
  obtain ⟨ports', deferred', toll', heq, hlink'⟩ := hwork
  rw [heq] at hfinal hsink ⊢
  rw [hvports] at hlink'
  obtain ⟨hstate, -, -, -, htimer, hhistory, -⟩ := hother.trans (hlink' p.other)
  subst hv
  refine ⟨rfl, ⟨?_, ⟨hstate, hhistory, htimer⟩, rfl, ⟨by simp [State.atDown, noReach], by simp [State.atDown]⟩, rfl,
    by simp [State.atDown], hoffers, hcalls, fun l c hl hc hp => hlanes l ?_, hsink, rfl, rfl, rfl, rfl, rfl, rfl, rfl, rfl⟩, hfinal⟩
  · rw [hfinal]
    exact ⟨rfl, rfl, rfl, rfl, fun q => by cases q <;> rfl, rfl, rfl, rfl⟩
  · exact OpLane.reachedBy_eq_true (r := s.callUnit.lanes[l]) hl hc hp

section
variable {p : Side} {s : State}

theorem State.WentDown.of_signal {t : State} {signal : Bool}
    (h : (s.modPort p fun x => { x with signal := signal }).WentDown p t) : s.WentDown p t := by
  obtain ⟨hport, hother, hrest⟩ := h
  exact ⟨hport, by simpa [State.modPort] using hother, hrest⟩

theorem exec_signalDetectLost (hheld : s.resetHeld = false) (hst : (s.ports.get p).state ≠ .down) :
    exec (.signalDetectLost p) s = .next ((s.modPort p fun x => { x with signal := false }).goDown p) := by
  change execSignalDetectLost p s = _
  simp [execSignalDetectLost, State.unlessHeld, hheld, hst]

theorem exec_signalDetectLost_down (hheld : s.resetHeld = false) (hst : (s.ports.get p).state = .down) :
    exec (.signalDetectLost p) s = .next { s with ports := s.ports.set p { s.ports.get p with signal := false } } := by
  change execSignalDetectLost p s = _
  have hact : (s.modPort p fun x => { x with signal := false }).unlessHeld (fun s =>
      if (s.ports.get p).state = .down then s else s.goDown p) = s.modPort p fun x => { x with signal := false } := by
    simp [State.unlessHeld, hheld, hst]
  rw [execSignalDetectLost, hact]
  rfl

theorem exec_probeTimerExpiry {due : Nat} (hheld : s.resetHeld = false) (hdue : (s.ports.get p).probeTimer = some due) :
    exec (.probeTimerExpiry p) s = .next ((s.clockTo due).goDown p) := by
  change execProbeTimerExpiry p s = _
  rw [execProbeTimerExpiry, hdue, State.onTimer_running _ _ _ hheld]

/-- The station map without a station. -/
def State.forgotten (station : Nat) (s : State) : State :=
  { s with map := s.map.filter fun e => e.station != station }

theorem exec_stationMapAgeOut {station : Nat} {e : MapEntry} (hheld : s.resetHeld = false)
    (he : s.mapEntry station = some e) :
    exec (.stationMapAgeOut station) s =
      .next (((s.clockTo (e.heardAt + 10000)).forgotten station).stationGone station) := by
  change execStationMapAgeOut station s = _
  rw [execStationMapAgeOut, he, Option.map_some, State.onTimer_running _ _ _ hheld]
  rfl

end

/-- Settles O11. -/
theorem lineLossesReachTheBlocks : Obligations.LineLossesReachTheBlocks := by
  refine ⟨fun p s hheld => ⟨fun hst => ?_, fun hst due hdue => ?_, exec_signalDetectLost_down hheld, fun hstop => ?_, rfl⟩,
    fun station s hheld => ⟨fun hnone => ?_, fun e he => ?_⟩⟩
  · obtain ⟨hnow, hdown, hport⟩ := State.goDown_wentDown p (s.modPort p fun x => { x with signal := false })
      (by simpa [State.modPort] using hst)
    exact ⟨_, exec_signalDetectLost hheld hst, hnow, hdown.of_signal, by rw [hport]; simp [State.modPort, Port.toDown]⟩
  · obtain ⟨hnow, hdown, hport⟩ := State.goDown_wentDown p (s.clockTo due) hst
    exact ⟨_, exec_probeTimerExpiry hheld hdue, hnow, hdown, by rw [hport]; rfl⟩
  · change execProbeTimerExpiry p s = _
    rw [execProbeTimerExpiry, hstop, State.onTimer_stopped]
  · change execStationMapAgeOut station s = _
    rw [execStationMapAgeOut, hnone, Option.map_none, State.onTimer_stopped]
  · have hloses := State.stationGone_loses station ((s.clockTo (e.heardAt + 10000)).forgotten station)
    have hcall := State.stationGone_call station ((s.clockTo (e.heardAt + 10000)).forgotten station)
    have hlane := State.stationGone_lane station ((s.clockTo (e.heardAt + 10000)).forgotten station)
    refine ⟨_, exec_stationMapAgeOut hheld he, ?_⟩
    generalize State.stationGone station _ = t at hloses hcall hlane ⊢
    have hnow := hloses.now_eq
    obtain ⟨hparts, hoffers, hid⟩ := hloses.parts_eq
    refine ⟨hparts, hoffers, hid, fun b => ⟨(hcall b).1, fun x hst hx hstation => ?_⟩, fun l => ⟨fun h => ?_, fun c hst hc ho => ?_⟩⟩
    · rw [hnow]
      exact (hcall b).2 x hst hx hstation
    · exact (hlane l).1 (OpLane.talksTo_eq_false h)
    · obtain ⟨hstate, houtcome, hcall, hchanged⟩ := (hlane l).2 (OpLane.talksTo_eq_true (r := s.callUnit.lanes[l]) hst hc ho)
      exact ⟨hstate, houtcome, hcall.trans hc, hchanged⟩

end Sys2Proof.Machine
end

section
/-! The circuit unit's choices and timers: choosing the lowest FREE circuit (R47), the claim window (R48, R67), asserts (R51),
waits (R50) and age-out (R58). -/
namespace Sys2Proof.Machine
open Sys2Proof

/-! ### The lowest FREE circuit (R47) -/

theorem circuitIndices_eq : circuitIndices = List.finRange 16 := by decide

theorem State.lowestFree_eq_some_iff {c : Fin 16} {s : State} : s.lowestFree = some c ↔ s.LowestFree c := by
  unfold State.lowestFree State.LowestFree
  rw [circuitIndices_eq, List.find?_eq_some_iff_getElem]
  simp only [beq_iff_eq, Bool.not_eq_true', beq_eq_false_iff_ne, List.getElem_finRange, ne_eq, List.length_finRange]
  refine and_congr_right fun _ => ⟨?_, fun h => ⟨c.val, c.isLt, rfl, fun j hj => h ⟨j, by omega⟩ hj⟩⟩
  rintro ⟨i, hi, rfl, h⟩ d hd
  exact h d.val hd

theorem State.lowestFree_eq_none_iff {s : State} : s.lowestFree = none ↔ s.NoneFree := by
  simp [State.lowestFree, State.NoneFree, circuitIndices_eq]

theorem State.broadcast63_not_voice {k : FrameKind} (hk : classOf k.code ≠ .voice) (payload : List Byte) (s : State) :
    classOf (s.broadcast63 k payload).kind ≠ .voice := hk

theorem State.newFrame_not_voice {k : FrameKind} (hk : classOf k.code ≠ .voice) (target limit : Nat) (payload : List Byte)
    (s : State) : classOf (s.newFrame k target limit payload).kind ≠ .voice := hk

/-- The call at `b` has begun to claim circuit `c`, its CLAIM not yet offered. -/
def State.nowClaiming (b : Fin 4) (c : Fin 16) (s : State) : State :=
  { s with
    circuits := s.circuits.set c (.claiming b (some (s.now + 40)))
    calls := s.calls.set b { s.calls[b] with circuit := some c } }

section
variable {b : Fin 4} {c : Fin 16} {s : State}

theorem State.chooseCircuit_lowest (h : s.LowestFree c) :
    s.chooseCircuit b = (s.nowClaiming b c).sendOneOff (.claim c) (s.broadcast63 .claim [circuitByte c, 0]) := by
  simp only [State.chooseCircuit, State.lowestFree_eq_some_iff.2 h]
  rfl

theorem State.chooseCircuit_none (h : s.NoneFree) :
    s.chooseCircuit b = { s with claims := s.claims.set b { s.claims[b] with wait := some (s.now + 1000) } } := by
  simp only [State.chooseCircuit, State.lowestFree_eq_none_iff.2 h]
  rfl

theorem State.sendAssert_eq :
    s.sendAssert c b =
      (s.sendOneOff (.claim c) (s.broadcast63 .claim [circuitByte c, 1])).modCircuit c
        fun _ => .heldOwn b (some (s.now + 1000)) (some (s.now + 100)) := rfl

/-- An assert in one equation: what is sent, and the circuit's timers (R51). -/
theorem State.sendAssert_parts :
    let t := s.sendAssert c b
    t = { s with
          circuits := s.circuits.set c (.heldOwn b (some (s.now + 1000)) (some (s.now + 100)))
          ports := t.ports, deferred := t.deferred, toll := t.toll } ∧
      s.Offered (some (.claim c)) (s.broadcast63 .claim [circuitByte c, 1]) t := by
  have hsent := State.sendOneOff_offered (tag := .claim c) (s := s) (f := s.broadcast63 .claim [circuitByte c, 1]) (State.broadcast63_not_voice (by decide) _ _)
  have hparts := (State.sendOneOff_sends (.claim c) (s.broadcast63 .claim [circuitByte c, 1]) s).parts
  rw [State.sendAssert_eq]
  generalize s.sendOneOff _ _ = t at hsent hparts
  rw [hparts]
  rw [hparts] at hsent
  exact ⟨rfl, hsent⟩

end

/-- What choosing a circuit can change. -/
theorem State.chooseCircuit_parts (b : Fin 4) (s : State) :
    let t := s.chooseCircuit b
    t = { s with
      circuits := t.circuits, claims := t.claims, calls := t.calls, ports := t.ports, deferred := t.deferred
      toll := t.toll } := by
  cases h : s.lowestFree with
  | none =>
    rw [State.chooseCircuit_none (State.lowestFree_eq_none_iff.1 h)]
  | some c =>
    rw [State.chooseCircuit_lowest (State.lowestFree_eq_some_iff.1 h), (State.sendOneOff_sends _ _ _).parts]
    rfl

/-- A call that finds a FREE circuit claims the lowest (R47). -/
theorem State.chooseCircuit_claims {b : Fin 4} {c : Fin 16} {s : State} (h : s.LowestFree c) :
    let t := s.chooseCircuit b
    t = { s with
          circuits := s.circuits.set c (.claiming b (some (s.now + 40)))
          calls := s.calls.set b { s.calls[b] with circuit := some c }
          ports := t.ports, deferred := t.deferred, toll := t.toll } ∧
      s.Offered (some (.claim c)) (s.broadcast63 .claim [circuitByte c, 0]) t := by
  have hsent := State.sendOneOff_offered (tag := .claim c) (s := s.nowClaiming b c) (f := s.broadcast63 .claim [circuitByte c, 0])
    (State.broadcast63_not_voice (by decide) _ _)
  have hparts := (State.sendOneOff_sends (.claim c) (s.broadcast63 .claim [circuitByte c, 0]) (s.nowClaiming b c)).parts
  rw [State.chooseCircuit_lowest h]
  exact ⟨hparts, hsent⟩

/-! ### The timers of a circuit -/

section
variable {c : Fin 16} {b : Fin 4} {s : State} {due : Nat}

theorem exec_claimTimerExpiry (hheld : s.resetHeld = false) (hc : s.circuits[c] = .claiming b (some due)) :
    exec (.claimTimerExpiry c) s = .next ((s.clockTo due).claimStands c b) := by
  change execClaimTimerExpiry c s = _
  simp only [execClaimTimerExpiry, hc, State.onTimer_running _ _ _ hheld]

theorem exec_holdRefreshTimerExpiry {holdOff : Timer} (hheld : s.resetHeld = false)
    (hc : s.circuits[c] = .heldOwn b (some due) holdOff) :
    exec (.holdRefreshTimerExpiry c) s = .next ((s.clockTo due).sendAssert c b) := by
  change execHoldRefreshTimerExpiry c s = _
  simp only [execHoldRefreshTimerExpiry, hc, State.onTimer_running _ _ _ hheld]

theorem exec_assertHoldOffExpiry {refresh : Timer} (hheld : s.resetHeld = false)
    (hc : s.circuits[c] = .heldOwn b refresh (some due)) :
    exec (.assertHoldOffExpiry c) s =
      .next { s with now := max s.now due, circuits := s.circuits.set c (.heldOwn b refresh none) } := by
  change execAssertHoldOffExpiry c s = _
  simp only [execAssertHoldOffExpiry, hc, State.onTimer_running _ _ _ hheld]
  rfl

theorem exec_heldOtherAgeOut {holder heardAt : Nat} (hheld : s.resetHeld = false)
    (hc : s.circuits[c] = .heldOther holder heardAt) :
    exec (.heldOtherAgeOut c) s = .next { s with now := max s.now (heardAt + 2000), circuits := s.circuits.set c .free } := by
  change execHeldOtherAgeOut c s = _
  simp only [execHeldOtherAgeOut, hc, State.onTimer_running _ _ _ hheld]
  rfl

theorem exec_claimWaitTimerExpiry (hheld : s.resetHeld = false) (hwait : s.claims[b].wait = some due) :
    exec (.claimWaitTimerExpiry b) s = .next ((s.clockTo due).waitEnds b) := by
  change execClaimWaitTimerExpiry b s = _
  rw [execClaimWaitTimerExpiry, hwait, State.onTimer_running _ _ _ hheld]

/-- The circuit is held for the call, which the call unit has not heard (R48). -/
def State.nowHeld (c : Fin 16) (b : Fin 4) (s : State) : State :=
  { s with circuits := s.circuits.set c (.heldOwn b (some (s.now + 1000)) none), claims := s.claims.set b ⟨false, 0, none⟩ }

theorem State.claimStands_eq : s.claimStands c b = (s.nowHeld c b).circuitHeld b := rfl

theorem State.nowHeld_holds (h : s.calls[b].circuit = some c) : (s.nowHeld c b).Holds b c :=
  ⟨h, some (s.now + 1000), none, by simp [State.nowHeld]⟩

end

/-- What an offer leaves as it was. -/
theorem State.offerIfHeld_parts (b : Fin 4) (s : State) :
    let t := s.offerIfHeld b
    t = { s with calls := t.calls, ports := t.ports, deferred := t.deferred, toll := t.toll } := by
  by_cases h : ∃ c, s.Holds b c
  · obtain ⟨c, h⟩ := h
    rw [State.offerIfHeld_of_holds h, State.sendOffer_eq, (State.send_sends _ _).parts]
  · rw [State.offerIfHeld_of_not_holds (not_exists.1 h)]

/-- An OFFER of a held call, in one equation (R67). -/
theorem State.offerIfHeld_offers {b : Fin 4} {c : Fin 16} {s : State} (h : s.Holds b c) :
    let t := s.offerIfHeld b
    t.calls = s.calls.set b { s.calls[b] with offerCount := some s.calls[b].nextCount, offerTimer := some (s.now + 5000) } ∧
      s.Offered none (s.offerFrame b c) t := by
  have hoffered := State.send_offered (f := s.offerFrame b c)
    (s := { s with calls := s.calls.set b { s.calls[b] with
      offerCount := some s.calls[b].nextCount, offerTimer := some (s.now + 5000) } })
    (State.broadcast63_not_voice (by decide) _ _)
  dsimp only
  rw [State.offerIfHeld_of_holds h, State.sendOffer_eq]
  exact ⟨(State.send_sends _ _).calls, hoffered⟩

/-- A SEIZING or CONNECTED call that holds its circuit begins to offer (R67, R70). -/
theorem State.enterOffering_offers {b : Fin 4} {c : Fin 16} {s : State} (hst : s.calls[b].state ≠ .offering) (h : s.Holds b c) :
    let t := s.enterOffering b
    t.calls = s.calls.set b
        { s.calls[b] with
          state := .offering, partner := none, silenceTimer := none, offeringSince := some s.now,
          offerCount := some s.calls[b].nextCount, offerTimer := some (s.now + 5000), changedAt := s.now } ∧
      t.callUnit = { s.callUnit with callsChanged := true } ∧ s.Offered none (s.offerFrame b c) t := by
  have hcallUnit := State.offerIfHeld_callUnit b (s.nowOffering b)
  obtain ⟨hcalls, hoffered⟩ := State.offerIfHeld_offers ((State.nowOffering_holds c).2 h)
  dsimp only
  rw [State.enterOffering_eq hst]
  refine ⟨?_, hcallUnit, ?_⟩
  · rw [hcalls]
    simp [State.nowOffering, CallRecord.nextCount]
  · have hframe : (s.nowOffering b).offerFrame b c = s.offerFrame b c := by
      simp [State.offerFrame, State.nowOffering, CallRecord.nextCount, State.broadcast63, State.newFrame]
    rw [hframe] at hoffered
    exact hoffered

theorem State.circuitHeld_parts (b : Fin 4) (s : State) :
    let t := s.circuitHeld b
    t = { s with
      calls := t.calls, callUnit := t.callUnit, playout := t.playout, ports := t.ports, deferred := t.deferred
      toll := t.toll } := by
  have hoffer (s : State) := State.offerIfHeld_parts b s
  unfold State.circuitHeld
  split
  next hst =>
    rw [State.enterOffering_eq (by rw [hst]; decide), hoffer]
    rfl
  next =>
    split
    · rw [hoffer]
    · rfl
  · rfl

/-- The call's wait has ended, its third yield in a row forgotten (R50). -/
def State.waited (b : Fin 4) (s : State) : State :=
  { s with
    claims := s.claims.set b
      { s.claims[b] with
        wait := none, yields := if s.claims[b].wanted && s.claims[b].yields == 3 then 0 else s.claims[b].yields } }

theorem State.waited_of_wanted {b : Fin 4} {s : State} (h : s.claims[b].wanted = true) :
    (s.waited b).claims =
      s.claims.set b ⟨true, if s.claims[b].yields = 3 then 0 else s.claims[b].yields, none⟩ := by
  simp only [State.waited, h, Bool.true_and, beq_iff_eq]

theorem State.waited_of_not_wanted {b : Fin 4} {s : State} (h : s.claims[b].wanted = false) :
    s.waited b = { s with claims := s.claims.set b { s.claims[b] with wait := none } } := by
  simp only [State.waited, h, Bool.false_and, Bool.false_eq_true, if_false]

theorem State.waitEnds_eq (b : Fin 4) (s : State) :
    s.waitEnds b = if s.claims[b].wanted then (s.waited b).chooseCircuit b else s.waited b := rfl

/-- Settles O17. -/
theorem circuitTimersRunOut : Obligations.CircuitTimersRunOut := by
  refine ⟨⟨fun c b s due hheld hc => ?_, fun c b s due holdOff hheld hc => ?_,
    fun c b s due refresh hheld hc => exec_assertHoldOffExpiry hheld hc,
    fun c s holder heardAt hheld hc => exec_heldOtherAgeOut hheld hc⟩, fun b s due hheld hwait => ?_⟩
  · refine ⟨_, exec_claimTimerExpiry hheld hc, ?_⟩
    rw [State.claimStands_eq]
    refine ⟨State.circuitHeld_parts b _, fun hst hcircuit => ?_, fun hst htimer hcircuit => ?_, fun hst => ?_⟩
    · have hstate : ((s.clockTo due).nowHeld c b).calls[b].state = .seizing := hst
      have h := State.enterOffering_offers (by rw [hstate]; decide) (State.nowHeld_holds (s := s.clockTo due) hcircuit)
      simp only [State.circuitHeld, hstate]
      exact h
    · have hstate : ((s.clockTo due).nowHeld c b).calls[b].state = .offering := hst
      have hnone : ((s.clockTo due).nowHeld c b).calls[b].offerTimer = none := htimer
      obtain ⟨hcalls, hoffered⟩ := State.offerIfHeld_offers (State.nowHeld_holds (s := s.clockTo due) hcircuit)
      simp only [State.circuitHeld, hstate, hnone, Option.isNone_none, if_true]
      exact ⟨hcalls, State.offerIfHeld_callUnit b _, hoffered⟩
    · have hstate : ((s.clockTo due).nowHeld c b).calls[b].state = .connected := hst
      simp only [State.circuitHeld, hstate]
      exact ⟨rfl, rfl, rfl, rfl, rfl, rfl⟩
  · obtain ⟨hparts, hoffered⟩ := State.sendAssert_parts (b := b) (c := c) (s := s.clockTo due)
    exact ⟨_, exec_holdRefreshTimerExpiry hheld hc, hparts, hoffered⟩
  · refine ⟨_, exec_claimWaitTimerExpiry hheld hwait, ?_⟩
    rw [State.waitEnds_eq]
    refine ⟨?_, fun hwanted c hc => ?_, fun hwanted hnone => ?_, fun hwanted => ?_⟩
    · split
      · exact State.chooseCircuit_parts b _
      · rfl
    · rw [if_pos (show (s.clockTo due).claims[b].wanted = true from hwanted)]
      obtain ⟨hparts, hoffered⟩ := State.chooseCircuit_claims (b := b) (s := (s.clockTo due).waited b) hc
      refine ⟨by rw [hparts]; rfl, ?_, by rw [hparts]; rfl, hoffered⟩
      rw [hparts]
      exact State.waited_of_wanted (s := s.clockTo due) hwanted
    · rw [if_pos (show (s.clockTo due).claims[b].wanted = true from hwanted), State.chooseCircuit_none (show ((s.clockTo due).waited b).NoneFree from hnone)]
      refine ⟨rfl, ?_, rfl, rfl, rfl, rfl⟩
      simp [State.waited_of_wanted (s := s.clockTo due) hwanted]
      rfl
    · rw [if_neg (by rw [State.clockTo_claims, hwanted]; exact Bool.false_ne_true)]
      exact State.waited_of_not_wanted (s := s.clockTo due) hwanted

end Sys2Proof.Machine
end

section
/-! TAKE, HANGUP and REFUSE frames at the calls they name (R68, R69, R71, R78, R79, R82). -/
namespace Sys2Proof.Machine
open Sys2Proof

section
variable {p : Side} {bytes : List Byte} {f : Frame} {s : State}

/-- A frame that only the addressed station takes. -/
theorem State.Arrives.exec_own {k : FrameKind} (h : s.Arrives p bytes f) (hj : s.joined = true)
    (hk : k ∈ ([.take, .refuse, .hangup, .tollAck] : List FrameKind)) (ht : f.TakenBy k false s.number) :
    exec (.lineFrameArrives p bytes) s = .next (s.withImages fun _ => (s.reached p f).handTo k p f.counted) := by
  obtain ⟨hkind, htarget⟩ := ht
  replace htarget : f.target = s.number := htarget.resolve_right (by simp)
  refine h.exec_eq hkind (by fin_cases hk <;> decide) ?_
  have hopen : (s.reached p f).takesKind k f.counted = ((s.reached p f).joined && f.target == (s.reached p f).number) := by
    fin_cases hk <;> rfl
  rw [hopen, State.reached_joined, State.reached_number, hj, htarget]
  simp

theorem State.Arrives.exec_take {callId : Byte} {lane : Fin 2} (h : s.Arrives p bytes f) (hj : s.joined = true)
    (ht : f.TakenBy .take false s.number) (hp : parseTake f.payload = some (callId, lane)) :
    exec (.lineFrameArrives p bytes) s = .next ((s.reached p f).takeTake p f.origin callId lane) := by
  have hhanded : (s.reached p f).handTo .take p f.counted = (s.reached p f).takeTake p f.origin callId lane := by
    simp only [State.handTo, Frame.counted, hp, State.taking]
  rw [h.exec_own hj (by simp) ht, hhanded,
    State.withImages_of_reached_callWork (State.takeTake_callWork p f.origin callId lane _)]

theorem State.Arrives.exec_hangup {callId : Byte} {towardLane : Bool} (h : s.Arrives p bytes f) (hj : s.joined = true)
    (ht : f.TakenBy .hangup false s.number) (hp : parseIdBit f.payload = some (callId, towardLane)) :
    exec (.lineFrameArrives p bytes) s = .next ((s.reached p f).takeHangup f.origin callId towardLane) := by
  have hhanded : (s.reached p f).handTo .hangup p f.counted = (s.reached p f).takeHangup f.origin callId towardLane := by
    simp only [State.handTo, Frame.counted, hp, State.taking]
  rw [h.exec_own hj (by simp) ht, hhanded,
    State.withImages_of_reached_callWork (State.takeHangup_callWork f.origin callId towardLane _)]

/-- A REFUSE is shown to both lanes. -/
def State.refuseLanes (origin : Nat) (callId : Byte) (ended : Bool) (s : State) : State :=
  laneIndices.foldl (fun s l => s.refuseLane origin callId ended l) s

theorem State.refuseLanes_callWork (origin : Nat) (callId : Byte) (ended : Bool) (s : State) :
    s.CallWork (s.refuseLanes origin callId ended) :=
  List.foldlRecOn (motive := fun t : State => s.CallWork t) _ _ (.rfl' s)
    fun t ht l _ => ht.trans (State.refuseLane_callWork origin callId ended t l)

theorem State.Arrives.exec_refuse {callId : Byte} {ended : Bool} (h : s.Arrives p bytes f) (hj : s.joined = true)
    (ht : f.TakenBy .refuse false s.number) (hp : parseIdBit f.payload = some (callId, ended)) :
    exec (.lineFrameArrives p bytes) s = .next ((s.reached p f).refuseLanes f.origin callId ended) := by
  have hhanded : (s.reached p f).handTo .refuse p f.counted = (s.reached p f).refuseLanes f.origin callId ended := by
    simp only [State.handTo, Frame.counted, hp, State.taking, State.refuseLanes]
  rw [h.exec_own hj (by simp) ht, hhanded,
    State.withImages_of_reached_callWork (State.refuseLanes_callWork f.origin callId ended _)]

end

/-! ### A TAKE (R68, R69) -/

section
variable {p : Side} {origin : Nat} {callId : Byte} {lane : Fin 2} {b : Fin 4} {s : State}

/-- A steered one-off frame in one equation, with what its offering does. -/
theorem State.sendOneOff_steered (tag : DeferTag) (k : FrameKind) (hk : classOf k.code ≠ .voice) (target limit : Nat)
    (payload : List Byte) (s : State) :
    let f := s.newFrame k target limit payload
    let t := s.sendOneOff tag f
    t = { s with ports := t.ports, deferred := t.deferred, toll := t.toll } ∧ s.Offered (some tag) f t :=
  ⟨(State.sendOneOff_sends _ _ s).parts, State.sendOneOff_offered (State.newFrame_not_voice hk _ _ _ s)⟩

theorem State.takeTake_unknown (h : s.currentCall callId = none) :
    s.takeTake p origin callId lane = s.sendOneOff .plain (s.newFrame .refuse origin 63 [callId, 1]) := by
  simp only [State.takeTake, h]
  rfl

theorem State.takeTake_offering (h : s.currentCall callId = some b) (hst : s.calls[b].state = .offering) :
    s.takeTake p origin callId lane = s.connect b ⟨origin, lane, p⟩ := by
  simp only [State.takeTake, h, hst]

theorem State.takeTake_partner {x : Partner} (h : s.currentCall callId = some b) (hst : s.calls[b].state = .connected)
    (hx : s.calls[b].partner = some x) (hs : x.station = origin) : s.takeTake p origin callId lane = s := by
  simp only [State.takeTake, h, hst, hx, Option.elim_some, beq_iff_eq, hs, if_true]

theorem State.takeTake_rival {x : Partner} (h : s.currentCall callId = some b) (hst : s.calls[b].state = .connected)
    (hx : s.calls[b].partner = some x) (hs : x.station ≠ origin) :
    s.takeTake p origin callId lane = s.sendOneOff .plain (s.newFrame .refuse origin 63 [callId, 0]) := by
  simp only [State.takeTake, h, hst, hx, Option.elim_some, beq_iff_eq, hs, if_false]
  rfl

theorem State.takeTake_cleared (h : s.currentCall callId = some b) (hst : s.calls[b].state = .cleared) :
    s.takeTake p origin callId lane = s.sendOneOff .plain (s.newFrame .refuse origin 63 [callId, 1]) := by
  simp only [State.takeTake, h, hst]
  rfl

theorem State.takeTake_seizing (h : s.currentCall callId = some b) (hst : s.calls[b].state = .seizing) :
    s.takeTake p origin callId lane = s := by
  simp only [State.takeTake, h, hst]

/-- An OFFERING call is connected (R69). -/
theorem State.connect_offering {x : Partner} (hst : s.calls[b].state = .offering) :
    s.connect b x =
      { s with
        calls := s.calls.set b
          { s.calls[b] with
            state := .connected, partner := some x, offerTimer := none, offeringSince := none,
            silenceTimer := some (s.now + 2000), changedAt := s.now }
        callUnit := { s.callUnit with callsChanged := true }
        playout :=
          { s.playout with
            boxes := s.playout.boxes.set b { s.playout.boxes[b] with store := emptyStore, sendTimer := some (s.now + 20) }
            tones := s.playout.tones.set b ⟨.answered, true, some (s.now + 200), false⟩ } } := by
  have hne : (CallState.connected) ≠ s.calls[b].state := by rw [hst]; decide
  rw [State.connect, State.putCall_changes hne]
  simp [State.playoutAfterCall, State.toneAfter, State.startTimer]
  rfl

end

/-- Settles O21. -/
theorem takeIsJudgedByTheCall : Obligations.TakeIsJudgedByTheCall := by
  intro p bytes f callId lane s h hj ht hp
  refine ⟨_, h.exec_take hj ht hp, ?_⟩
  obtain ⟨ports, map, deferred, toll, faults, lineFlag, hreached⟩ := s.reached_eq p f
  generalize s.reached p f = u at hreached ⊢
  subst hreached
  refine ⟨fun hcall => ?_, fun b hcall => ⟨fun hst => ?_, fun x hst hx => ⟨fun hs => ?_, fun hs => ?_⟩, fun hst => ?_,
    fun hst => ?_⟩⟩
  · rw [State.takeTake_unknown (by exact hcall)]
    exact State.sendOneOff_steered .plain .refuse (by decide) _ _ _ _
  · rw [State.takeTake_offering (by exact hcall) (by exact hst)]
    exact State.connect_offering hst
  · exact State.takeTake_partner hcall hst hx hs
  · rw [State.takeTake_rival (by exact hcall) (by exact hst) (by exact hx) hs]
    exact State.sendOneOff_steered .plain .refuse (by decide) _ _ _ _
  · rw [State.takeTake_cleared (by exact hcall) (by exact hst)]
    exact State.sendOneOff_steered .plain .refuse (by decide) _ _ _ _
  · exact State.takeTake_seizing hcall hst

end Sys2Proof.Machine
end

section
/-! Calls that end: the handset put down (R72), the partner's HANGUP (R71), and the RELEASE of the circuit (R56). -/
namespace Sys2Proof.Machine
open Sys2Proof

/-! ### The circuit of a call is released (R56) -/

/-- The call at `b` has given up circuit `c`, its RELEASE not yet offered. -/
def State.nowReleased (b : Fin 4) (c : Fin 16) (s : State) : State :=
  { s with
    claims := s.claims.set b ⟨false, 0, none⟩
    circuits := s.circuits.set c .free
    calls := s.calls.set b { s.calls[b] with circuit := none }
    deferred := s.deferred.filter fun d => d.tag != .claim c }

/-- The circuit table after a call has given up what it had bound. -/
def State.circuitsReleased (b : Fin 4) (s : State) : Vector Circuit 16 :=
  match s.boundCircuit b with
  | none => s.circuits
  | some c => s.circuits.set c .free

section
variable {b : Fin 4} {c : Fin 16} {s : State}

theorem State.releaseCall_bound (h : s.boundCircuit b = some c) :
    s.releaseCall b = (s.nowReleased b c).sendOneOff (.release c) (s.broadcast63 .release [circuitByte c]) := by
  simp only [State.releaseCall, h]
  rfl

theorem State.releaseCall_unbound (h : s.boundCircuit b = none) :
    s.releaseCall b =
      { s with
        claims := s.claims.set b ⟨false, 0, none⟩, calls := s.calls.set b { s.calls[b] with circuit := none } } := by
  simp only [State.releaseCall, h]
  rfl

variable (b s)

/-- The release of a call in one equation, with what its RELEASE does. -/
theorem State.releaseCall_parts :
    ∃ w : State,
      s.releaseCall b =
        { s with
          claims := s.claims.set b ⟨false, 0, none⟩
          circuits := s.circuitsReleased b
          calls := s.calls.set b { s.calls[b] with circuit := none }
          ports := w.ports, deferred := w.deferred, toll := w.toll } ∧
      w = { s with ports := w.ports, deferred := w.deferred, toll := w.toll } ∧
      (∀ c, s.boundCircuit b = some c →
        ({ s with deferred := s.deferred.filter fun d => d.tag != .claim c } : State).Offered (some (.release c))
          (s.broadcast63 .release [circuitByte c]) w) ∧
      (s.boundCircuit b = none → w = s) := by
  cases h : s.boundCircuit b with
  | none =>
    refine ⟨s, ?_, rfl, fun c hc => (nomatch hc), fun _ => rfl⟩
    rw [State.releaseCall_unbound h]
    simp only [State.circuitsReleased, h]
  | some c =>
    rw [State.releaseCall_bound h]
    have hparts := (State.sendOneOff_sends (.release c) (s.broadcast63 .release [circuitByte c]) (s.nowReleased b c)).parts
    have hoffered := State.sendOneOff_offered (tag := .release c) (f := s.broadcast63 .release [circuitByte c])
      (s := s.nowReleased b c) (State.broadcast63_not_voice (by decide) _ _)
    generalize State.sendOneOff _ _ _ = t at hparts hoffered ⊢
    refine ⟨{ s with ports := t.ports, deferred := t.deferred, toll := t.toll }, ?_, rfl, fun d hd => ?_, fun hd => (nomatch hd)⟩
    · simp only [State.circuitsReleased, h]
      exact hparts
    · cases hd
      exact hoffered

end

/-! ### The handset is put down (R72) -/

/-- What a HANGUP to the partner does. -/
theorem State.hangupPartner_parts (b : Fin 4) (s : State) :
    ∃ u : State, s.hangupPartner b = u ∧ u = { s with ports := u.ports, deferred := u.deferred, toll := u.toll } ∧
      (∀ x, s.calls[b].state = .connected → s.calls[b].partner = some x →
        s.Offered (some .plain) (s.newFrame .hangup x.station 63 [s.calls[b].callId.getD 0, 1]) u) ∧
      (s.calls[b].state ≠ .connected → u = s) := by
  refine ⟨_, rfl, ?_, fun x hst hx => ?_, fun hst => ?_⟩
  · unfold State.hangupPartner
    dsimp only
    split
    · exact (State.sendOneOff_sends _ _ s).parts
    · rfl
  · have hsend : s.hangupPartner b = s.sendOneOff .plain (s.newFrame .hangup x.station 63 [s.calls[b].callId.getD 0, 1]) := by
      simp only [State.hangupPartner, hst, hx]
      rfl
    rw [hsend]
    exact State.sendOneOff_offered (State.newFrame_not_voice (by decide) _ _ _ s)
  · unfold State.hangupPartner
    dsimp only
    split
    next h _ => exact absurd h hst
    · rfl

/-- The record of a call that has ended. -/
def State.endedCall (b : Fin 4) (s : State) : CallRecord :=
  { resetCall with offHook := s.calls[b].offHook, callId := s.calls[b].callId, changedAt := s.now }

/-- The playout unit once a call has ended, and its cadence. -/
def State.playoutQuiet (b : Fin 4) (tone : Tone) (s : State) : Playout :=
  { s.playout with
    boxes := s.playout.boxes.set b { s.playout.boxes[b] with store := emptyStore, sendTimer := none }
    tones := s.playout.tones.set b tone }

/-- The end of a call in one equation, with what its HANGUP and its RELEASE do (R56, R72). -/
theorem State.endCall_parts {b : Fin 4} {s : State} (hst : s.calls[b].state ≠ .idle) :
    ∃ u w : State,
      s.endCall b =
        { s with
          calls := s.calls.set b (s.endedCall b)
          claims := s.claims.set b ⟨false, 0, none⟩
          circuits := s.circuitsReleased b
          callUnit := { s.callUnit with callsChanged := true }
          playout := s.playoutQuiet b silentTone
          ports := w.ports, toll := w.toll
          deferred := w.deferred.filter fun d => d.tag != .firstIncident b } ∧
      u = { s with ports := u.ports, deferred := u.deferred, toll := u.toll } ∧
      (∀ x, s.calls[b].state = .connected → s.calls[b].partner = some x →
        s.Offered (some .plain) (s.newFrame .hangup x.station 63 [s.calls[b].callId.getD 0, 1]) u) ∧
      (s.calls[b].state ≠ .connected → u = s) ∧
      w = { u with ports := w.ports, deferred := w.deferred, toll := w.toll } ∧
      (∀ c, s.boundCircuit b = some c →
        ({ u with deferred := u.deferred.filter fun d => d.tag != .claim c } : State).Offered (some (.release c))
          (s.broadcast63 .release [circuitByte c]) w) ∧
      (s.boundCircuit b = none → w = u) := by
  obtain ⟨u, hhangup, hu, hoffered, hnone⟩ := s.hangupPartner_parts b
  obtain ⟨w, hrelease, hw, hreleased, hunbound⟩ := u.releaseCall_parts b
  refine ⟨u, w, ?_, hu, hoffered, hnone, hw, ?_, ?_⟩
  · have hne : (CallState.idle) ≠ (u.releaseCall b).calls[b].state := by
      rw [hrelease, hu]
      simpa using Ne.symm hst
    rw [State.endCall, hhangup, State.putCall_changes hne, hrelease]
    rw [hu] at hrelease ⊢
    simp [State.endedCall, resetCall, State.playoutAfterCall, State.playoutQuiet, State.toneAfter]
    rfl
  · rw [hu] at hreleased
    exact hreleased
  · rw [hu] at hunbound ⊢
    exact hunbound

/-- The handset at a port is down. -/
def State.hookDown (b : Fin 4) (s : State) : State :=
  { s with calls := s.calls.set b { s.calls[b] with offHook := false } }

section
variable {b : Fin 4} {s : State}

theorem State.hookDown_call : (s.hookDown b).calls[b] = { s.calls[b] with offHook := false } := by
  simp [State.hookDown]

theorem State.hookDown_boundCircuit : (s.hookDown b).boundCircuit b = s.boundCircuit b := by
  simp only [State.boundCircuit, State.hookDown_call]
  rfl

theorem State.hookRead_eq_true (h : s.joined = false ∨ b.val < s.config.boxes) : s.hookRead b = true := by
  obtain h | h := h <;> simp [State.hookRead, State.boxFitted, h]

theorem exec_hookOnHook_idle (hheld : s.resetHeld = false) (hread : s.joined = false ∨ b.val < s.config.boxes)
    (h : s.joined = false ∨ s.calls[b].state = .idle) : exec (.hookOnHook b) s = .next (s.hookDown b) := by
  change execHookOnHook b s = _
  have hact : ¬((s.hookDown b).joined = true ∧ (s.hookDown b).calls[b].state ≠ .idle) := by
    rw [State.hookDown_call]
    rintro ⟨hj, hst⟩
    obtain h | h := h
    · exact absurd (h.symm.trans hj) (by decide)
    · exact hst h
  rw [execHookOnHook, if_pos (State.hookRead_eq_true hread)]
  change (.next ((s.hookDown b).unlessHeld _) : Result) = _
  rw [State.unlessHeld, if_neg (by rw [show (s.hookDown b).resetHeld = s.resetHeld from rfl, hheld]; decide), if_neg hact]

theorem exec_hookOnHook_call (hheld : s.resetHeld = false) (hj : s.joined = true) (hb : b.val < s.config.boxes)
    (hst : s.calls[b].state ≠ .idle) : exec (.hookOnHook b) s = .next ((s.hookDown b).endCall b) := by
  change execHookOnHook b s = _
  rw [execHookOnHook, if_pos (State.hookRead_eq_true (.inr hb))]
  change (.next ((s.hookDown b).unlessHeld _) : Result) = _
  rw [State.unlessHeld, if_neg (by rw [show (s.hookDown b).resetHeld = s.resetHeld from rfl, hheld]; decide),
    if_pos ⟨hj, by rw [State.hookDown_call]; exact hst⟩]

theorem exec_hookOnHook_unread (hj : s.joined = true) (hb : s.config.boxes ≤ b.val) : exec (.hookOnHook b) s = .next s := by
  change execHookOnHook b s = _
  rw [execHookOnHook, if_neg]
  simp [State.hookRead, State.boxFitted, hj, hb]

end

/-- Settles O19. -/
theorem onHookEndsTheCall : Obligations.OnHookEndsTheCall := by
  refine ⟨fun b s hheld => ⟨fun hj => exec_hookOnHook_idle hheld (.inl hj) (.inl hj), fun hj hb => exec_hookOnHook_unread hj hb⟩,
    fun b s hheld hj hb => ⟨fun hst => exec_hookOnHook_idle hheld (.inr hb) (.inr hst), fun hst => ?_⟩⟩
  obtain ⟨u, w, hend, hu, hoffered, hnone, hw, hreleased, hunbound⟩ :=
    State.endCall_parts (b := b) (s := s.hookDown b) (by rw [State.hookDown_call]; exact hst)
  simp only [State.hookDown_call, State.hookDown_boundCircuit] at hoffered hnone hreleased hunbound
  refine ⟨{ s with ports := u.ports, deferred := u.deferred, toll := u.toll },
    { s with ports := w.ports, deferred := w.deferred, toll := w.toll }, _, exec_hookOnHook_call hheld hj hb hst, ?_, rfl,
    hoffered, fun h => ?_, rfl, hreleased, fun h => ?_⟩
  · rw [hend]
    simp only [State.endedCall, State.circuitsReleased, State.hookDown_call, State.hookDown_boundCircuit]
    simp only [State.hookDown, Vector.set_set]
    rfl
  · rw [hnone h]
    rfl
  · rw [hunbound h]

end Sys2Proof.Machine
end

section
/-! The partner's HANGUP and REFUSE: calls that are cleared (R71) and lanes that return to IDLE (R78, R79, R82). -/
namespace Sys2Proof.Machine
open Sys2Proof

/-! ### Lanes return to IDLE -/

/-- What lanes that return to IDLE can change. -/
def State.Idles (s t : State) : Prop :=
  ∃ lanes changed playout deferred,
    t = { s with
      callUnit := { s.callUnit with lanes := lanes, callsChanged := changed }, playout := playout, deferred := deferred } ∧
    (s.callUnit.callsChanged = true → changed = true)

theorem State.Idles.rfl' (s : State) : s.Idles s := ⟨_, _, _, _, rfl, id⟩

theorem State.Idles.trans {s t u : State} (h : s.Idles t) (k : t.Idles u) : s.Idles u := by
  obtain ⟨_, _, _, _, rfl, hchanged⟩ := h
  obtain ⟨_, _, _, _, rfl, kchanged⟩ := k
  exact ⟨_, _, _, _, rfl, fun h => kchanged (hchanged h)⟩

theorem State.Idles.parts {s t : State} (h : s.Idles t) :
    t = { s with callUnit := t.callUnit, playout := t.playout, deferred := t.deferred } ∧
      t.callUnit.offers = s.callUnit.offers ∧ t.callUnit.nextCallId = s.callUnit.nextCallId ∧ t.now = s.now ∧
      (s.callUnit.callsChanged = true → t.callUnit.callsChanged = true) := by
  obtain ⟨_, _, _, _, rfl, hchanged⟩ := h
  exact ⟨rfl, rfl, rfl, rfl, hchanged⟩

/-- The lanes named return to IDLE with this outcome. -/
@[irreducible] def State.idleLanes (named : OpLane → Bool) (outcome : LaneOutcome) (s : State) : State :=
  laneIndices.foldl (fun (s : State) (l : Fin 2) => if named s.callUnit.lanes[l] then s.laneToIdle l outcome else s) s

section
variable {named : OpLane → Bool} (hnamed : ∀ r, named r = true → r.state ≠ .idle) (outcome : LaneOutcome)
include hnamed

theorem State.idleLane_idles (s : State) (l : Fin 2) :
    s.Idles (if named s.callUnit.lanes[l] then s.laneToIdle l outcome else s) := by
  split
  next h => rw [State.laneToIdle_eq (hnamed _ h)]; exact ⟨_, _, _, _, rfl, fun _ => rfl⟩
  · exact .rfl' s

theorem State.idleLane_other (s : State) (l k : Fin 2) (hlk : l ≠ k) :
    let t := if named s.callUnit.lanes[l] then s.laneToIdle l outcome else s
    (t.callUnit.lanes[k], t.playout.lanes[k]) = (s.callUnit.lanes[k], s.playout.lanes[k]) := by
  dsimp only
  split
  next h =>
    rw [State.laneToIdle_eq (hnamed _ h)]
    simp only [Vector.getElem_set_fin_ne _ _ hlk]
  · rfl

theorem State.idleLanes_idles (s : State) : s.Idles (s.idleLanes named outcome) := by
  rw [State.idleLanes]
  exact List.foldlRecOn (motive := fun t : State => s.Idles t) _ _ (.rfl' s)
    fun t ht l _ => ht.trans (State.idleLane_idles hnamed outcome t l)

/-- What returning the named lanes to IDLE leaves of each lane. -/
theorem State.idleLanes_lane (s : State) (l : Fin 2) :
    let t := s.idleLanes named outcome
    (named s.callUnit.lanes[l] = true →
      t.callUnit.lanes[l] = { resetLane with outcome := outcome, changedAt := s.now } ∧
        t.playout.lanes[l].store = emptyStore ∧ t.playout.lanes[l].sendTimer = none ∧ t.callUnit.callsChanged = true) ∧
      (named s.callUnit.lanes[l] = false →
        t.callUnit.lanes[l] = s.callUnit.lanes[l] ∧ t.playout.lanes[l] = s.playout.lanes[l]) := by
  obtain ⟨u, hu, hsame, hview, hR⟩ := foldl_visit (R := State.Idles)
    (view := fun s (l : Fin 2) => (s.callUnit.lanes[l], s.playout.lanes[l])) (j := l)
    State.Idles.rfl' State.Idles.trans (State.idleLane_idles hnamed outcome) (State.idleLane_other hnamed outcome)
    laneIndices s (by decide) (laneIndices_all l)
  rw [← State.idleLanes] at hview hR
  generalize s.idleLanes named outcome = t at hview hR ⊢
  obtain ⟨hlane, haudio⟩ := Prod.mk.inj hsame
  obtain ⟨hlane', haudio'⟩ := Prod.mk.inj hview
  refine ⟨fun hyes => ?_, fun hno => ?_⟩
  · have hif : named u.callUnit.lanes[l] = true := by rw [hlane]; exact hyes
    obtain ⟨-, -, -, hnow, -⟩ := hu.parts
    simp only [if_pos hif] at hlane' haudio' hR
    rw [State.laneToIdle_eq (hnamed _ hif)] at hlane' haudio' hR
    obtain ⟨-, -, -, -, hchanged⟩ := hR.parts
    rw [hlane', haudio']
    simp only [Vector.getElem_set_fin_self, hnow, true_and]
    exact hchanged rfl
  · have hif : ¬named u.callUnit.lanes[l] = true := by rw [hlane, hno]; exact Bool.false_ne_true
    simp only [if_neg hif] at hlane' haudio'
    exact ⟨hlane'.trans hlane, haudio'.trans haudio⟩

end

/-! ### Which lanes a REFUSE and a HANGUP name -/

/-- The lane is TAKING or TALKING with this call. -/
def OpLane.inCall (origin : Nat) (callId : Byte) (r : OpLane) : Bool :=
  (r.state == .taking || r.state == .talking) && r.hasCall origin callId

/-- The lane holds this call in any state. -/
def OpLane.holdsCall (origin : Nat) (callId : Byte) (r : OpLane) : Bool := r.state != .idle && r.hasCall origin callId

theorem OpLane.inCall_iff {origin : Nat} {callId : Byte} {r : OpLane} :
    r.inCall origin callId = true ↔ (r.state = .taking ∨ r.state = .talking) ∧ r.hasCall origin callId = true := by
  simp [OpLane.inCall]

theorem OpLane.holdsCall_iff {origin : Nat} {callId : Byte} {r : OpLane} :
    r.holdsCall origin callId = true ↔ r.state ≠ .idle ∧ r.hasCall origin callId = true := by
  simp [OpLane.holdsCall]

theorem OpLane.inCall_not_idle (origin : Nat) (callId : Byte) (r : OpLane) (h : r.inCall origin callId = true) :
    r.state ≠ .idle := by
  obtain ⟨h | h, -⟩ := OpLane.inCall_iff.1 h <;> rw [h] <;> decide

theorem OpLane.holdsCall_not_idle (origin : Nat) (callId : Byte) (r : OpLane) (h : r.holdsCall origin callId = true) :
    r.state ≠ .idle := (OpLane.holdsCall_iff.1 h).1

theorem State.refuseLanes_eq (origin : Nat) (callId : Byte) (ended : Bool) (s : State) :
    s.refuseLanes origin callId ended =
      s.idleLanes (OpLane.inCall origin callId) (if ended then .ended else .takenElsewhere) := by
  unfold State.refuseLanes State.idleLanes State.refuseLane
  simp only [OpLane.inCall_iff]

/-- A HANGUP toward the lanes: the offer leaves the list, and the call's lanes return to IDLE. -/
theorem State.takeHangup_lanes (origin : Nat) (callId : Byte) (s : State) :
    s.takeHangup origin callId true =
      (s.removeOffer origin callId).idleLanes (OpLane.holdsCall origin callId) .callerHungUp := by
  unfold State.takeHangup State.idleLanes State.hangupLane
  simp only [OpLane.holdsCall_iff, if_true]

/-! ### A HANGUP toward the call box (R71) -/

section
variable {origin : Nat} {callId : Byte} {b : Fin 4} {s : State}

/-- A CONNECTED call whose partner hung up, in one equation with what its RELEASE does (R56, R71). -/
theorem State.takeHangup_clears {x : Partner} (hcall : s.currentCall callId = some b) (hst : s.calls[b].state = .connected)
    (hx : s.calls[b].partner = some x) (hs : x.station = origin) :
    ∃ w : State,
      s.takeHangup origin callId false =
        { s with
          calls := s.calls.set b
            { s.calls[b] with
              state := .cleared, circuit := none, partner := none, offerTimer := none, incidentTimer := none,
              silenceTimer := none, changedAt := s.now }
          claims := s.claims.set b ⟨false, 0, none⟩
          circuits := s.circuitsReleased b
          callUnit := { s.callUnit with callsChanged := true }
          playout := s.playoutQuiet b ⟨.cleared, true, some (s.now + 1000), false⟩
          ports := w.ports, toll := w.toll
          deferred := w.deferred.filter fun d => d.tag != .firstIncident b } ∧
      w = { s with ports := w.ports, deferred := w.deferred, toll := w.toll } ∧
      (∀ c, s.boundCircuit b = some c →
        ({ s with deferred := s.deferred.filter fun d => d.tag != .claim c } : State).Offered (some (.release c))
          (s.broadcast63 .release [circuitByte c]) w) ∧
      (s.boundCircuit b = none → w = s) := by
  obtain ⟨w, hrelease, hw⟩ := s.releaseCall_parts b
  refine ⟨w, ?_, hw⟩
  have hne : (CallState.cleared) ≠ (s.releaseCall b).calls[b].state := by
    rw [hrelease, Vector.getElem_set_fin_self, hst]
    decide
  have hif : s.calls[b].state = .connected ∧ (s.calls[b].partner.elim false fun q => q.station == origin) = true :=
    ⟨hst, by rw [hx, Option.elim_some, hs, beq_self_eq_true]⟩
  simp only [State.takeHangup, Bool.false_eq_true, if_false, State.takeHangupToBox, hcall, if_pos hif]
  rw [State.putCall_changes hne, hrelease]
  simp [State.playoutAfterCall, State.playoutQuiet, State.toneAfter]
  rfl

theorem State.takeHangup_ignored
    (h : ∀ (b : Fin 4) (x : Partner), s.currentCall callId = some b → s.calls[b].state = .connected →
      s.calls[b].partner = some x → x.station ≠ origin) : s.takeHangup origin callId false = s := by
  simp only [State.takeHangup, Bool.false_eq_true, if_false, State.takeHangupToBox]
  cases hcall : s.currentCall callId with
  | none => rfl
  | some b =>
    dsimp only
    refine if_neg fun ⟨hst, hpartner⟩ => ?_
    cases hx : s.calls[b].partner with
    | none => rw [hx] at hpartner; cases hpartner
    | some x =>
      rw [hx, Option.elim_some, beq_iff_eq] at hpartner
      exact h b x hcall hst hx hpartner

end

/-- Settles O23. -/
theorem hangupAndRefuseEndTheirCalls : Obligations.HangupAndRefuseEndTheirCalls := by
  refine ⟨fun p bytes f callId s h hj ht hp => ?_, fun p bytes f callId ended s h hj ht hp => ?_⟩
  · rw [h.exec_hangup hj ht hp]
    obtain ⟨ports, map, deferred, toll, faults, lineFlag, hreached⟩ := s.reached_eq p f
    generalize s.reached p f = u at hreached ⊢
    subst hreached
    refine ⟨fun b x hcall hst hx hs => ?_, fun hno => ?_⟩
    · obtain ⟨w, hclears, -, hoffered, hnone⟩ := State.takeHangup_clears (s := { s with
        ports := ports, map := map, deferred := deferred, toll := toll, faults := faults, lineFlag := lineFlag })
        hcall hst hx hs
      exact ⟨w, _, rfl, hclears, hoffered, hnone⟩
    · rw [State.takeHangup_ignored (by exact hno)]
  · refine ⟨_, h.exec_refuse hj ht hp, ?_⟩
    rw [State.refuseLanes_eq]
    have hidles := State.idleLanes_idles (OpLane.inCall_not_idle f.origin callId) (if ended then .ended else .takenElsewhere)
      (s.reached p f)
    have hlane := State.idleLanes_lane (OpLane.inCall_not_idle f.origin callId) (if ended then .ended else .takenElsewhere)
      (s.reached p f)
    generalize State.idleLanes _ _ _ = t at hidles hlane ⊢
    obtain ⟨hparts, hoffers, hid, -⟩ := hidles.parts
    obtain ⟨ports, map, deferred, toll, faults, lineFlag, hreached⟩ := s.reached_eq p f
    rw [hreached] at hparts hoffers hid hlane ⊢
    refine ⟨hparts, hoffers, hid, fun l => ⟨fun hnamed => ?_, fun hnamed => ?_⟩⟩
    · obtain ⟨hstate, hstore, -, hchanged⟩ := (hlane l).1 (OpLane.inCall_iff.2 hnamed)
      exact ⟨hstate, hstore, hchanged⟩
    · exact (hlane l).2 (Bool.eq_false_iff.2 fun h => hnamed (OpLane.inCall_iff.1 h))

/-! ### The offer list (R74, R75) -/

section
variable {origin : Nat} {callId : Byte} {s : State}

theorem State.removeOffer_eq (origin : Nat) (callId : Byte) (s : State) :
    ∃ changed, s.removeOffer origin callId =
      { s with callUnit := { s.callUnit with
        offers := s.callUnit.offers.filter fun o => !o.hasKey origin callId, offersChanged := changed } } := by
  unfold State.removeOffer
  split
  · exact ⟨true, rfl⟩
  next h =>
    refine ⟨s.callUnit.offersChanged, ?_⟩
    have hall : (s.callUnit.offers.filter fun o => !o.hasKey origin callId) = s.callUnit.offers := by
      rw [List.filter_eq_self]
      intro o ho
      rw [Bool.not_eq_true']
      by_contra hkey
      exact h (List.any_eq_true.2 ⟨o, ho, by simpa using hkey⟩)
    rw [hall]

theorem State.removeOffer_listed {o : Offer} (h : o ∈ s.callUnit.offers) (hkey : o.hasKey origin callId = true) :
    s.removeOffer origin callId =
      { s with callUnit := { s.callUnit with
        offers := s.callUnit.offers.filter fun o => !o.hasKey origin callId, offersChanged := true } } :=
  if_pos (List.any_eq_true.2 ⟨o, h, hkey⟩)

end

end Sys2Proof.Machine
end

section
/-! The offer list: OFFERs taken (R74, R80), entries that age out (R75), and a HANGUP toward the lanes (R78, R79, R82). -/
namespace Sys2Proof.Machine
open Sys2Proof

theorem State.Arrives.exec_offer {p : Side} {bytes : List Byte} {f : Frame} {s : State} {o : OfferFields}
    (h : s.Arrives p bytes f) (hj : s.joined = true) (ha : s.config.answering = true)
    (ht : f.TakenBy .offer true s.number) (hp : parseOffer f.payload = some o) :
    exec (.lineFrameArrives p bytes) s = .next ((s.reached p f).takeOffer p f.origin o) := by
  have hhanded : (s.reached p f).handTo .offer p f.counted = (s.reached p f).takeOffer p f.origin o := by
    simp only [State.handTo, Frame.counted, hp, State.taking]
  have hconfig : (s.reached p f).config = s.config := by
    obtain ⟨_, _, _, _, _, _, h⟩ := s.reached_eq p f; rw [h]
  obtain ⟨hkind, htarget⟩ := ht
  have htakes : (s.reached p f).takesKind .offer f.counted = true := by
    have hopen : (s.reached p f).takesKind .offer f.counted =
        ((s.reached p f).joined && (s.reached p f).config.answering &&
          (f.target == 0 || f.target == (s.reached p f).number)) := rfl
    rw [hopen, State.reached_joined, State.reached_number, hconfig, hj, ha]
    simpa [or_comm] using htarget
  rw [h.exec_eq hkind (by decide) htakes, hhanded,
    State.withImages_of_reached_callWork (State.takeOffer_callWork p f.origin o _)]

/-! ### An OFFER at the list and the lanes -/

/-- The lane is in this state with this call. -/
def State.LaneIn (origin : Nat) (callId : Byte) (st : LaneState) (l : Fin 2) (s : State) : Prop :=
  s.callUnit.lanes[l].state = st ∧ s.callUnit.lanes[l].hasCall origin callId = true

/-- The first lane in this state with this call. -/
def State.laneWith (origin : Nat) (callId : Byte) (st : LaneState) (s : State) : Option (Fin 2) :=
  laneIndices.find? fun l => s.callUnit.lanes[l].state == st && s.callUnit.lanes[l].hasCall origin callId

section
variable {origin : Nat} {callId : Byte} {st : LaneState} {s : State}

theorem State.laneWith_eq_none (h : ∀ l, ¬s.LaneIn origin callId st l) : s.laneWith origin callId st = none := by
  refine List.find?_eq_none.2 fun l _ => ?_
  simpa [State.LaneIn] using h l

theorem State.laneWith_isSome {l : Fin 2} (h : s.LaneIn origin callId st l) : (s.laneWith origin callId st).isSome = true := by
  refine List.find?_isSome.2 ⟨l, laneIndices_all l, ?_⟩
  simpa [State.LaneIn] using h

theorem State.laneWith_eq_some {l : Fin 2} (h : s.LaneIn origin callId st l)
    (hfirst : ∀ k, k < l → ¬s.LaneIn origin callId st k) : s.laneWith origin callId st = some l := by
  have hp (l : Fin 2) : (s.callUnit.lanes[l].state == st && s.callUnit.lanes[l].hasCall origin callId) = true ↔
      s.LaneIn origin callId st l := by simp [State.LaneIn]
  have hindices : laneIndices = List.finRange 2 := rfl
  rw [State.laneWith, hindices, List.find?_eq_some_iff_getElem]
  refine ⟨(hp l).2 h, l.val, by simpa using l.isLt, by simp, fun j hj => ?_⟩
  have hk := hfirst ⟨j, by omega⟩ hj
  rw [← hp, Bool.not_eq_true, ← Bool.not_eq_true'] at hk
  rw [List.getElem_finRange]
  exact hk

end

section
variable {p : Side} {origin : Nat} {o : OfferFields} {s : State}

theorem State.takeOffer_eq (p : Side) (origin : Nat) (o : OfferFields) (s : State) :
    s.takeOffer p origin o =
      if s.callUnit.offers.any fun x => x.hasKey origin o.callId then
        s.setOffers (s.callUnit.offers.map fun x =>
          if x.hasKey origin o.callId then
            { x with circuit := o.circuit, count := o.count, port := p, lastHeard := s.now }
          else x)
      else if (s.laneWith origin o.callId .taking).isSome then s
      else
        match s.laneWith origin o.callId .talking with
        | some l => s.sendTake l origin o.callId
        | none =>
          s.setOffers
            ((if s.callUnit.offers.length < 16 then s.callUnit.offers
              else match oldestOffer s.callUnit.offers with
                | none => s.callUnit.offers
                | some v => s.callUnit.offers.erase v) ++
              [⟨origin, o.callId, o.box, o.circuit, o.count, p, s.now, s.now⟩]) := rfl

theorem State.takeOffer_listed (h : ∃ x ∈ s.callUnit.offers, x.hasKey origin o.callId = true) :
    s.takeOffer p origin o =
      s.setOffers (s.callUnit.offers.map fun x =>
        if x.hasKey origin o.callId then { x with circuit := o.circuit, count := o.count, port := p, lastHeard := s.now }
        else x) := by
  rw [State.takeOffer_eq, if_pos (List.any_eq_true.2 h)]

theorem any_hasKey_eq_false {offers : List Offer} {callId : Byte} (h : ∀ x ∈ offers, x.hasKey origin callId = false) :
    ¬(offers.any fun x => x.hasKey origin callId) = true := by
  simpa using h

variable (h : ∀ x ∈ s.callUnit.offers, x.hasKey origin o.callId = false)
include h

theorem State.takeOffer_taking {l : Fin 2} (hl : s.LaneIn origin o.callId .taking l) : s.takeOffer p origin o = s := by
  rw [State.takeOffer_eq, if_neg (any_hasKey_eq_false h), if_pos (State.laneWith_isSome hl)]

theorem State.takeOffer_talking {l : Fin 2} (hno : ∀ l, ¬s.LaneIn origin o.callId .taking l)
    (hl : s.LaneIn origin o.callId .talking l) (hfirst : ∀ k, k < l → ¬s.LaneIn origin o.callId .talking k) :
    s.takeOffer p origin o = s.sendOneOff (.take l) (s.newFrame .take origin 63 [o.callId, byteOf l.val]) := by
  rw [State.takeOffer_eq, if_neg (any_hasKey_eq_false h), State.laneWith_eq_none hno, if_neg (by decide),
    State.laneWith_eq_some hl hfirst]
  rfl

theorem State.takeOffer_added (hno : ∀ l, ¬s.LaneIn origin o.callId .taking l ∧ ¬s.LaneIn origin o.callId .talking l) :
    s.takeOffer p origin o =
      s.setOffers
        ((if s.callUnit.offers.length < 16 then s.callUnit.offers
          else match oldestOffer s.callUnit.offers with
            | none => s.callUnit.offers
            | some v => s.callUnit.offers.erase v) ++
          [⟨origin, o.callId, o.box, o.circuit, o.count, p, s.now, s.now⟩]) := by
  rw [State.takeOffer_eq, if_neg (any_hasKey_eq_false h), State.laneWith_eq_none fun l => (hno l).1, if_neg (by decide),
    State.laneWith_eq_none fun l => (hno l).2]

end

/-- The oldest offer stands where all before it were heard later and none after it earlier (R74). -/
theorem oldestOffer_append {before after : List Offer} {v : Offer} (hbefore : ∀ x ∈ before, v.lastHeard < x.lastHeard)
    (hafter : ∀ x ∈ after, v.lastHeard ≤ x.lastHeard) : oldestOffer (before ++ v :: after) = some v := by
  induction before with
  | nil =>
    rw [List.nil_append, oldestOffer]
    cases hold : oldestOffer after with
    | none => rfl
    | some y =>
      have hmem : ∀ {ys : List Offer} {y : Offer}, oldestOffer ys = some y → y ∈ ys := by
        intro ys
        induction ys with
        | nil => intro y hy; cases hy
        | cons z zs ih =>
          intro y hy
          rw [oldestOffer] at hy
          split at hy
          · cases hy; exact List.mem_cons_self
          next w hw =>
            split at hy
            · cases hy; exact List.mem_cons_of_mem _ (ih hw)
            · cases hy; exact List.mem_cons_self
      exact if_neg (Nat.not_lt.2 (hafter y (hmem hold)))
  | cons x before ih =>
    rw [List.cons_append, oldestOffer, ih fun y hy => hbefore y (List.mem_cons_of_mem _ hy)]
    exact if_pos (hbefore x List.mem_cons_self)

theorem erase_oldest {before after : List Offer} {v : Offer} (hbefore : ∀ x ∈ before, v.lastHeard < x.lastHeard) :
    (before ++ v :: after).erase v = before ++ after := by
  rw [List.erase_append_right, List.erase_cons_head]
  intro hv
  exact Nat.lt_irrefl _ (hbefore v hv)

/-! ### An offer ages out (R75) -/

theorem exec_offerEntryAgeOut {origin : Nat} {callId : Byte} {o : Offer} {s : State} (hheld : s.resetHeld = false)
    (ho : (s.callUnit.offers.find? fun o => o.hasKey origin callId) = some o) :
    exec (.offerEntryAgeOut origin callId) s = .next ((s.clockTo (o.lastHeard + 12000)).removeOffer origin callId) := by
  change execOfferEntryAgeOut origin callId s = _
  rw [execOfferEntryAgeOut, ho, Option.map_some, State.onTimer_running _ _ _ hheld]

/-- Settles O22. -/
theorem offersAreListedAndLeave : Obligations.OffersAreListedAndLeave := by
  refine ⟨fun p bytes f o s h hj ha ht hp => ?_, fun origin callId s hheld => ⟨fun o ho => ?_, fun hnone => ?_⟩,
    fun p bytes f callId s h hj ht hp => ?_⟩
  · rw [h.exec_offer hj ha ht hp]
    obtain ⟨ports, map, deferred, toll, faults, lineFlag, hreached⟩ := s.reached_eq p f
    generalize s.reached p f = u at hreached ⊢
    subst hreached
    refine ⟨fun hlisted => ?_, fun hun ⟨l, hl⟩ => ?_, fun hun hno l hl hfirst => ⟨_, rfl, ?_⟩, fun hun hno =>
      ⟨fun hroom => ?_, fun hfull before after v hsplit hbefore hafter => ?_⟩⟩
    · rw [State.takeOffer_listed (by exact hlisted)]
      rfl
    · rw [State.takeOffer_taking (by exact hun) (by exact hl)]
    · rw [State.takeOffer_talking (by exact hun) (by exact hno) (by exact hl) (by exact hfirst)]
      exact State.sendOneOff_steered (.take l) .take (by decide) _ _ _ _
    · rw [State.takeOffer_added (by exact hun) (by exact hno), if_pos hroom]
      rfl
    · rw [State.takeOffer_added (by exact hun) (by exact hno), if_neg (Nat.not_lt.2 hfull)]
      simp only [hsplit, oldestOffer_append hbefore hafter, erase_oldest hbefore]
      rfl
  · rw [exec_offerEntryAgeOut hheld ho,
      State.removeOffer_listed (by exact List.mem_of_find?_eq_some ho) (by simpa using List.find?_some ho)]
    rfl
  · change execOfferEntryAgeOut origin callId s = _
    rw [execOfferEntryAgeOut, List.find?_eq_none.2 fun o ho => by simpa using hnone o ho, Option.map_none,
      State.onTimer_stopped]
  · refine ⟨_, h.exec_hangup hj ht hp, ?_⟩
    rw [State.takeHangup_lanes]
    have hidles := State.idleLanes_idles (OpLane.holdsCall_not_idle f.origin callId) .callerHungUp
      ((s.reached p f).removeOffer f.origin callId)
    have hlane := State.idleLanes_lane (OpLane.holdsCall_not_idle f.origin callId) .callerHungUp
      ((s.reached p f).removeOffer f.origin callId)
    generalize State.idleLanes _ _ _ = t at hidles hlane ⊢
    obtain ⟨hparts, hoffers, hid, -⟩ := hidles.parts
    obtain ⟨changed, hremoved⟩ := State.removeOffer_eq f.origin callId (s.reached p f)
    obtain ⟨ports, map, deferred, toll, faults, lineFlag, hreached⟩ := s.reached_eq p f
    rw [hremoved, hreached] at hparts hoffers hid hlane
    rw [hreached]
    refine ⟨hparts, hoffers, hid, fun l => ⟨fun hnamed => (hlane l).1 (OpLane.holdsCall_iff.2 hnamed), fun hnamed => ?_⟩⟩
    exact (hlane l).2 (Bool.eq_false_iff.2 fun h => hnamed (OpLane.holdsCall_iff.1 h))

end Sys2Proof.Machine
end

section
/-! TAKE_CALL and END_CALL (R77, R82), and the timers of an operator lane (R78, R79). -/
namespace Sys2Proof.Machine
open Sys2Proof

section
variable {origin : Nat} {callId : Byte} {l : Fin 2} {s : State}

/-- The lane has taken a listed offer, its TAKE not yet offered (R77). -/
def State.nowTaking (l : Fin 2) (o : Offer) (origin : Nat) (callId : Byte) (s : State) : State :=
  { s with
    callUnit := { s.callUnit with
      offers := s.callUnit.offers.filter fun x => !x.hasKey origin callId
      offersChanged := true
      callsChanged := true
      lanes := s.callUnit.lanes.set l
        { state := .taking, call := some ⟨origin, callId, o.circuit, o.port⟩, takeSends := some 1,
          takeTimer := some (s.now + 2000), silenceTimer := none, outcome := .none, changedAt := s.now } }
    playout := { s.playout with
      lanes := s.playout.lanes.set l { s.playout.lanes[l] with store := emptyStore, sendTimer := none } } }

section
variable {args : List Word} (hargs : parseTakeCall args = some (origin, callId, l))
include hargs

theorem takeCallBody_unfitted (h : s.config.lanes ≤ l.val) : takeCallBody args s = (.badArgument, .none, s) := by
  have hfit : s.laneFitted l = false := by simpa [State.laneFitted] using h
  simp only [takeCallBody, hargs, if_pos hfit]

theorem takeCallBody_busy (h : l.val < s.config.lanes) (hst : s.callUnit.lanes[l].state ≠ .idle) :
    takeCallBody args s = (.busy, .none, s) := by
  have hfit : ¬s.laneFitted l = false := by simpa [State.laneFitted] using h
  simp only [takeCallBody, hargs, if_neg hfit, if_pos hst]

variable (h : l.val < s.config.lanes) (hst : s.callUnit.lanes[l].state = .idle)
include h hst

theorem takeCallBody_unlisted (hun : ∀ o ∈ s.callUnit.offers, o.hasKey origin callId = false) :
    takeCallBody args s = (.notFound, .none, s) := by
  have hfit : ¬s.laneFitted l = false := by simpa [State.laneFitted] using h
  have hnone : (s.callUnit.offers.find? fun o => o.hasKey origin callId) = none :=
    List.find?_eq_none.2 fun o ho => by simpa using hun o ho
  simp only [takeCallBody, hargs, if_neg hfit, if_neg (not_not.2 hst), hnone]

theorem takeCallBody_takes {o : Offer} (ho : (s.callUnit.offers.find? fun o => o.hasKey origin callId) = some o) :
    takeCallBody args s =
      (.ok, .none,
        (s.nowTaking l o origin callId).sendOneOff (.take l) (s.newFrame .take origin 63 [callId, byteOf l.val])) := by
  have hfit : ¬s.laneFitted l = false := by simpa [State.laneFitted] using h
  have hremoved := State.removeOffer_listed (List.mem_of_find?_eq_some ho) (by simpa using List.find?_some ho)
  have htaking : (LaneState.taking) ≠ ((s.removeOffer origin callId).markCalls).callUnit.lanes[l].state := by
    rw [hremoved]
    exact fun e => absurd (e.trans hst) (by decide)
  simp only [takeCallBody, hargs, if_neg hfit, if_neg (not_not.2 hst), ho]
  rw [State.putLane_changes htaking, hremoved]
  have hnow : ∀ (u : State), u = s.nowTaking l o origin callId →
      u.sendTake l origin callId =
        (s.nowTaking l o origin callId).sendOneOff (.take l) (s.newFrame .take origin 63 [callId, byteOf l.val]) := by
    rintro u rfl
    rfl
  rw [hnow]
  simp [State.nowTaking, State.playoutAfterLane, State.markCalls, State.modCallUnit, State.startTimer]

end

/-! ### END_CALL (R82) -/

theorem parseFin_of_toNat {n : Nat} {w : Nat} {l : Fin n} (h : w = l.val) : parseFin n w = some l := by
  rw [parseFin, dif_pos (by omega)]
  exact congrArg some (Fin.ext h)

variable {w : Word} (hw : w.toNat = l.val)
include hw

theorem endCallBody_unfitted (h : s.config.lanes ≤ l.val) : endCallBody [w] s = (.badArgument, .none, s) := by
  have hfit : s.laneFitted l = false := by simpa [State.laneFitted] using h
  simp only [endCallBody, parseFin_of_toNat hw, if_pos hfit]

theorem endCallBody_idle (h : l.val < s.config.lanes) (hst : s.callUnit.lanes[l].state = .idle) :
    endCallBody [w] s = (.ok, .none, s.markCalls) := by
  have hfit : ¬s.laneFitted l = false := by simpa [State.laneFitted] using h
  simp only [endCallBody, parseFin_of_toNat hw, if_neg hfit, if_pos hst]

theorem endCallBody_ends (h : l.val < s.config.lanes) (hst : s.callUnit.lanes[l].state ≠ .idle) :
    endCallBody [w] s = (.ok, .none, ((s.hangupCaller l).laneToIdle l .operatorEnded).markCalls) := by
  have hfit : ¬s.laneFitted l = false := by simpa [State.laneFitted] using h
  simp only [endCallBody, parseFin_of_toNat hw, if_neg hfit, if_neg hst]

end

/-- What a HANGUP to the caller does. -/
theorem State.hangupCaller_parts (l : Fin 2) (s : State) :
    let u := s.hangupCaller l
    u = { s with ports := u.ports, deferred := u.deferred, toll := u.toll } ∧
      (∀ c, s.callUnit.lanes[l].state = .taking ∨ s.callUnit.lanes[l].state = .talking → s.callUnit.lanes[l].call = some c →
        s.Offered (some .plain) (s.newFrame .hangup c.origin 63 [c.callId, 0]) u) ∧
      (s.callUnit.lanes[l].state = .lost → u = s) := by
  unfold State.hangupCaller
  dsimp only
  cases hcall : s.callUnit.lanes[l].call with
  | none => exact ⟨rfl, fun c _ hc => (nomatch hc), fun _ => rfl⟩
  | some c =>
    dsimp only
    by_cases hst : s.callUnit.lanes[l].state = .taking ∨ s.callUnit.lanes[l].state = .talking
    · obtain ⟨hparts, hoffered⟩ :=
        State.sendOneOff_steered .plain .hangup (by decide) c.origin 63 (hangupPayload c.callId false) s
      rw [if_pos hst]
      refine ⟨hparts, fun d _ hd => ?_, fun hlost => ?_⟩
      · cases hd
        exact hoffered
      · obtain hst | hst := hst <;> exact absurd (hst.symm.trans hlost) (by decide)
    · rw [if_neg hst]
      exact ⟨rfl, fun d h _ => absurd h hst, fun _ => rfl⟩

/-- Settles O24. -/
theorem operatorTakesAndEndsCalls : Obligations.OperatorTakesAndEndsCalls := by
  refine ⟨fun args s h => ?_, fun w l s h hw => ?_⟩
  · have hexec : exec (.takeCall args) s = .next (s.command .takeCall args (takeCallBody args)) := rfl
    rw [hexec, h.command_eq]
    refine ⟨fun hnone => ?_, fun origin callId l hargs => ⟨fun hfit => ?_, fun hfit hst => ?_, fun hfit hst hun => ?_,
      fun hfit hst o ho => ⟨_, rfl, ?_⟩⟩⟩
    · simp only [takeCallBody, hnone]
      rfl
    · rw [takeCallBody_unfitted hargs hfit]
      rfl
    · rw [takeCallBody_busy hargs hfit hst]
      rfl
    · rw [takeCallBody_unlisted hargs hfit hst hun]
      rfl
    · rw [takeCallBody_takes hargs hfit hst ho]
      obtain ⟨hparts, hoffered⟩ := State.sendOneOff_steered (.take l) .take (by decide) origin 63 [callId, byteOf l.val]
        (s.nowTaking l o origin callId)
      change State.sendOneOff _ (s.newFrame .take origin 63 [callId, byteOf l.val]) _ = _ at hparts
      change State.Offered _ (s.newFrame .take origin 63 [callId, byteOf l.val]) _
        (State.sendOneOff _ (s.newFrame .take origin 63 [callId, byteOf l.val]) _) at hoffered
      generalize State.sendOneOff _ _ _ = t at hparts hoffered ⊢
      refine ⟨?_, hoffered⟩
      rw [hparts]
      rfl
  · have hexec (v : Word) : exec (.endCall [v]) s = .next (s.command .endCall [v] (endCallBody [v])) := rfl
    have hcommand (v : Word) := State.Accepts.command_eq (args := [v]) h (endCallBody [v])
    simp only [hexec, hcommand]
    refine ⟨fun hfit => ?_, fun hfit hst => ?_, fun hfit hst => ?_, fun v hv => ?_⟩
    · rw [endCallBody_unfitted hw hfit]
      rfl
    · rw [endCallBody_idle hw hfit hst]
      rfl
    · obtain ⟨hparts, hoffered, hlost⟩ := s.hangupCaller_parts l
      refine ⟨_, _, rfl, ?_, hoffered, hlost⟩
      rw [endCallBody_ends hw hfit hst, State.laneToIdle_eq (by rw [hparts]; exact hst)]
      generalize s.hangupCaller l = u at hparts ⊢
      rw [hparts]
      rfl
    · have hnone : parseFin 2 v.toNat = none := dif_neg (by omega)
      simp only [endCallBody, hnone]
      rfl

end Sys2Proof.Machine
end

section
/-! The timers of an operator lane (R78, R79, R82), and the voice blocks that calls and lanes send (R89 to R91). -/
namespace Sys2Proof.Machine
open Sys2Proof

section
variable {l : Fin 2} {s : State} {due : Nat}

theorem exec_takeTimerExpiry (hheld : s.resetHeld = false) (htimer : s.callUnit.lanes[l].takeTimer = some due) :
    exec (.takeTimerExpiry l) s = .next ((s.clockTo due).takeTimerEnds l) := by
  change execTakeTimerExpiry l s = _
  rw [execTakeTimerExpiry, htimer, State.onTimer_running _ _ _ hheld]

theorem exec_laneSilenceTimerExpiry (hheld : s.resetHeld = false) (htimer : s.callUnit.lanes[l].silenceTimer = some due) :
    exec (.laneSilenceTimerExpiry l) s = .next ((s.clockTo due).laneToLost l .silence) := by
  change execLaneSilenceTimerExpiry l s = _
  rw [execLaneSilenceTimerExpiry, htimer, State.onTimer_running _ _ _ hheld]

/-- The lane has counted one more TAKE, which is not yet offered (R78). -/
def State.takeAgain (l : Fin 2) (sends : Nat) (s : State) : State :=
  { s with
    callUnit := { s.callUnit with
      lanes := s.callUnit.lanes.set l
        { s.callUnit.lanes[l] with takeSends := some (sends + 1), takeTimer := some (s.now + 2000) } } }

variable {c : LaneCall} {sends : Nat} (hc : s.callUnit.lanes[l].call = some c)
  (hsends : s.callUnit.lanes[l].takeSends = some sends)
include hc hsends

theorem State.takeTimerEnds_again (h : sends < 3) :
    s.takeTimerEnds l =
      (s.takeAgain l sends).sendOneOff (.take l) (s.newFrame .take c.origin 63 [c.callId, byteOf l.val]) := by
  simp only [State.takeTimerEnds, hc, hsends, Option.getD_some, if_pos h]
  rw [State.putLane_same (by rfl) (by rfl)]
  simp only [State.takeAgain, hc]
  rfl

theorem State.takeTimerEnds_last (h : 3 ≤ sends) : s.takeTimerEnds l = s.laneToLost l .noAnswer := by
  simp only [State.takeTimerEnds, hc, hsends, Option.getD_some, if_neg (Nat.not_lt.2 h)]

end

/-- Settles O25. -/
theorem laneTimersRunOut : Obligations.LaneTimersRunOut := by
  refine ⟨fun l s due c sends hheld htimer hst hc hsends => ⟨fun h => ⟨_, exec_takeTimerExpiry hheld htimer, ?_⟩, fun h => ?_⟩,
    fun l s due hheld htimer hst => ?_⟩
  · rw [State.takeTimerEnds_again (by exact hc) (by exact hsends) h]
    exact State.sendOneOff_steered (.take l) .take (by decide) c.origin 63 [c.callId, byteOf l.val]
      ((s.clockTo due).takeAgain l sends)
  · have hne : (s.clockTo due).callUnit.lanes[l].state ≠ .lost := by
      rw [State.clockTo_callUnit, hst]
      decide
    rw [exec_takeTimerExpiry hheld htimer, State.takeTimerEnds_last (by exact hc) (by exact hsends) h, State.laneToLost_eq hne]
    simp only [State.clockTo_callUnit, hc]
    rfl
  · have hne : (s.clockTo due).callUnit.lanes[l].state ≠ .lost := by
      rw [State.clockTo_callUnit, hst]
      decide
    rw [exec_laneSilenceTimerExpiry hheld htimer, State.laneToLost_eq hne]
    rfl

/-! ### Voice blocks (R89 to R91) -/

section
variable {p : Side} {f : Frame} {s : State} (hf : classOf f.kind = .voice) (hup : (s.ports.get p).isUp = true)
include hf hup

theorem State.offerPort_voice : s.offerPort p f = s.offerQueue p .vl f := by
  rw [State.offerPort, if_pos hup, hf]
  rfl

/-- Behind a frame being sent a voice block joins VL, which drops its oldest when it holds 4 (R31). -/
theorem State.sendOn_busy (hs : (s.ports.get p).sending.isSome = true) :
    s.sendOn p f =
      { s with
        ports := s.ports.set p
          { s.ports.get p with
            queues := { (s.ports.get p).queues with
              vl := (if (s.ports.get p).queues.vl.length < 4 then (s.ports.get p).queues.vl
                else (s.ports.get p).queues.vl.drop 1) ++ [f] } } } := by
  rw [State.sendOn, State.offerPort_voice hf hup]
  unfold State.offerQueue
  by_cases hroom : (s.ports.get p).queues.vl.length < 4
  · rw [Port.offer_waits (q := .vl) f hs hroom]
    simp only [if_pos hroom]
    exact State.settle_nil _
  · rw [Port.offer_drops (q := .vl) f hs rfl (Nat.not_lt.1 hroom)]
    simp only [if_neg hroom]
    exact State.settle_nil _

/-- An IDLE transmitter with nothing queued takes a voice block at once (R32). -/
theorem State.sendOn_idle (hs : (s.ports.get p).sending = none) (hempty : (s.ports.get p).queues = emptyQueues) :
    s.sendOn p f = { s with ports := s.ports.set p { s.ports.get p with sending := some f } } := by
  rw [State.sendOn, State.offerPort_voice hf hup]
  unfold State.offerQueue
  rw [Port.offer_idle .vl hs hempty (.inl hup)]
  simp only [Port.afterOffer, hs]
  rfl

end

theorem State.sendOn_down {p : Side} {f : Frame} {s : State} (hdown : (s.ports.get p).isUp = false) : s.sendOn p f = s := by
  rw [State.sendOn, State.offerPort, if_neg (by rw [hdown]; decide)]
  rfl

section
variable {s : State} {due : Nat}

/-- The send sequence of a call box port goes on, and its send timer restarts (R90). -/
def State.boxCounted (b : Fin 4) (s : State) : Playout :=
  { s.playout with
    boxes := s.playout.boxes.set b
      { s.playout.boxes[b] with sendSeq := s.playout.boxes[b].sendSeq + 1, sendTimer := some (s.now + 20) } }

/-- The send sequence of a lane goes on, and its send timer restarts (R91). -/
def State.laneCounted (l : Fin 2) (s : State) : Playout :=
  { s.playout with
    lanes := s.playout.lanes.set l
      { s.playout.lanes[l] with sendSeq := s.playout.lanes[l].sendSeq + 1, sendTimer := some (s.now + 20) } }

/-- The voice block that was built is offered to its port. -/
def State.sendVoice (v : Option (Side × Frame)) (s : State) : State :=
  match v with
  | some (p, f) => s.sendOn p f
  | none => s

theorem State.sendVoice_some {v : Option (Side × Frame)} {p : Side} {f : Frame} {t : State} (hv : v = some (p, f))
    (h : s.sendOn p f = t) : s.sendVoice v = t := by rw [hv]; exact h

theorem State.sendVoice_none {v : Option (Side × Frame)} (hv : v = none) : s.sendVoice v = s := by rw [hv]; rfl

theorem State.newFrame_voice (target limit : Nat) (payload : List Byte) (s : State) :
    classOf (s.newFrame .voice target limit payload).kind = .voice := rfl

/-- The two send timers' expiry: the frame built is offered, then the sequence goes on. -/
theorem exec_callBoxSendTimerExpiry {b : Fin 4} (samples : Vector Byte 160) (hheld : s.resetHeld = false)
    (hdue : s.playout.boxes[b].sendTimer = some due) {t : State}
    (ht : (s.clockTo due).sendVoice ((s.clockTo due).boxVoice b samples) = t) (hplayout : t.playout = s.playout) :
    exec (.callBoxSendTimerExpiry b samples) s = .next { t with playout := (s.clockTo due).boxCounted b } := by
  change execCallBoxSendTimerExpiry b samples s = _
  rw [execCallBoxSendTimerExpiry, hdue, State.onTimer_running _ _ _ hheld]
  change (.next (((s.clockTo due).sendVoice ((s.clockTo due).boxVoice b samples)).modBoxAudio b fun a =>
    { a with sendSeq := a.sendSeq + 1, sendTimer := (s.clockTo due).startTimer 20 }) : Result) = _
  rw [ht]
  simp only [State.modBoxAudio, State.modPlayout, hplayout]
  rfl

theorem exec_laneSendTimerExpiry {l : Fin 2} (samples : Vector Byte 160) (hheld : s.resetHeld = false)
    (hdue : s.playout.lanes[l].sendTimer = some due) {t : State}
    (ht : (s.clockTo due).sendVoice ((s.clockTo due).laneVoice l samples) = t) (hplayout : t.playout = s.playout) :
    exec (.laneSendTimerExpiry l samples) s = .next { t with playout := (s.clockTo due).laneCounted l } := by
  change execLaneSendTimerExpiry l samples s = _
  rw [execLaneSendTimerExpiry, hdue, State.onTimer_running _ _ _ hheld]
  change (.next (((s.clockTo due).sendVoice ((s.clockTo due).laneVoice l samples)).modLaneAudio l fun a =>
    { a with sendSeq := a.sendSeq + 1, sendTimer := (s.clockTo due).startTimer 20 }) : Result) = _
  rw [ht]
  simp only [State.modLaneAudio, State.modPlayout, hplayout]
  rfl

theorem State.boxVoice_eq_some {b : Fin 4} {x : Partner} {callId : Byte} {c : Fin 16} (samples : Vector Byte 160)
    (hx : s.calls[b].partner = some x) (hid : s.calls[b].callId = some callId) (hc : s.Holds b c) :
    s.boxVoice b samples =
      some (x.port, s.newFrame .voice x.station 63
        ([circuitByte c, callId, s.playout.boxes[b].sendSeq] ++ samples.toList)) := by
  have hheld := State.heldCircuit_eq_some_iff.2 hc
  have hpayload : Voice.payload ⟨c, false, callId, s.playout.boxes[b].sendSeq, samples.toList⟩ =
      [circuitByte c, callId, s.playout.boxes[b].sendSeq] ++ samples.toList := by
    simp [Voice.payload]
  simp only [State.boxVoice, hx, hid, hheld, Option.bind_eq_bind, Option.bind_some, hpayload]

theorem State.boxVoice_eq_none {b : Fin 4} (samples : Vector Byte 160) (h : ∀ c, ¬s.Holds b c) :
    s.boxVoice b samples = none := by
  simp only [State.boxVoice, State.heldCircuit_eq_none_iff.2 h]
  cases s.calls[b].partner <;> rfl

end

/-- Settles O26. -/
theorem voiceBlocksAreSentAndCounted : Obligations.VoiceBlocksAreSentAndCounted := by
  refine ⟨fun b samples s due hheld hdue => ⟨fun x callId c hx hid hc => ?_, fun hno => ?_⟩,
    fun l samples s due c hheld hdue hc => ?_⟩
  · have hvoice := State.boxVoice_eq_some (s := s.clockTo due) samples hx hid hc
    refine ⟨fun hup hs => ?_, fun hup hs hempty => ?_, fun hdown => ?_⟩
    · rw [exec_callBoxSendTimerExpiry samples hheld hdue
        (State.sendVoice_some hvoice (State.sendOn_busy (s := s.clockTo due) (State.newFrame_voice _ _ _ _) hup hs)) rfl]
      rfl
    · rw [exec_callBoxSendTimerExpiry samples hheld hdue
        (State.sendVoice_some hvoice (State.sendOn_idle (s := s.clockTo due) (State.newFrame_voice _ _ _ _) hup hs hempty)) rfl]
      rfl
    · rw [exec_callBoxSendTimerExpiry samples hheld hdue
        (State.sendVoice_some hvoice (State.sendOn_down (s := s.clockTo due) hdown)) rfl]
      rfl
  · rw [exec_callBoxSendTimerExpiry samples hheld hdue
      (State.sendVoice_none (State.boxVoice_eq_none (s := s.clockTo due) samples hno)) rfl]
    rfl
  · have hvoice : (s.clockTo due).laneVoice l samples =
        some (c.port, s.newFrame .voice c.origin 63
          ([circuitByte c.circuit ||| 0x80, c.callId, s.playout.lanes[l].sendSeq] ++ samples.toList)) := by
      simp only [State.laneVoice, State.clockTo_callUnit, hc, Option.map_some]
      rfl
    refine ⟨fun hup hs => ?_, fun hup hs hempty => ?_, fun hdown => ?_⟩
    · rw [exec_laneSendTimerExpiry samples hheld hdue
        (State.sendVoice_some hvoice (State.sendOn_busy (s := s.clockTo due) (State.newFrame_voice _ _ _ _) hup hs)) rfl]
      rfl
    · rw [exec_laneSendTimerExpiry samples hheld hdue
        (State.sendVoice_some hvoice (State.sendOn_idle (s := s.clockTo due) (State.newFrame_voice _ _ _ _) hup hs hempty)) rfl]
      rfl
    · rw [exec_laneSendTimerExpiry samples hheld hdue
        (State.sendVoice_some hvoice (State.sendOn_down (s := s.clockTo due) hdown)) rfl]
      rfl

end Sys2Proof.Machine
end

section
/-! A voice block arrives: it is shown to the circuit unit (R12, R54) and, at the station it is for, reaches its listener (R70,
R78, R81, R93). -/
namespace Sys2Proof.Machine
open Sys2Proof

/-! ### The frame's way (R7 to R12) -/

section
variable {p : Side} {bytes : List Byte} {f : Frame} {s : State}

theorem State.heard_eq (p : Side) (f : Frame) (s : State) :
    ∃ ports map deferred toll lineFlag,
      s.heard p f = { s with ports := ports, map := map, deferred := deferred, toll := toll, lineFlag := lineFlag } := by
  obtain ⟨_, flag, _, _, _, hrecorded, -⟩ := State.recordOutcome_lineWork p true s
  rw [State.heard, hrecorded]
  exact ⟨_, _, _, _, flag, rfl⟩

theorem State.CallWork.frame {s t : State} (h : s.CallWork t) : t.number = s.number ∧ t.joined = s.joined ∧ t.now = s.now := by
  obtain ⟨_, _, _, _, _, _, ⟨_, _, _, rfl, -⟩, rfl⟩ := h
  exact ⟨rfl, rfl, rfl⟩

theorem State.heard_frame (p : Side) (f : Frame) (s : State) :
    (s.heard p f).number = s.number ∧ (s.heard p f).joined = s.joined ∧ (s.heard p f).now = s.now := by
  obtain ⟨_, _, _, _, _, h⟩ := s.heard_eq p f
  rw [h]
  exact ⟨rfl, rfl, rfl⟩

/-- A VOICE frame that arrives is shown to the circuit unit, relayed and taken, and makes no image due. -/
theorem State.Arrives.exec_voice (h : s.Arrives p bytes f) (hj : s.joined = true) (hk : f.kind = FrameKind.voice.code) :
    exec (.lineFrameArrives p bytes) s =
      .next ((((s.heard p f).showVoice f.counted).relay p f.counted).takeLocally p f.counted) := by
  obtain ⟨hheld, he, hu, hparse, ho⟩ := h
  obtain ⟨hnumber, -⟩ := s.recordOutcome_frame p true
  have hjoined : (s.heard p f).joined = true := (s.heard_frame p f).2.1.trans hj
  have hgood : s.receive p (parseFrame bytes) =
      (((s.heard p f).showVoice f.counted).relay p f.counted).takeLocally p f.counted := by
    rw [hparse, s.receive_some_of_isUp p f he hu, State.goodFrame, if_neg (by rw [hnumber]; exact ho)]
    dsimp only
    rw [if_pos ⟨hjoined, hk⟩]
    rfl
  have htaken (u : State) : u.CallWork (u.takeLocally p f.counted) := by
    rw [State.takeLocally, show f.counted.kind = FrameKind.voice.code from hk, kindOf_code]
    dsimp only
    split
    · simp only [State.handTo, State.taking]
      split
      · exact .rfl' u
      · exact State.takeVoice_callWork _ _ _ u
    · exact .rfl' u
  have himages (g : Face) :
      ((((s.heard p f).showVoice f.counted).relay p f.counted).takeLocally p f.counted).imageKey g = s.imageKey g := by
    rw [(htaken _).imageKey g]
    obtain ⟨_, _, _, _, hrelay⟩ := ((s.heard p f).showVoice f.counted).relay_eq p f.counted
    obtain ⟨_, _, _, _, _, hheard⟩ := s.heard_eq p f
    rw [hrelay]
    refine ((State.showVoice_callWork f.counted (s.heard p f)).imageKey g).trans ?_
    rw [hheard]
    rfl
  rw [exec_lineFrameArrives p bytes s hheld]
  simp only [State.withImages, hgood]
  exact congrArg _ (State.withImages_of_imageKey_eq (s := s) (act := fun _ => State.takeLocally p f.counted _) himages)

/-- A VOICE frame for another station is relayed and not taken. -/
theorem State.Arrives.exec_voice_other (h : s.Arrives p bytes f) (hj : s.joined = true) (hk : f.kind = FrameKind.voice.code)
    (ht : f.target ≠ s.number) :
    exec (.lineFrameArrives p bytes) s = .next (((s.heard p f).showVoice f.counted).relay p f.counted) := by
  have hnumber : (((s.heard p f).showVoice f.counted).relay p f.counted).number = s.number := by
    obtain ⟨_, _, _, _, hrelay⟩ := ((s.heard p f).showVoice f.counted).relay_eq p f.counted
    rw [hrelay]
    exact (State.showVoice_callWork f.counted (s.heard p f)).frame.1.trans (s.heard_frame p f).1
  have hnot : State.takesKind .voice f.counted (((s.heard p f).showVoice f.counted).relay p f.counted) = false := by
    simp only [State.takesKind, Bool.and_eq_false_iff]
    refine .inr (beq_eq_false_iff_ne.2 ?_)
    rw [hnumber]
    exact ht
  rw [h.exec_voice hj hk, State.takeLocally, show f.counted.kind = FrameKind.voice.code from hk, kindOf_code]
  simp only [hnot, Bool.false_eq_true, if_false]

/-- A VOICE frame for this station is not relayed; it is taken when its payload is in range. -/
theorem State.Arrives.exec_voice_own (h : s.Arrives p bytes f) (hj : s.joined = true) (hk : f.kind = FrameKind.voice.code)
    (ht : f.target = s.number) :
    exec (.lineFrameArrives p bytes) s =
      .next (((s.heard p f).showVoice f.counted).taking (parseVoice f.payload)
        fun v s => s.takeVoice p f.origin v) := by
  obtain ⟨hnumber, hjoined, -⟩ := (State.showVoice_callWork f.counted (s.heard p f)).frame
  obtain ⟨hnumber', hjoined', -⟩ := s.heard_frame p f
  have hown : f.counted.target = ((s.heard p f).showVoice f.counted).number := (ht.trans hnumber'.symm).trans hnumber.symm
  have htakes : State.takesKind .voice f.counted ((s.heard p f).showVoice f.counted) = true := by
    simp only [State.takesKind, Bool.and_eq_true]
    exact ⟨(hjoined.trans hjoined').trans hj, beq_iff_eq.2 hown⟩
  rw [h.exec_voice hj hk, State.relay_none (.inl hown), State.takeLocally_eq_handTo p (show f.counted.kind = _ from hk) htakes]
  rfl

end

/-! ### What a voice block makes of the calls -/

section
variable (origin : Nat) (v : Voice) (s : State)

/-- What a block toward the call boxes can change. -/
def State.Hears (s t : State) : Prop := ∃ calls playout, t = { s with calls := calls, playout := playout }

theorem State.Hears.rfl' (s : State) : s.Hears s := ⟨_, _, rfl⟩

theorem State.Hears.trans {s t u : State} (h : s.Hears t) (k : t.Hears u) : s.Hears u := by
  obtain ⟨_, _, rfl⟩ := h
  obtain ⟨_, _, rfl⟩ := k
  exact ⟨_, _, rfl⟩

theorem State.Hears.parts {s t : State} (h : s.Hears t) : t = { s with calls := t.calls, playout := t.playout } := by
  obtain ⟨_, _, rfl⟩ := h
  rfl

/-- The call at this port is CONNECTED with this station under the block's call id (R70). -/
def State.HearsAt (b : Fin 4) (s : State) : Prop :=
  s.calls[b].state = .connected ∧ (∃ x, s.calls[b].partner = some x ∧ x.station = origin) ∧
    s.calls[b].callId = some v.callId

theorem State.voiceAtBox_hears (b : Fin 4) (h : s.HearsAt origin v b) :
    s.voiceAtBox origin v b =
      { s with
        calls := s.calls.set b { s.calls[b] with silenceTimer := some (s.now + 2000) }
        playout := { s.playout with
          boxes := s.playout.boxes.set b
            { s.playout.boxes[b] with store := s.playout.boxes[b].store.arrive ⟨v.sequence, v.samples⟩ } } } := by
  obtain ⟨hst, ⟨x, hx, hs⟩, hid⟩ := h
  have hpartner : (s.calls[b].partner.elim false fun q => q.station == origin) = true := by
    rw [hx, Option.elim_some, hs, beq_self_eq_true]
  exact if_pos ⟨hst, hpartner, hid⟩

theorem State.voiceAtBox_ignores (b : Fin 4) (h : ¬s.HearsAt origin v b) : s.voiceAtBox origin v b = s := by
  refine if_neg fun ⟨hst, hpartner, hid⟩ => h ⟨hst, ?_, hid⟩
  cases hx : s.calls[b].partner with
  | none => rw [hx] at hpartner; cases hpartner
  | some x =>
    rw [hx, Option.elim_some, beq_iff_eq] at hpartner
    exact ⟨x, rfl, hpartner⟩

/-- A block is shown to every call box port. -/
@[irreducible] def State.voiceAtBoxes : State := boxIndices.foldl (fun s b => s.voiceAtBox origin v b) s

theorem State.takeVoice_toward (p : Side) (h : v.toward = true) : s.takeVoice p origin v = s.voiceAtBoxes origin v := by
  rw [State.takeVoice, if_pos h, State.voiceAtBoxes]

theorem State.voiceAtBox_work (b : Fin 4) : s.Hears (s.voiceAtBox origin v b) := by
  by_cases h : s.HearsAt origin v b
  · rw [State.voiceAtBox_hears origin v s b h]
    exact ⟨_, _, rfl⟩
  · rw [State.voiceAtBox_ignores origin v s b h]
    exact .rfl' s

theorem State.voiceAtBoxes_work : s.Hears (s.voiceAtBoxes origin v) := by
  rw [State.voiceAtBoxes]
  exact List.foldlRecOn (motive := fun t : State => s.Hears t) _ _ (.rfl' s)
    fun t ht b _ => ht.trans (State.voiceAtBox_work origin v t b)

/-- What a block toward the call boxes leaves of each call. -/
theorem State.voiceAtBoxes_box (b : Fin 4) :
    let t := s.voiceAtBoxes origin v
    (s.HearsAt origin v b →
      t.calls[b] = { s.calls[b] with silenceTimer := some (s.now + 2000) } ∧
        t.playout.boxes[b] =
          { s.playout.boxes[b] with store := s.playout.boxes[b].store.arrive ⟨v.sequence, v.samples⟩ }) ∧
      (¬s.HearsAt origin v b → t.calls[b] = s.calls[b] ∧ t.playout.boxes[b] = s.playout.boxes[b]) := by
  obtain ⟨u, hu, hsame, hview, -⟩ := foldl_visit (R := State.Hears)
    (view := fun s (b : Fin 4) => (s.calls[b], s.playout.boxes[b])) (j := b)
    State.Hears.rfl' State.Hears.trans (fun s b => State.voiceAtBox_work origin v s b) (fun s i j hij => by
      by_cases h : s.HearsAt origin v i
      · rw [State.voiceAtBox_hears origin v s i h]
        simp only [Vector.getElem_set_fin_ne _ _ hij]
      · rw [State.voiceAtBox_ignores origin v s i h]) boxIndices s (by decide) (boxIndices_all b)
  rw [← State.voiceAtBoxes.eq_1 origin v s] at hview
  generalize s.voiceAtBoxes origin v = t at hview ⊢
  obtain ⟨hcall, haudio⟩ := Prod.mk.inj hsame
  obtain ⟨hcall', haudio'⟩ := Prod.mk.inj hview
  have hiff : u.HearsAt origin v b ↔ s.HearsAt origin v b := by simp only [State.HearsAt, hcall]
  refine ⟨fun hyes => ?_, fun hno => ?_⟩
  · rw [State.voiceAtBox_hears origin v u b (hiff.2 hyes)] at hcall' haudio'
    rw [hcall', haudio']
    have hnow : u.now = s.now := by rw [hu.parts]
    simp only [Vector.getElem_set_fin_self, hcall, haudio, hnow, and_self]
  · rw [State.voiceAtBox_ignores origin v u b fun h => hno (hiff.1 h)] at hcall' haudio'
    exact ⟨hcall'.trans hcall, haudio'.trans haudio⟩

end

end Sys2Proof.Machine
end

section
/-! A voice block from a call box reaches the operator lanes (R78, R79, R81), and the statement on listeners. -/
namespace Sys2Proof.Machine
open Sys2Proof

/-! ### What a voice block makes of the lanes -/

/-- What a block from a call box can change. -/
def State.Listens (s t : State) : Prop :=
  ∃ callUnit lanes,
    t = { s with callUnit := callUnit, playout := { s.playout with lanes := lanes } } ∧
      (s.callUnit.callsChanged = true → callUnit.callsChanged = true)

theorem State.Listens.rfl' (s : State) : s.Listens s := ⟨_, _, rfl, id⟩

theorem State.Listens.trans {s t u : State} (h : s.Listens t) (k : t.Listens u) : s.Listens u := by
  obtain ⟨_, _, rfl, hchanged⟩ := h
  obtain ⟨_, _, rfl, kchanged⟩ := k
  exact ⟨_, _, rfl, fun h => kchanged (hchanged h)⟩

theorem State.Listens.parts {s t : State} (h : s.Listens t) :
    t = { s with callUnit := t.callUnit, playout := t.playout } ∧ t.playout.boxes = s.playout.boxes ∧ t.now = s.now ∧
      (s.callUnit.callsChanged = true → t.callUnit.callsChanged = true) := by
  obtain ⟨_, _, rfl, hchanged⟩ := h
  exact ⟨rfl, rfl, rfl, hchanged⟩

section
variable (p : Side) (origin : Nat) (v : Voice) (l : Fin 2) (s : State)

/-- The lane's record while it talks with the block's call (R81). -/
def State.talked : OpLane :=
  { s.callUnit.lanes[l] with
    state := .talking, call := some ⟨origin, v.callId, v.circuit, p⟩, takeSends := none, takeTimer := none,
    silenceTimer := some (s.now + 2000) }

/-- A TAKING lane of the call begins to talk (R78). -/
def State.beginsTalking : State :=
  { s with
    callUnit := { s.callUnit with
      callsChanged := true, lanes := s.callUnit.lanes.set l { s.talked p origin v l with changedAt := s.now } }
    playout := { s.playout with
      lanes := s.playout.lanes.set l
        { s.playout.lanes[l] with
          store := emptyStore.arrive ⟨v.sequence, v.samples⟩, sendSeq := 0, sendTimer := some (s.now + 20) } } }

/-- A TALKING lane hears another block (R79). -/
def State.goesOnTalking : State :=
  { s with
    callUnit := { s.callUnit with lanes := s.callUnit.lanes.set l (s.talked p origin v l) }
    playout := { s.playout with
      lanes := s.playout.lanes.set l
        { s.playout.lanes[l] with store := s.playout.lanes[l].store.arrive ⟨v.sequence, v.samples⟩ } } }

variable {p origin v l s}

theorem State.voiceAtLane_taking (hst : s.callUnit.lanes[l].state = .taking)
    (hcall : s.callUnit.lanes[l].hasCall origin v.callId = true) :
    s.voiceAtLane p origin v l = s.beginsTalking p origin v l := by
  have hne : (LaneState.talking) ≠ s.callUnit.lanes[l].state := by rw [hst]; decide
  have hif : (s.callUnit.lanes[l].state = .taking ∨ s.callUnit.lanes[l].state = .talking) ∧
      s.callUnit.lanes[l].hasCall origin v.callId = true := ⟨.inl hst, hcall⟩
  simp only [State.voiceAtLane, if_pos hif]
  rw [State.putLane_changes hne]
  simp only [State.playoutAfterLane, hst, ne_eq, reduceCtorEq, not_false_eq_true, and_self, or_self, if_true, if_false,
    State.modLaneAudio, State.modPlayout, Vector.getElem_set_fin_self, Vector.set_set, State.beginsTalking]
  rfl

theorem State.voiceAtLane_talking (hst : s.callUnit.lanes[l].state = .talking)
    (hcall : s.callUnit.lanes[l].hasCall origin v.callId = true) :
    s.voiceAtLane p origin v l = s.goesOnTalking p origin v l := by
  have hif : (s.callUnit.lanes[l].state = .taking ∨ s.callUnit.lanes[l].state = .talking) ∧
      s.callUnit.lanes[l].hasCall origin v.callId = true := ⟨.inr hst, hcall⟩
  simp only [State.voiceAtLane, if_pos hif]
  rw [State.putLane_same (by exact hst.symm) (by rfl)]
  rfl

theorem State.voiceAtLane_ignores
    (h : s.callUnit.lanes[l].hasCall origin v.callId = false ∨
      s.callUnit.lanes[l].state ≠ .taking ∧ s.callUnit.lanes[l].state ≠ .talking) : s.voiceAtLane p origin v l = s := by
  refine if_neg fun ⟨hst, hcall⟩ => ?_
  obtain h | ⟨htaking, htalking⟩ := h
  · exact absurd (h.symm.trans hcall) (by decide)
  · exact hst.elim htaking htalking

variable (p origin v l s)

/-- All that a block can do at a lane. -/
theorem State.voiceAtLane_cases :
    s.voiceAtLane p origin v l = s.beginsTalking p origin v l ∨ s.voiceAtLane p origin v l = s.goesOnTalking p origin v l ∨
      s.voiceAtLane p origin v l = s := by
  cases hcall : s.callUnit.lanes[l].hasCall origin v.callId with
  | false => exact .inr (.inr (State.voiceAtLane_ignores (.inl hcall)))
  | true =>
    by_cases htaking : s.callUnit.lanes[l].state = .taking
    · exact .inl (State.voiceAtLane_taking htaking hcall)
    · by_cases htalking : s.callUnit.lanes[l].state = .talking
      · exact .inr (.inl (State.voiceAtLane_talking htalking hcall))
      · exact .inr (.inr (State.voiceAtLane_ignores (.inr ⟨htaking, htalking⟩)))

theorem State.voiceAtLane_listens : s.Listens (s.voiceAtLane p origin v l) := by
  obtain h | h | h := State.voiceAtLane_cases p origin v l s <;> rw [h]
  · exact ⟨_, _, rfl, fun _ => rfl⟩
  · exact ⟨_, _, rfl, id⟩
  · exact .rfl' s

theorem State.voiceAtLane_other {k : Fin 2} (hlk : l ≠ k) :
    ((s.voiceAtLane p origin v l).callUnit.lanes[k], (s.voiceAtLane p origin v l).playout.lanes[k]) =
      (s.callUnit.lanes[k], s.playout.lanes[k]) := by
  obtain h | h | h := State.voiceAtLane_cases p origin v l s <;> rw [h]
  · simp only [State.beginsTalking, Vector.getElem_set_fin_ne _ _ hlk]
  · simp only [State.goesOnTalking, Vector.getElem_set_fin_ne _ _ hlk]

/-- A block is shown to both lanes. -/
@[irreducible] def State.voiceAtLanes : State := laneIndices.foldl (fun s l => s.voiceAtLane p origin v l) s

theorem State.takeVoice_from (h : v.toward = false) : s.takeVoice p origin v = s.voiceAtLanes p origin v := by
  rw [State.takeVoice, if_neg (by rw [h]; decide), State.voiceAtLanes]

theorem State.voiceAtLanes_listens : s.Listens (s.voiceAtLanes p origin v) := by
  rw [State.voiceAtLanes]
  exact List.foldlRecOn (motive := fun t : State => s.Listens t) _ _ (.rfl' s)
    fun t ht l _ => ht.trans (State.voiceAtLane_listens p origin v l t)

/-- What a block from a call box leaves of each lane. -/
theorem State.voiceAtLanes_lane :
    let t := s.voiceAtLanes p origin v
    (s.callUnit.lanes[l].state = .taking → s.callUnit.lanes[l].hasCall origin v.callId = true →
      t.callUnit.lanes[l] = { s.talked p origin v l with changedAt := s.now } ∧ t.callUnit.callsChanged = true ∧
        t.playout.lanes[l].store = ⟨.prefill, [⟨v.sequence, v.samples⟩], none, 0⟩ ∧ t.playout.lanes[l].sendSeq = 0 ∧
        t.playout.lanes[l].sendTimer = some (s.now + 20)) ∧
      (s.callUnit.lanes[l].state = .talking → s.callUnit.lanes[l].hasCall origin v.callId = true →
        t.callUnit.lanes[l] = s.talked p origin v l ∧
          t.playout.lanes[l] =
            { s.playout.lanes[l] with store := s.playout.lanes[l].store.arrive ⟨v.sequence, v.samples⟩ }) ∧
      (s.callUnit.lanes[l].hasCall origin v.callId = false →
        t.callUnit.lanes[l] = s.callUnit.lanes[l] ∧ t.playout.lanes[l] = s.playout.lanes[l]) := by
  obtain ⟨u, hu, hsame, hview, hR⟩ := foldl_visit (R := State.Listens)
    (view := fun s (l : Fin 2) => (s.callUnit.lanes[l], s.playout.lanes[l])) (j := l)
    State.Listens.rfl' State.Listens.trans (fun s l => State.voiceAtLane_listens p origin v l s)
    (fun s i j hij => State.voiceAtLane_other p origin v i s hij) laneIndices s (by decide) (laneIndices_all l)
  rw [← State.voiceAtLanes.eq_1 p origin v s] at hview hR
  generalize s.voiceAtLanes p origin v = t at hview hR ⊢
  obtain ⟨hlane, haudio⟩ := Prod.mk.inj hsame
  obtain ⟨hlane', haudio'⟩ := Prod.mk.inj hview
  obtain ⟨-, -, hnow, -⟩ := hu.parts
  have htalked : u.talked p origin v l = s.talked p origin v l := by simp only [State.talked, hlane, hnow]
  refine ⟨fun hst hcall => ?_, fun hst hcall => ?_, fun hcall => ?_⟩
  · rw [State.voiceAtLane_taking (hlane ▸ hst) (hlane ▸ hcall)] at hlane' haudio' hR
    obtain ⟨-, -, -, hchanged⟩ := hR.parts
    rw [hlane', haudio']
    simp only [State.beginsTalking, Vector.getElem_set_fin_self, htalked, hnow, hchanged rfl, true_and]
    exact ⟨rfl, trivial⟩
  · rw [State.voiceAtLane_talking (hlane ▸ hst) (hlane ▸ hcall)] at hlane' haudio'
    rw [hlane', haudio']
    simp only [State.goesOnTalking, Vector.getElem_set_fin_self, htalked, haudio, and_self]
  · rw [State.voiceAtLane_ignores (.inl (hlane ▸ hcall))] at hlane' haudio'
    exact ⟨hlane'.trans hlane, haudio'.trans haudio⟩

end

/-! ### Which frames are shown to the circuit unit (R54) -/

theorem parseVoice_shown {payload : List Byte} {v : Voice} (h : parseVoice payload = some v) :
    parseVoiceShown payload = some (v.circuit, v.toward) := by
  unfold parseVoice at h
  split at h
  next c toward hshown =>
    split at h
    · cases h
    · cases h
      exact hshown
  · cases h

theorem State.showVoice_none {f : Frame} {s : State} (h : ∀ c, parseVoiceShown f.payload ≠ some (c, false)) :
    s.showVoice f = s := by
  unfold State.showVoice
  split
  next c hc => exact absurd hc (h c)
  · rfl

theorem State.showVoice_some {f : Frame} {c : Fin 16} {s : State} (h : parseVoiceShown f.payload = some (c, false)) :
    s.showVoice f = s.takeClaim f.origin c true := by
  simp only [State.showVoice, h]

/-- The circuit has been given up to a rival; the call has none (R49, R55). -/
def State.givenUp (c : Fin 16) (b : Fin 4) (rival : Nat) (s : State) : State :=
  { s with
    circuits := s.circuits.set c (.heldOther rival s.now)
    calls := s.calls.set b { s.calls[b] with circuit := none }
    deferred := s.deferred.filter fun d => d.tag != .claim c }

/-- The circuit has been given up, and the yield is counted (R50). -/
def State.yielded (c : Fin 16) (b : Fin 4) (rival : Nat) (s : State) : State :=
  { s.givenUp c b rival with
    claims := s.claims.set b { s.claims[b] with yields := min 3 (s.claims[b].yields + 1) } }

/-- The circuit has been given up, and the claim begins afresh (R55). -/
def State.rehomed (c : Fin 16) (b : Fin 4) (rival : Nat) (s : State) : State :=
  { s.givenUp c b rival with claims := s.claims.set b ⟨true, 0, none⟩ }

theorem State.yieldCircuit_again {c : Fin 16} {b : Fin 4} {rival : Nat} {s : State} (h : s.claims[b].yields < 2) :
    s.yieldCircuit c b rival = (s.yielded c b rival).chooseCircuit b :=
  if_pos (show min 3 (s.claims[b].yields + 1) < 3 by omega)

theorem State.yieldCircuit_waits {c : Fin 16} {b : Fin 4} {rival : Nat} {s : State} (h : 2 ≤ s.claims[b].yields) :
    s.yieldCircuit c b rival =
      { s.givenUp c b rival with
        claims := s.claims.set b { s.claims[b] with yields := 3, wait := some (s.now + 1000) } } := by
  have hthird : min 3 (s.claims[b].yields + 1) = 3 := by omega
  have hwaits : s.yieldCircuit c b rival =
      (s.yielded c b rival).modClaim b fun r => { r with wait := some (s.now + 1000) } :=
    if_neg (show ¬min 3 (s.claims[b].yields + 1) < 3 by omega)
  rw [hwaits]
  simp only [State.yielded, State.modClaim, Vector.getElem_set_fin_self, Vector.set_set, hthird]

theorem State.rehome_eq (c : Fin 16) (b : Fin 4) (rival : Nat) (s : State) :
    s.rehome c b rival = (s.rehomed c b rival).chooseCircuit b := rfl

theorem State.takeClaim_keeps (rival : Nat) (c : Fin 16) (held : Bool) (s : State) :
    (s.takeClaim rival c held).callUnit = s.callUnit ∧ (s.takeClaim rival c held).playout = s.playout ∧
      (s.takeClaim rival c held).now = s.now := by
  have hchoose (b : Fin 4) (u : State) (hunit : u.callUnit = s.callUnit) (hplayout : u.playout = s.playout)
      (hnow : u.now = s.now) : (u.chooseCircuit b).callUnit = s.callUnit ∧ (u.chooseCircuit b).playout = s.playout ∧
      (u.chooseCircuit b).now = s.now := by
    have hparts := State.chooseCircuit_parts b u
    dsimp only at hparts
    rw [hparts]
    exact ⟨hunit, hplayout, hnow⟩
  unfold State.takeClaim
  split
  · exact ⟨rfl, rfl, rfl⟩
  · split <;> exact ⟨rfl, rfl, rfl⟩
  next b timer _ =>
    split
    · by_cases h : s.claims[b].yields < 2
      · rw [State.yieldCircuit_again h]
        exact hchoose b _ rfl rfl rfl
      · rw [State.yieldCircuit_waits (Nat.not_lt.1 h)]
        exact ⟨rfl, rfl, rfl⟩
    · rw [(State.sendOneOff_sends _ _ s).parts]
      exact ⟨rfl, rfl, rfl⟩
  next b refresh holdOff _ =>
    split
    · exact hchoose b _ rfl rfl rfl
    · unfold State.meetRival
      split
      · exact ⟨rfl, rfl, rfl⟩
      · obtain ⟨hparts, -⟩ := State.sendAssert_parts (b := b) (c := c) (s := s)
        rw [hparts]
        exact ⟨rfl, rfl, rfl⟩

theorem State.showVoice_keeps (f : Frame) (s : State) :
    (s.showVoice f).callUnit = s.callUnit ∧ (s.showVoice f).playout = s.playout ∧ (s.showVoice f).now = s.now := by
  unfold State.showVoice
  split
  · exact State.takeClaim_keeps _ _ _ s
  · exact ⟨rfl, rfl, rfl⟩

/-- Settles O27. -/
theorem voiceReachesItsListener : Obligations.VoiceReachesItsListener := by
  intro p bytes f v s h hj ht hp
  obtain ⟨hk, htarget⟩ := ht
  replace htarget : f.target = s.number := htarget.resolve_right (by simp)
  have hshown := parseVoice_shown hp
  obtain ⟨ports, map, deferred, toll, lineFlag, hheard⟩ := s.heard_eq p f
  have hreached : s.reached p f = s.heard p f :=
    State.relay_none (.inl (htarget.trans (s.heard_frame p f).1.symm))
  refine ⟨_, h.exec_voice_own hj hk htarget, fun htoward => ?_, fun htoward => ?_⟩
  · have hnone : (s.heard p f).showVoice f.counted = s.heard p f :=
      State.showVoice_none fun c hc => by
        rw [show f.counted.payload = f.payload from rfl, hshown, htoward] at hc
        cases hc
    rw [hnone, hreached, hp, State.taking, State.takeVoice_toward _ _ _ _ htoward]
    have hwork := State.voiceAtBoxes_work f.origin v (s.heard p f)
    have hbox := State.voiceAtBoxes_box f.origin v (s.heard p f)
    generalize State.voiceAtBoxes _ _ _ = t at hwork hbox ⊢
    refine ⟨hwork.parts, ?_⟩
    rw [hheard] at hbox
    exact hbox
  · rw [hp, State.taking, State.takeVoice_from _ _ _ _ htoward]
    have hlistens := State.voiceAtLanes_listens p f.origin v ((s.heard p f).showVoice f.counted)
    have hlane (l : Fin 2) := State.voiceAtLanes_lane p f.origin v l ((s.heard p f).showVoice f.counted)
    generalize State.voiceAtLanes _ _ _ _ = t at hlistens hlane ⊢
    obtain ⟨hparts, hboxes, -⟩ := hlistens.parts
    refine ⟨hparts, ?_⟩
    have hshow := State.showVoice_keeps f.counted (s.heard p f)
    generalize (s.heard p f).showVoice f.counted = u at hparts hboxes hlane hshow
    obtain ⟨hunit, hplayout, hnow⟩ := hshow
    rw [hheard] at hunit hplayout hnow
    rw [hboxes, hplayout]
    refine ⟨rfl, fun l => ?_⟩
    have := hlane l
    simp only [State.talked, hunit, hplayout, hnow] at this
    exact this

end Sys2Proof.Machine
end

section
/-! Rival claims (R49 to R51, R53, R55) and VOICE as a claim (R12, R54). -/
namespace Sys2Proof.Machine
open Sys2Proof

section
variable {c : Fin 16} {b : Fin 4} {rival : Nat} {held : Bool} {s : State}

/-! ### The cases of a rival CLAIM -/

section
variable {timer : Timer} (hc : s.circuits[c] = .claiming b timer)
include hc

theorem State.takeClaim_yields (h : held = true ∨ rival < s.number) : s.takeClaim rival c held = s.yieldCircuit c b rival := by
  simp only [State.takeClaim, hc, if_pos h]

theorem State.takeClaim_claims_again (hheld : held = false) (h : s.number < rival) :
    s.takeClaim rival c held = s.sendOneOff (.claim c) (s.broadcast63 .claim [circuitByte c, 0]) := by
  have hnot : ¬(held = true ∨ rival < s.number) := by
    rintro (h' | h')
    · exact absurd (hheld.symm.trans h') (by decide)
    · exact Nat.lt_asymm h h'
  simp only [State.takeClaim, hc, if_neg hnot]
  rfl

end

section
variable {refresh holdOff : Timer} (hc : s.circuits[c] = .heldOwn b refresh holdOff)
include hc

theorem State.takeClaim_rehomes (hheld : held = true) (h : rival < s.number) :
    s.takeClaim rival c held = (s.rehomed c b rival).chooseCircuit b := by
  simp only [State.takeClaim, hc, if_pos (And.intro hheld h)]
  rfl

theorem State.takeClaim_asserts (h : held = false ∨ s.number < rival) :
    s.takeClaim rival c held = if holdOff.isSome then s else s.sendAssert c b := by
  have hnot : ¬(held = true ∧ rival < s.number) := by
    rintro ⟨h1, h2⟩
    obtain h | h := h
    · exact absurd (h.symm.trans h1) (by decide)
    · exact Nat.lt_asymm h h2
  simp only [State.takeClaim, hc, if_neg hnot]
  rfl

end

/-! ### The choice after a circuit was given up -/

/-- A circuit that was not FREE and goes to a rival changes nothing in which circuits are FREE. -/
theorem State.free_of_given {t : State} (hc : s.circuits[c] ≠ .free)
    (ht : t.circuits = s.circuits.set c (.heldOther rival s.now)) (d : Fin 16) :
    t.circuits[d] = .free ↔ s.circuits[d] = .free := by
  rw [ht]
  by_cases hd : c = d
  · subst hd
    simp only [Vector.getElem_set_fin_self, reduceCtorEq, hc]
  · rw [Vector.getElem_set_fin_ne _ _ hd]

theorem State.lowestFree_of_given {t : State} (hc : s.circuits[c] ≠ .free)
    (ht : t.circuits = s.circuits.set c (.heldOther rival s.now)) {d : Fin 16} (h : s.LowestFree d) : t.LowestFree d :=
  ⟨(State.free_of_given hc ht d).2 h.1, fun e he hfree => h.2 e he ((State.free_of_given hc ht e).1 hfree)⟩

theorem State.noneFree_of_given {t : State} (hc : s.circuits[c] ≠ .free)
    (ht : t.circuits = s.circuits.set c (.heldOther rival s.now)) (h : s.NoneFree) : t.NoneFree :=
  fun d hfree => h d ((State.free_of_given hc ht d).1 hfree)

/-- A circuit in use by a station stays so while a call chooses. -/
theorem State.chooseCircuit_used {origin now : Nat} (b : Fin 4) (hc : s.circuits[c] = .heldOther origin now) :
    (s.chooseCircuit b).circuits[c] = .heldOther origin now := by
  cases h : s.lowestFree with
  | none => rw [State.chooseCircuit_none (State.lowestFree_eq_none_iff.1 h)]; exact hc
  | some d =>
    have hd := State.lowestFree_eq_some_iff.1 h
    have hne : d ≠ c := by
      rintro rfl
      exact nomatch (hd.1.symm.trans hc)
    obtain ⟨hparts, -⟩ := State.chooseCircuit_claims (b := b) hd
    rw [hparts]
    simp only [Vector.getElem_set_fin_ne _ _ hne, hc]

theorem State.yielded_used : (s.yielded c b rival).circuits[c] = .heldOther rival s.now := by
  simp only [State.yielded, State.givenUp, Vector.getElem_set_fin_self]

theorem State.rehomed_used : (s.rehomed c b rival).circuits[c] = .heldOther rival s.now := by
  simp only [State.rehomed, State.givenUp, Vector.getElem_set_fin_self]

/-- What a rival's CLAIM can change. -/
theorem State.takeClaim_parts (rival : Nat) (c : Fin 16) (held : Bool) (s : State) :
    let t := s.takeClaim rival c held
    t = { s with
      circuits := t.circuits, claims := t.claims, calls := t.calls, ports := t.ports, deferred := t.deferred
      toll := t.toll } := by
  have hchoose (b : Fin 4) (u : State)
      (hu : u = { s with circuits := u.circuits, claims := u.claims, calls := u.calls, deferred := u.deferred }) :
      u.chooseCircuit b = { s with
        circuits := (u.chooseCircuit b).circuits, claims := (u.chooseCircuit b).claims
        calls := (u.chooseCircuit b).calls, ports := (u.chooseCircuit b).ports
        deferred := (u.chooseCircuit b).deferred, toll := (u.chooseCircuit b).toll } := by
    have hparts := State.chooseCircuit_parts b u
    generalize u.chooseCircuit b = t at hparts
    rw [hparts, hu]
  dsimp only
  cases hc : s.circuits[c] with
  | free => rw [State.takeClaim_free held hc]
  | heldOther holder heardAt =>
    by_cases h : rival ≤ holder
    · rw [State.takeClaim_heldOther_of_le held hc h]
    · rw [State.takeClaim_heldOther_of_lt held hc (Nat.not_le.1 h)]
  | claiming b timer =>
    by_cases h : held = true ∨ rival < s.number
    · rw [State.takeClaim_yields hc h]
      by_cases hy : s.claims[b].yields < 2
      · rw [State.yieldCircuit_again hy]
        exact hchoose b _ rfl
      · rw [State.yieldCircuit_waits (Nat.not_lt.1 hy)]
        rfl
    · simp only [State.takeClaim, hc, if_neg h]
      rw [(State.sendOneOff_sends _ _ s).parts]
  | heldOwn b refresh holdOff =>
    by_cases h : held = true ∧ rival < s.number
    · rw [State.takeClaim_rehomes hc h.1 h.2]
      exact hchoose b _ rfl
    · simp only [State.takeClaim, hc, if_neg h, State.meetRival]
      split
      · rfl
      · obtain ⟨hparts, -⟩ := State.sendAssert_parts (b := b) (c := c) (s := s)
        rw [hparts]

end

/-! ### A rival CLAIM arrives -/

section
variable {c : Fin 16} {b : Fin 4} {rival : Nat} {held : Bool} (s : State)

/-- A CLAIM met by the station's own claim (R49, R50). -/
theorem State.takeClaim_claiming {timer : Timer} (hc : s.circuits[c] = .claiming b timer) (h : held = true ∨ rival < s.number) :
    let t := s.takeClaim rival c held
    t.circuits[c] = .heldOther rival s.now ∧
      (2 ≤ s.claims[b].yields →
        t.circuits = s.circuits.set c (.heldOther rival s.now) ∧
          t.calls = s.calls.set b { s.calls[b] with circuit := none } ∧
          t.claims = s.claims.set b { s.claims[b] with yields := 3, wait := some (s.now + 1000) } ∧
          t.ports = s.ports ∧ t.toll = s.toll) ∧
      (s.claims[b].yields < 2 → ∀ d, s.LowestFree d →
        t.circuits = (s.circuits.set c (.heldOther rival s.now)).set d (.claiming b (some (s.now + 40))) ∧
          t.calls = s.calls.set b { s.calls[b] with circuit := some d } ∧
          t.claims = s.claims.set b { s.claims[b] with yields := s.claims[b].yields + 1 } ∧
          (({ s with deferred := s.deferred.filter fun x => x.tag != .claim c } : State).Offered
            (some (.claim d)) (s.broadcast63 .claim [circuitByte d, 0]) t)) ∧
      (s.claims[b].yields < 2 → s.NoneFree →
        t.circuits = s.circuits.set c (.heldOther rival s.now) ∧
          t.calls = s.calls.set b { s.calls[b] with circuit := none } ∧
          t.claims = s.claims.set b
            { s.claims[b] with yields := s.claims[b].yields + 1, wait := some (s.now + 1000) }) := by
  have hfree : s.circuits[c] ≠ .free := by rw [hc]; exact fun e => nomatch e
  have hmin (hy : s.claims[b].yields < 2) : min 3 (s.claims[b].yields + 1) = s.claims[b].yields + 1 := by omega
  dsimp only
  rw [State.takeClaim_yields hc h]
  refine ⟨?_, fun hy => ?_, fun hy d hd => ?_, fun hy hnone => ?_⟩
  · by_cases hy : s.claims[b].yields < 2
    · rw [State.yieldCircuit_again hy]
      exact State.chooseCircuit_used b State.yielded_used
    · rw [State.yieldCircuit_waits (Nat.not_lt.1 hy)]
      exact State.yielded_used (b := b)
  · rw [State.yieldCircuit_waits hy]
    exact ⟨rfl, rfl, rfl, rfl, rfl⟩
  · rw [State.yieldCircuit_again hy]
    obtain ⟨hparts, hoffered⟩ :=
      State.chooseCircuit_claims (b := b) (State.lowestFree_of_given (t := s.yielded c b rival) hfree rfl hd)
    refine ⟨by rw [hparts]; rfl, ?_, ?_, hoffered⟩
    · rw [hparts]
      simp only [State.yielded, State.givenUp, Vector.getElem_set_fin_self, Vector.set_set]
    · rw [hparts]
      simp only [State.yielded, hmin hy]
  · rw [State.yieldCircuit_again hy,
      State.chooseCircuit_none (State.noneFree_of_given (t := s.yielded c b rival) hfree rfl hnone)]
    refine ⟨rfl, rfl, ?_⟩
    simp only [State.yielded, Vector.getElem_set_fin_self, Vector.set_set, hmin hy]
    rfl

/-- A held-clear CLAIM of a higher number draws the station's CLAIM once more (R49). -/
theorem State.takeClaim_claiming_kept {timer : Timer} (hc : s.circuits[c] = .claiming b timer) (hheld : held = false)
    (h : s.number < rival) :
    let t := s.takeClaim rival c held
    t.circuits = s.circuits ∧ t.claims = s.claims ∧ t.calls = s.calls ∧
      s.Offered (some (.claim c)) (s.broadcast63 .claim [circuitByte c, 0]) t := by
  obtain ⟨hparts, hoffered⟩ := State.sendOneOff_steered (.claim c) .claim (by decide) 0 63 [circuitByte c, 0] s
  dsimp only
  rw [State.takeClaim_claims_again hc hheld h]
  refine ⟨?_, ?_, ?_, hoffered⟩ <;> exact (congrArg _ hparts).trans rfl

/-- A rival met by a holding draws an assert, unless the hold-off runs (R51, R53). -/
theorem State.takeClaim_heldOwn_kept {refresh holdOff : Timer} (hc : s.circuits[c] = .heldOwn b refresh holdOff)
    (h : held = false ∨ s.number < rival) :
    let t := s.takeClaim rival c held
    t.claims = s.claims ∧ t.calls = s.calls ∧ (holdOff.isSome = true → t = s) ∧
      (holdOff = none →
        t.circuits = s.circuits.set c (.heldOwn b (some (s.now + 1000)) (some (s.now + 100))) ∧
          s.Offered (some (.claim c)) (s.broadcast63 .claim [circuitByte c, 1]) t) := by
  dsimp only
  rw [State.takeClaim_asserts hc h]
  cases holdOff with
  | some due => exact ⟨rfl, rfl, fun _ => rfl, fun h => (nomatch h)⟩
  | none =>
    obtain ⟨hparts, hoffered⟩ := State.sendAssert_parts (b := b) (c := c) (s := s)
    refine ⟨?_, ?_, fun h => (nomatch h), fun _ => ⟨?_, hoffered⟩⟩ <;> exact (congrArg _ hparts).trans rfl

/-- A CLAIM met by a holding that goes to a lower-numbered holder (R55). -/
theorem State.takeClaim_heldOwn_lost {refresh holdOff : Timer} (hc : s.circuits[c] = .heldOwn b refresh holdOff)
    (hheld : held = true) (h : rival < s.number) :
    let t := s.takeClaim rival c held
    t.circuits[c] = .heldOther rival s.now ∧ t.calls[b].state = s.calls[b].state ∧
      t.calls[b].partner = s.calls[b].partner ∧ t.claims[b].wanted = true ∧ t.claims[b].yields = 0 ∧
      (∀ d, s.LowestFree d →
        t.calls[b].circuit = some d ∧ t.circuits[d] = .claiming b (some (s.now + 40)) ∧ t.claims[b].wait = none) ∧
      (s.NoneFree → t.calls[b].circuit = none ∧ t.claims[b].wait = some (s.now + 1000)) := by
  have hfree : s.circuits[c] ≠ .free := by rw [hc]; exact fun e => nomatch e
  dsimp only
  rw [State.takeClaim_rehomes hc hheld h]
  refine ⟨State.chooseCircuit_used b State.rehomed_used, ?_⟩
  cases hlowest : s.lowestFree with
  | none =>
    have hnone := State.lowestFree_eq_none_iff.1 hlowest
    rw [State.chooseCircuit_none (State.noneFree_of_given (t := s.rehomed c b rival) hfree rfl hnone)]
    refine ⟨?_, ?_, ?_, ?_, fun d hd => absurd hd.1 (hnone d), fun _ => ⟨?_, ?_⟩⟩ <;>
      simp only [State.rehomed, State.givenUp, Vector.getElem_set_fin_self]
  | some d =>
    have hd := State.lowestFree_eq_some_iff.1 hlowest
    obtain ⟨hparts, -⟩ :=
      State.chooseCircuit_claims (b := b) (State.lowestFree_of_given (t := s.rehomed c b rival) hfree rfl hd)
    rw [hparts]
    refine ⟨?_, ?_, ?_, ?_, fun e he => ?_, fun hnone => absurd hd.1 (hnone d)⟩
    on_goal 5 =>
      obtain rfl : d = e := Option.some.inj (hlowest.symm.trans (State.lowestFree_eq_some_iff.2 he))
      refine ⟨?_, ?_, ?_⟩
    all_goals simp only [State.rehomed, State.givenUp, Vector.getElem_set_fin_self]

end

/-! ### A VOICE frame taken at the station it is for -/

/-- A block from a call box reaches the lanes alone. -/
theorem State.takingVoice_from (p : Side) (origin : Nat) {payload : List Byte} {c : Fin 16}
    (h : parseVoiceShown payload = some (c, false)) (s : State) :
    let t := s.taking (parseVoice payload) fun v s => s.takeVoice p origin v
    t = { s with callUnit := t.callUnit, playout := t.playout } := by
  cases hp : parseVoice payload with
  | none => rfl
  | some v =>
    have htoward : v.toward = false := (Prod.mk.inj (Option.some.inj ((parseVoice_shown hp).symm.trans h))).2
    simp only [State.taking, State.takeVoice_from _ _ _ _ htoward]
    obtain ⟨hparts, -⟩ := (State.voiceAtLanes_listens p origin v s).parts
    exact hparts

/-- Another block reaches the calls alone, and moves no call's state or circuit. -/
theorem State.takingVoice_toward (p : Side) (origin : Nat) {payload : List Byte}
    (h : ∀ c, parseVoiceShown payload ≠ some (c, false)) (s : State) :
    let t := s.taking (parseVoice payload) fun v s => s.takeVoice p origin v
    t = { s with calls := t.calls, callUnit := t.callUnit, playout := t.playout } ∧
      ∀ b : Fin 4, t.calls[b].state = s.calls[b].state ∧ t.calls[b].circuit = s.calls[b].circuit := by
  cases hp : parseVoice payload with
  | none => exact ⟨rfl, fun _ => ⟨rfl, rfl⟩⟩
  | some v =>
    have htoward : v.toward = true := by
      by_contra hno
      rw [Bool.not_eq_true] at hno
      exact h v.circuit (hno ▸ parseVoice_shown hp)
    simp only [State.taking, State.takeVoice_toward _ _ _ _ htoward]
    have hparts := (State.voiceAtBoxes_work origin v s).parts
    have hbox (b : Fin 4) := State.voiceAtBoxes_box origin v s b
    have hunit : (s.voiceAtBoxes origin v).callUnit = s.callUnit := by rw [hparts]
    refine ⟨by rw [hunit]; exact hparts, fun b => ?_⟩
    obtain ⟨hhears, hignores⟩ := hbox b
    by_cases hat : s.HearsAt origin v b
    · rw [(hhears hat).1]
      exact ⟨rfl, rfl⟩
    · rw [(hignores hat).1]
      exact ⟨rfl, rfl⟩

/-- Settles O16. -/
theorem rivalClaimsAreSettled : Obligations.RivalClaimsAreSettled := by
  refine ⟨fun p bytes f c held b s h hj ht hp => ?_, fun p bytes f s h hj hk => ⟨fun ht => ⟨fun c hshown => ?_, fun hno => ?_⟩,
    fun ht => ?_⟩⟩
  · refine ⟨_, h.exec_claim hj ht hp, State.takeClaim_parts f.origin c held _, ?_⟩
    obtain ⟨ports, map, deferred, toll, faults, lineFlag, hreached⟩ := s.reached_eq p f
    generalize s.reached p f = u at hreached ⊢
    subst hreached
    exact ⟨fun timer hc hheld hlt => State.takeClaim_claiming_kept _ hc hheld hlt,
      fun timer hc hor => State.takeClaim_claiming _ hc hor,
      fun refresh holdOff hc hor => State.takeClaim_heldOwn_kept _ hc hor,
      fun refresh holdOff hc hheld hlt => State.takeClaim_heldOwn_lost _ hc hheld hlt⟩
  · rw [h.exec_voice_other hj hk ht, State.showVoice_some (by exact hshown)]
    rfl
  · rw [h.exec_voice_other hj hk ht, State.showVoice_none (by exact hno)]
    rfl
  · refine ⟨_, h.exec_voice_own hj hk ht, fun c hshown => ?_, fun hno => ?_⟩
    · rw [State.showVoice_some (f := f.counted) (by exact hshown)]
      exact State.takingVoice_from p f.origin (by exact hshown) _
    · rw [State.showVoice_none (by exact hno)]
      obtain ⟨hparts, hkept⟩ := State.takingVoice_toward p f.origin (by exact hno) (s.heard p f)
      refine ⟨hparts, fun b => ?_⟩
      obtain ⟨ports, map, deferred, toll, lineFlag, hheard⟩ := s.heard_eq p f
      rw [hheard] at hkept
      rw [hheard]
      exact hkept b

end Sys2Proof.Machine
end

section
/-! The tone of the cadences (R99, R100): the sine and its bounds. -/
namespace Sys2Proof.Machine
open Sys2Proof

/-! ### The sine -/

theorem unity_eq : unity = 1000000000000 := rfl

theorem quarterCycle_eq : quarterCycle = 100000000 := rfl

/-- One step of the power series keeps a factor between 0 and 1, as long as the square of the angle is below the divisor. -/
theorem series_step {square rest d : Int} (hsq : 0 ≤ square) (hd : square ≤ unity * d) (hd0 : 0 < d) (h0 : 0 ≤ rest)
    (h1 : rest ≤ unity) :
    0 ≤ unity - square * rest / (unity * d) ∧ unity - square * rest / (unity * d) ≤ unity := by
  have hpos : 0 < unity * d := Int.mul_pos (by decide) hd0
  have hnonneg : 0 ≤ square * rest / (unity * d) := Int.ediv_nonneg (Int.mul_nonneg hsq h0) hpos.le
  have hle : square * rest / (unity * d) ≤ unity := by
    refine Int.ediv_le_of_le_mul hpos ?_
    calc square * rest ≤ square * unity := Int.mul_le_mul_of_nonneg_left h1 hsq
      _ ≤ unity * d * unity := Int.mul_le_mul_of_nonneg_right hd (by decide)
      _ = unity * (unity * d) := Int.mul_comm _ _
  omega

/-- The factor of the power series is a chain of such steps. -/
theorem series_bounds {square : Int} (hsq0 : 0 ≤ square) (hsq1 : square ≤ unity * 6) (ds : List Int) (hds : ∀ d ∈ ds, 6 ≤ d)
    {rest : Int} (h0 : 0 ≤ rest) (h1 : rest ≤ unity) :
    0 ≤ ds.foldl (fun rest d => unity - square * rest / (unity * d)) rest ∧
      ds.foldl (fun rest d => unity - square * rest / (unity * d)) rest ≤ unity := by
  induction ds generalizing rest with
  | nil => exact ⟨h0, h1⟩
  | cons d ds ih =>
    have hd : 6 ≤ d := hds d List.mem_cons_self
    obtain ⟨k0, k1⟩ := series_step hsq0 (hsq1.trans (Int.mul_le_mul_of_nonneg_left hd (by decide))) (by omega) h0 h1
    exact ih (fun e he => hds e (List.mem_cons_of_mem _ he)) k0 k1

/-- The angle of a point of the first quarter, on the scale of `unity`. -/
def quarterAngle (x : Nat) : Int := (x : Int) * 1570796326795 / quarterCycle

theorem quarterAngle_bounds {x : Nat} (hx : x ≤ quarterCycle) : 0 ≤ quarterAngle x ∧ quarterAngle x ≤ 1570796326795 := by
  unfold quarterAngle
  rw [quarterCycle_eq] at hx ⊢
  push_cast
  omega

theorem quarterSine_eq (x : Nat) :
    quarterSine x =
      min unity (quarterAngle x *
        [156, 110, 72, 42, 20, 6].foldl
          (fun rest d => unity - quarterAngle x * quarterAngle x / unity * rest / (unity * d)) unity / unity) := by
  unfold quarterSine quarterAngle
  rfl

/-- In the first quarter the sine lies between 0 and 1. -/
theorem quarterSine_bounds {x : Nat} (hx : x ≤ quarterCycle) : 0 ≤ quarterSine x ∧ quarterSine x ≤ unity := by
  obtain ⟨hangle0, hangle1⟩ := quarterAngle_bounds hx
  rw [quarterSine_eq]
  generalize quarterAngle x = angle at hangle0 hangle1 ⊢
  have hsq0 : 0 ≤ angle * angle / unity := Int.ediv_nonneg (Int.mul_nonneg hangle0 hangle0) (by decide)
  have hsq1 : angle * angle / unity ≤ unity * 6 := by
    refine Int.ediv_le_of_le_mul (by decide) ?_
    calc angle * angle ≤ 1570796326795 * 1570796326795 := Int.mul_le_mul hangle1 hangle1 hangle0 (by decide)
      _ ≤ unity * 6 * unity := by decide
  obtain ⟨hseries0, -⟩ := series_bounds hsq0 hsq1 [156, 110, 72, 42, 20, 6] (by decide) (rest := unity) (by decide) (le_refl _)
  exact ⟨le_min (by decide) (Int.ediv_nonneg (Int.mul_nonneg hangle0 hseries0) (by decide)), min_le_left _ _⟩

theorem quarterSine_zero : quarterSine 0 = 0 := by decide

theorem quarterSine_quarter : quarterSine quarterCycle = unity := by decide

/-- One of four values, by the number of a quarter. -/
def byQuarter (quarter : Nat) (first second third fourth : Int) : Int :=
  match quarter with
  | 0 => first
  | 1 => second
  | 2 => third
  | _ => fourth

section
variable (first second third fourth : Int)

theorem byQuarter_zero : byQuarter 0 first second third fourth = first := rfl
theorem byQuarter_one : byQuarter 1 first second third fourth = second := rfl
theorem byQuarter_two : byQuarter 2 first second third fourth = third := rfl
theorem byQuarter_three : byQuarter 3 first second third fourth = fourth := rfl

end

theorem sineAt_eq (x : Nat) :
    sineAt x =
      byQuarter (x / quarterCycle % 4) (quarterSine (x % quarterCycle)) (quarterSine (quarterCycle - x % quarterCycle))
        (-quarterSine (x % quarterCycle)) (-quarterSine (quarterCycle - x % quarterCycle)) := rfl

theorem quarter_split (k : Nat) {x : Nat} (hx : x < quarterCycle) :
    (k * quarterCycle + x) % quarterCycle = x ∧ (k * quarterCycle + x) / quarterCycle = k := by
  refine ⟨by rw [Nat.mul_add_mod']; exact Nat.mod_eq_of_lt hx, ?_⟩
  rw [Nat.mul_comm, Nat.mul_add_div (by decide), Nat.div_eq_of_lt hx, Nat.add_zero]

/-- Every angle lies in a quarter. -/
theorem exists_quarter (x : Nat) : ∃ k y, x = k * quarterCycle + y ∧ y < quarterCycle :=
  ⟨x / quarterCycle, x % quarterCycle, (Nat.div_add_mod' x quarterCycle).symm, Nat.mod_lt _ (by decide)⟩

section
variable {k x : Nat} (hx : x < quarterCycle)
include hx

theorem sineAt_first (h : k % 4 = 0) : sineAt (k * quarterCycle + x) = quarterSine x := by
  obtain ⟨hmod, hdiv⟩ := quarter_split k hx
  rw [sineAt_eq, hmod, hdiv, h, byQuarter_zero]

theorem sineAt_second (h : k % 4 = 1) : sineAt (k * quarterCycle + x) = quarterSine (quarterCycle - x) := by
  obtain ⟨hmod, hdiv⟩ := quarter_split k hx
  rw [sineAt_eq, hmod, hdiv, h, byQuarter_one]

theorem sineAt_third (h : k % 4 = 2) : sineAt (k * quarterCycle + x) = -quarterSine x := by
  obtain ⟨hmod, hdiv⟩ := quarter_split k hx
  rw [sineAt_eq, hmod, hdiv, h, byQuarter_two]

theorem sineAt_fourth (h : k % 4 = 3) : sineAt (k * quarterCycle + x) = -quarterSine (quarterCycle - x) := by
  obtain ⟨hmod, hdiv⟩ := quarter_split k hx
  rw [sineAt_eq, hmod, hdiv, h, byQuarter_three]

end

theorem quarter_cases (k : Nat) : k % 4 = 0 ∨ k % 4 = 1 ∨ k % 4 = 2 ∨ k % 4 = 3 := by omega

theorem sineAt_bounds (x : Nat) : -unity ≤ sineAt x ∧ sineAt x ≤ unity := by
  obtain ⟨k, y, rfl, hy⟩ := exists_quarter x
  obtain ⟨h0, h1⟩ := quarterSine_bounds hy.le
  obtain ⟨h2, h3⟩ := quarterSine_bounds (Nat.sub_le quarterCycle y)
  have hunity : (0 : Int) ≤ unity := by decide
  obtain h | h | h | h := quarter_cases k
  · rw [sineAt_first hy h]; omega
  · rw [sineAt_second hy h]; omega
  · rw [sineAt_third hy h]; omega
  · rw [sineAt_fourth hy h]; omega

/-- Half a cycle on, the sine is negated. -/
theorem sineAt_half (x : Nat) : sineAt (x + 2 * quarterCycle) = -sineAt x := by
  obtain ⟨k, y, rfl, hy⟩ := exists_quarter x
  have hshift : k * quarterCycle + y + 2 * quarterCycle = (k + 2) * quarterCycle + y := by
    rw [Nat.add_mul, Nat.add_right_comm]
  rw [hshift]
  obtain h | h | h | h := quarter_cases k
  · rw [sineAt_first hy h, sineAt_third hy (by omega)]
  · rw [sineAt_second hy h, sineAt_fourth hy (by omega)]
  · rw [sineAt_third hy h, sineAt_first hy (by omega), Int.neg_neg]
  · rw [sineAt_fourth hy h, sineAt_second hy (by omega), Int.neg_neg]

theorem sineAt_cycle (x : Nat) : sineAt (x + 4 * quarterCycle) = sineAt x := by
  have hshift : x + 4 * quarterCycle = x + 2 * quarterCycle + 2 * quarterCycle := by rw [Nat.add_assoc, ← Nat.add_mul]
  rw [hshift, sineAt_half, sineAt_half, Int.neg_neg]

theorem sineAt_zero : sineAt 0 = 0 := by
  rw [show (0 : Nat) = 0 * quarterCycle + 0 from rfl, sineAt_first (by decide) rfl, quarterSine_zero]

theorem sineAt_peak : sineAt quarterCycle = unity := by
  have hpeak := sineAt_second (k := 1) (x := 0) (by decide) rfl
  rwa [Nat.one_mul, Nat.add_zero, Nat.sub_zero, quarterSine_quarter] at hpeak

/-- The first half of a cycle is symmetric about its peak. -/
theorem sineAt_mirror {x : Nat} (hx : x ≤ 2 * quarterCycle) : sineAt (2 * quarterCycle - x) = sineAt x := by
  have hq : 0 < quarterCycle := by decide
  obtain ⟨k, y, rfl, hy⟩ := exists_quarter x
  have hk : k < 3 := by
    by_contra hk
    have := Nat.mul_le_mul_right quarterCycle (Nat.not_lt.1 hk)
    omega
  obtain rfl | hy0 := Nat.eq_zero_or_pos y
  · interval_cases k
    · have := sineAt_half 0
      simpa [sineAt_zero] using this
    · rw [show 2 * quarterCycle - (1 * quarterCycle + 0) = 1 * quarterCycle + 0 by omega]
    · have := sineAt_half 0
      simpa [sineAt_zero] using this.symm
  · interval_cases k
    · rw [show 2 * quarterCycle - (0 * quarterCycle + y) = 1 * quarterCycle + (quarterCycle - y) by omega,
        sineAt_second (by omega) rfl, sineAt_first hy rfl, Nat.sub_sub_self hy.le]
    · rw [show 2 * quarterCycle - (1 * quarterCycle + y) = 0 * quarterCycle + (quarterCycle - y) by omega,
        sineAt_first (by omega) rfl, sineAt_second hy rfl]
    · omega

/-! ### The tone -/

/-- A quotient by `unity`, rounded down or up, lies within 1 of the exact value. -/
theorem rounded_bounds (up : Bool) (exact : Int) :
    let t := if up then -(-exact / unity) else exact / unity
    t * unity < exact + unity ∧ exact - unity < t * unity := by
  rw [unity_eq]
  cases up
  · simp only [Bool.false_eq_true, if_false]
    omega
  · simp only [if_true]
    omega

theorem toneAt_eq (b : Fin 4) (due position : Nat) :
    toneAt b due position =
      if Config.toneRoundsUp b due position then
        -(-(8064 * sineAt (Config.tonePhase b due + position * 21000000)) / unity)
      else 8064 * sineAt (Config.tonePhase b due + position * 21000000) / unity := rfl

/-- A tone sample is a quarter of the largest amplitude times the sine, rounded up or down (R100). -/
theorem toneAt_bounds (b : Fin 4) (due position : Nat) :
    let sine := sineAt (Config.tonePhase b due + position * 21000000)
    (-8064 ≤ toneAt b due position ∧ toneAt b due position ≤ 8064) ∧
      toneAt b due position * unity < 8064 * sine + unity ∧ 8064 * sine - unity < toneAt b due position * unity := by
  have hrounded := rounded_bounds (Config.toneRoundsUp b due position)
    (8064 * sineAt (Config.tonePhase b due + position * 21000000))
  have hsine := sineAt_bounds (Config.tonePhase b due + position * 21000000)
  rw [toneAt_eq]
  dsimp only at hrounded ⊢
  generalize sineAt _ = sine at hrounded hsine ⊢
  generalize (if Config.toneRoundsUp b due position then -(-(8064 * sine) / unity) else 8064 * sine / unity) = t at hrounded ⊢
  refine ⟨?_, hrounded⟩
  rw [unity_eq] at hsine hrounded
  omega

theorem mix_silent {t : Tone} (h : t.cadence = .none ∨ t.on = false) (b : Fin 4) (now : Nat) (played : List Byte) :
    t.mix b now played = played := by
  refine if_neg fun ⟨hcadence, hon⟩ => ?_
  obtain h | h := h
  · exact hcadence h
  · exact absurd (h.symm.trans hon) (by decide)

theorem mix_sounding {t : Tone} (hcadence : t.cadence ≠ .none) (hon : t.on = true) (b : Fin 4) (now : Nat) {played : List Byte}
    {due i : Nat} {x : Byte} (hdue : t.phaseTimer = some due) (hx : played[i]? = some x) :
    (t.mix b now played)[i]? =
      some (alawCode (max (-32256) (min 32256 (alawLinear x + toneAt b due (8 * now + i))))) := by
  rw [Tone.mix, if_pos ⟨hcadence, hon⟩, List.getElem?_mapIdx, hx, hdue]
  rfl

end Sys2Proof.Machine
end

section
/-! Playout: the ticks of a jitter store (R97, R98), the blocks that arrive there (R95, R96) and the cadences (R100 to R102). -/
namespace Sys2Proof.Machine
open Sys2Proof

/-! ### A tick of the store (R97, R98) -/

section
variable {st : JitterStore} {expected : Byte}

theorem JitterStore.tick_prefill (h : st.phase = .prefill) : st.tick = (silence, st) := by
  simp only [JitterStore.tick, h]

theorem JitterStore.tick_hit (h : st.phase = .playing expected) {x : Block}
    (hx : (st.blocks.find? fun x => x.sequence == expected) = some x) :
    st.tick =
      (x.samples,
        { phase := .playing (expected + 1)
          blocks := st.blocks.filter fun y => y.sequence != expected && !older y.sequence (expected + 1)
          lastPlayed := some x.samples
          misses := 0 }) := by
  simp only [JitterStore.tick, h, hx]

theorem JitterStore.tick_miss (h : st.phase = .playing expected) (hno : ∀ x ∈ st.blocks, x.sequence ≠ expected) :
    st.tick =
      if 3 ≤ st.misses + 1 then (if st.misses + 1 = 1 then st.lastPlayed.getD silence else silence, emptyStore)
      else
        (if st.misses + 1 = 1 then st.lastPlayed.getD silence else silence,
          { st with
            phase := .playing (expected + 1)
            blocks := st.blocks.filter fun y => !older y.sequence (expected + 1)
            misses := st.misses + 1 }) := by
  have hnone : (st.blocks.find? fun x => x.sequence == expected) = none :=
    List.find?_eq_none.2 fun x hx => by simpa using hno x hx
  simp only [JitterStore.tick, h, hnone]

/-- What is played at a miss, and what is left of the store. -/
theorem JitterStore.tick_miss_facts (h : st.phase = .playing expected) (hno : ∀ x ∈ st.blocks, x.sequence ≠ expected) :
    (st.misses = 0 → st.tick.1 = st.lastPlayed.getD (List.replicate 160 213)) ∧
      (1 ≤ st.misses → st.tick.1 = List.replicate 160 213) ∧
      (st.misses < 2 →
        st.tick.2.phase = .playing (expected + 1) ∧ st.tick.2.misses = st.misses + 1 ∧
          st.tick.2.lastPlayed = st.lastPlayed ∧
          ∀ y, y ∈ st.tick.2.blocks ↔ y ∈ st.blocks ∧ older y.sequence (expected + 1) = false) ∧
      (2 ≤ st.misses → st.tick.2 = ⟨.prefill, [], none, 0⟩) := by
  rw [JitterStore.tick_miss h hno]
  refine ⟨fun hm => ?_, fun hm => ?_, fun hm => ?_, fun hm => ?_⟩
  · rw [if_neg (by omega), if_pos (by omega)]
    rfl
  · have hne : ¬st.misses + 1 = 1 := by omega
    simp only [if_neg hne]
    split <;> rfl
  · rw [if_neg (by omega)]
    exact ⟨rfl, rfl, rfl, fun y => by simp⟩
  · rw [if_pos (by omega)]
    rfl

end

/-! ### A block arrives (R95, R96) -/

section
variable {st : JitterStore} {x b : Block}

theorem JitterStore.arrive_empty (h : st.phase = .prefill) (hb : st.blocks = []) : st.arrive x = { st with blocks := [x] } := by
  simp only [JitterStore.arrive, h, JitterStore.arrivePrefill, hb]

/-- A second block in PREFILL, by how its sequence stands to the first one's. -/
theorem JitterStore.arrive_second (h : st.phase = .prefill) (hb : st.blocks = [b]) :
    (x.sequence = b.sequence → st.arrive x = st) ∧
      (newer x.sequence b.sequence = true → st.arrive x = { st with blocks := [b, x], phase := .playing b.sequence }) ∧
      (older x.sequence b.sequence = true → st.arrive x = { st with blocks := [x, b], phase := .playing x.sequence }) ∧
      ((x.sequence - b.sequence).toNat = 128 → st.arrive x = { st with blocks := [x] }) := by
  have harrive : st.arrive x =
      if x.sequence = b.sequence then st
      else if newer x.sequence b.sequence then { st with blocks := [b, x], phase := .playing b.sequence }
      else if older x.sequence b.sequence then { st with blocks := [x, b], phase := .playing x.sequence }
      else { st with blocks := [x] } := by
    simp only [JitterStore.arrive, h, JitterStore.arrivePrefill, hb]
  rw [harrive]
  have hnewer : newer x.sequence b.sequence = true ↔ 1 ≤ (x.sequence - b.sequence).toNat ∧ (x.sequence - b.sequence).toNat ≤ 127 := by
    simp [newer]
  have holder : older x.sequence b.sequence = true ↔ 1 ≤ (b.sequence - x.sequence).toNat ∧ (b.sequence - x.sequence).toNat ≤ 127 := by
    simp [older, newer]
  have hne (hd : 1 ≤ (x.sequence - b.sequence).toNat) : x.sequence ≠ b.sequence := by
    intro e
    rw [e, BitVec.sub_self] at hd
    exact absurd hd (by decide)
  have hsum : x.sequence = b.sequence ∨ (x.sequence - b.sequence).toNat + (b.sequence - x.sequence).toNat = 256 := by
    by_cases e : x.sequence = b.sequence
    · exact .inl e
    · right
      have : x.sequence.toNat ≠ b.sequence.toNat := fun h => e (BitVec.eq_of_toNat_eq h)
      bv_omega
  refine ⟨fun e => if_pos e, fun hn => ?_, fun ho => ?_, fun hd => ?_⟩
  · rw [if_neg (hne (hnewer.1 hn).1), if_pos hn]
  · have hx : x.sequence ≠ b.sequence := by
      intro e
      have := (holder.1 ho).1
      rw [e, BitVec.sub_self] at this
      exact absurd this (by decide)
    have hnot : ¬newer x.sequence b.sequence = true := by
      rw [hnewer]
      have := (holder.1 ho).2
      have := hsum.resolve_left hx
      omega
    rw [if_neg hx, if_neg hnot, if_pos ho]
  · have hx := hne (by omega)
    have hback := hsum.resolve_left hx
    rw [if_neg hx, if_neg (by rw [hnewer]; omega), if_neg (by rw [holder]; omega)]

/-- A block in its sequence place: those before it lie behind, those after it ahead (R96). -/
theorem insertBlock_place {e : Byte} {bs : List Block} (horder : bs.Pairwise fun x y => aheadOf e x.sequence < aheadOf e y.sequence)
    (hne : ∀ y ∈ bs, y.sequence ≠ x.sequence) :
    ∃ before after, bs = before ++ after ∧ insertBlock e x bs = before ++ [x] ++ after ∧
      (∀ y ∈ before, aheadOf e y.sequence < aheadOf e x.sequence) ∧
      ∀ y ∈ after, aheadOf e x.sequence < aheadOf e y.sequence := by
  induction bs with
  | nil => exact ⟨[], [], rfl, rfl, fun _ h => (nomatch h), fun _ h => (nomatch h)⟩
  | cons z bs ih =>
    obtain ⟨hz, horder⟩ := List.pairwise_cons.1 horder
    by_cases hlt : aheadOf e x.sequence < aheadOf e z.sequence
    · refine ⟨[], z :: bs, rfl, if_pos hlt, fun _ h => (nomatch h), fun y hy => ?_⟩
      obtain rfl | hy := List.mem_cons.1 hy
      · exact hlt
      · exact hlt.trans (hz y hy)
    · obtain ⟨before, after, hsplit, hinsert, hbefore, hafter⟩ := ih horder fun y hy => hne y (List.mem_cons_of_mem _ hy)
      refine ⟨z :: before, after, by rw [hsplit]; rfl, (if_neg hlt).trans (by rw [hinsert]; rfl), fun y hy => ?_, hafter⟩
      obtain rfl | hy := List.mem_cons.1 hy
      · have hsne : y.sequence.toNat ≠ x.sequence.toNat := fun h => hne y List.mem_cons_self (BitVec.eq_of_toNat_eq h)
        unfold aheadOf at hlt ⊢
        bv_omega
      · exact hbefore y hy

variable {expected : Byte} (h : st.phase = .playing expected)
include h

theorem JitterStore.arrive_late (hd : 128 ≤ (x.sequence - expected).toNat) : st.arrive x = st := by
  simp only [JitterStore.arrive, h, JitterStore.arrivePlaying, aheadOf, if_pos hd]

theorem JitterStore.arrive_duplicate (hdup : ∃ y ∈ st.blocks, y.sequence = x.sequence) : st.arrive x = st := by
  have hany : (st.blocks.any fun y => y.sequence == x.sequence) = true := by simpa using hdup
  simp only [JitterStore.arrive, h, JitterStore.arrivePlaying, hany, if_true, ite_self]

theorem JitterStore.arrive_new (hd : (x.sequence - expected).toNat < 128) (hne : ∀ y ∈ st.blocks, y.sequence ≠ x.sequence) :
    st.arrive x =
      if st.blocks.length < 4 then { st with blocks := insertBlock expected x st.blocks }
      else
        match insertBlock expected x st.blocks with
        | [] => st
        | y :: ys => { st with blocks := ys, phase := .playing (y.sequence + 1) } := by
  have hany : ¬(st.blocks.any fun y => y.sequence == x.sequence) = true := by simpa using hne
  simp only [JitterStore.arrive, h, JitterStore.arrivePlaying, aheadOf, if_neg (Nat.not_le.2 hd), if_neg hany] <;> rfl

end

/-! ### A tick in the state (R97, R99) -/

theorem State.tickBox_eq (b : Fin 4) (s : State) :
    s.tickBox b =
      { s with
        playout := { s.playout with
          boxes := s.playout.boxes.set b
            { s.playout.boxes[b] with
              store := s.playout.boxes[b].store.tick.2
              playoutTimer := some (s.now + 20)
              out :=
                if s.joined = true ∧ b.val < s.config.boxes then
                  some (s.playout.tones[b].mix b s.now s.playout.boxes[b].store.tick.1)
                else s.playout.boxes[b].out } } } := by
  have hserves : s.servesBox b = decide (s.joined = true ∧ b.val < s.config.boxes) := by simp [State.servesBox]
  simp only [State.tickBox, hserves, decide_eq_true_eq]
  rfl

theorem State.tickLane_eq (l : Fin 2) (s : State) :
    s.tickLane l =
      { s with
        playout := { s.playout with
          lanes := s.playout.lanes.set l
            { s.playout.lanes[l] with
              store := s.playout.lanes[l].store.tick.2
              playoutTimer := some (s.now + 20)
              out :=
                if s.joined = true ∧ l.val < s.config.lanes then some s.playout.lanes[l].store.tick.1
                else s.playout.lanes[l].out } } } := by
  have hserves : s.servesLane l = decide (s.joined = true ∧ l.val < s.config.lanes) := by simp [State.servesLane]
  simp only [State.tickLane, hserves, decide_eq_true_eq]
  rfl

/-! ### Cadences (R100 to R102) -/

section
variable {b : Fin 4} {s : State} {due : Nat}

theorem exec_cadencePhaseEnd (hheld : s.resetHeld = false) (hdue : s.playout.tones[b].phaseTimer = some due) :
    exec (.cadencePhaseEnd b) s =
      .next { s with
        now := max s.now due
        playout := { s.playout with
          tones := s.playout.tones.set b ((s.clockTo due).phaseEnds b s.playout.tones[b]) } } := by
  change execCadencePhaseEnd b s = _
  rw [execCadencePhaseEnd, hdue, State.onTimer_running _ _ _ hheld]
  rfl

theorem State.offeredMinute_iff : s.offeredMinute b = true ↔ ∃ since, s.calls[b].offeringSince = some since ∧ since + 60000 ≤ s.now := by
  unfold State.offeredMinute
  cases hsince : s.calls[b].offeringSince <;> simp

theorem State.phaseEnds_progress {t : Tone} (h : t.cadence = .progress) :
    s.phaseEnds b t =
      ⟨.progress, !t.on,
        some (s.now + progressLength (!t.on) (t.halfRate || s.offeredMinute b)), t.halfRate || s.offeredMinute b⟩ := by
  simp only [State.phaseEnds, h]
  rfl

end

/-- Settles O28. -/
theorem playoutFollowsTheStoreAndCadence : Obligations.PlayoutFollowsTheStoreAndCadence := by
  refine ⟨⟨fun st h => JitterStore.tick_prefill h, fun st expected h => ⟨fun x hx => ?_, JitterStore.tick_miss_facts h⟩,
    fun b s due hheld hdue => ?_, fun l s due hheld hdue => ?_,
    fun t b now played => ⟨fun h => mix_silent h b now played, fun hcadence hon due i x hdue hx =>
      mix_sounding hcadence hon b now hdue hx⟩,
    toneAt_bounds, fun x => ⟨sineAt_cycle x, sineAt_half x, sineAt_mirror, sineAt_bounds x⟩, sineAt_zero, sineAt_peak⟩,
    ⟨fun st x h => ⟨JitterStore.arrive_empty h, fun b hb => JitterStore.arrive_second h hb⟩,
      fun st x expected h horder => ⟨JitterStore.arrive_late h, JitterStore.arrive_duplicate h, fun hd hne => ?_⟩⟩,
    fun b s due hheld hdue => ⟨fun hc hhalf hsince => ?_, fun hc hhalf => ?_, fun hc => ?_, fun hc => ?_⟩⟩
  · rw [JitterStore.tick_hit h hx]
    exact ⟨rfl, rfl, rfl, rfl, fun y => by simp⟩
  · change execPlayoutTick (.box b) s = _
    simp only [execPlayoutTick, hdue, State.onTimer_running _ _ _ hheld]
    exact congrArg _ (State.tickBox_eq b (s.clockTo due))
  · change execPlayoutTick (.lane l) s = _
    simp only [execPlayoutTick, hdue, State.onTimer_running _ _ _ hheld]
    exact congrArg _ (State.tickLane_eq l (s.clockTo due))
  · obtain ⟨hlength, hmisses, hblocks⟩ := horder
    rw [h] at hblocks
    obtain ⟨before, after, hsplit, hinsert, hbefore, hafter⟩ := insertBlock_place (x := x) hblocks.2 hne
    refine ⟨before, after, hsplit, hbefore, hafter, fun hroom => ?_, fun hfull y ys hall => ?_⟩
    · rw [JitterStore.arrive_new h hd hne, if_pos hroom, hinsert]
    · rw [JitterStore.arrive_new h hd hne, if_neg (Nat.not_lt.2 hfull), hinsert, hall]
  · have hminute : (s.clockTo due).offeredMinute b = false := by
      rw [Bool.eq_false_iff, ne_eq, State.offeredMinute_iff]
      rintro ⟨since, hs, hle⟩
      exact absurd hle (Nat.not_le.2 (hsince since hs))
    have hx : (s.playout.tones[b].halfRate || (s.clockTo due).offeredMinute b) = false := by rw [hhalf, hminute]; rfl
    rw [exec_cadencePhaseEnd hheld hdue, State.phaseEnds_progress hc, hx]
    cases s.playout.tones[b].on <;> rfl
  · have hx : (s.playout.tones[b].halfRate || (s.clockTo due).offeredMinute b) = true := by
      rw [Bool.or_eq_true, State.offeredMinute_iff]
      exact hhalf
    rw [exec_cadencePhaseEnd hheld hdue, State.phaseEnds_progress hc, hx]
    cases s.playout.tones[b].on <;> rfl
  · rw [exec_cadencePhaseEnd hheld hdue]
    simp only [State.phaseEnds, hc]
  · rw [exec_cadencePhaseEnd hheld hdue]
    simp only [State.phaseEnds, hc]
    rfl

end Sys2Proof.Machine
end

section
/-! Selections, each said once: what a selection depends on, and what a change of the warnings makes of a face (R118, R150). -/
namespace Sys2Proof.Machine
open Sys2Proof

/-! ### What a selection depends on -/

/-- The selector after a selection event with these candidates (R153). -/
def State.selectedFrom (items : List Item) (s : State) (x : Selector) : Selector :=
  let top := s.topPriority items
  let rotation := s.rotationOf items
  let y := { x with rotation := rotation, top := top }
  match rotation.head? with
  | none => { y with shown := none, dwellTimer := none, flashOn := true, flashTimer := none }
  | some first =>
    match x.shown with
    | none => s.showItem first y
    | some i =>
      if items.contains i = false then s.showItem first y
      else if s.itemPriority i < top.getD 0 then s.showItem first y
      else if x.dwellTimer.isSome then s.keepItem i y
      else
        match nextItem rotation i with
        | none => s.keepItem i y
        | some j => if j = i then s.keepItem i y else s.showItem j y

theorem State.selected_eq (g : Face) (s : State) : s.selected g = s.selectedFrom (s.candidates g) := rfl

section
variable {g : Face} {s s' : State} (hpages : s.pages = s'.pages)
include hpages

theorem State.candidates_congr (hwarnings : ∀ x, s.warnings.isOn g x = s'.warnings.isOn g x) :
    s.candidates g = s'.candidates g := by
  have hpage (n : Fin 32) : s.pageAt n = s'.pageAt n := by simp only [State.pageAt, hpages]
  simp only [State.candidates, State.pageIsCandidate, State.replaced, hpage, hwarnings]

theorem State.selectedFrom_congr (hnow : s.now = s'.now) (items : List Item) : s.selectedFrom items = s'.selectedFrom items := by
  have hbase : s.selectedFrom items = ({ s' with pages := s.pages, now := s.now } : State).selectedFrom items := rfl
  rw [hbase, hpages, hnow]

theorem State.selected_congr (hwarnings : ∀ x, s.warnings.isOn g x = s'.warnings.isOn g x) (hnow : s.now = s'.now) :
    s.selected g = s'.selected g := by
  rw [State.selected_eq, State.selected_eq, State.candidates_congr hpages hwarnings, State.selectedFrom_congr hpages hnow]

end

/-- Two states in which a selection of the face comes to the same: the face, the pages, the clock and what says whether it is
selecting. -/
structure State.SameSign (g : Face) (s s' : State) : Prop where
  face : s.faces.get g = s'.faces.get g
  pages : s.pages = s'.pages
  now : s.now = s'.now
  joined : s.joined = s'.joined
  config : s.config = s'.config

theorem State.SameSign.selecting {g : Face} {s s' : State} (h : State.SameSign g s s') : s.selecting g = s'.selecting g := by
  simp only [State.selecting, h.face, h.joined, h.config]

/-! ### A selection event -/

/-- A selection event where it is called for. -/
def State.selectIf (on : Bool) (g : Face) (s : State) : State := if on then s.select g else s

theorem State.select_eq (g : Face) (s : State) : s.select g = { s with faces := (s.select g).faces } := by
  unfold State.select
  split <;> rfl

theorem State.select_face (g : Face) (s : State) :
    (s.select g).faces.get g =
      if s.selecting g then { s.faces.get g with selector := s.selected g (s.faces.get g).selector } else s.faces.get g := by
  unfold State.select
  split <;> simp [State.modFace]

theorem State.select_face_other {g h : Face} (hne : h ≠ g) (s : State) : (s.select g).faces.get h = s.faces.get h := by
  unfold State.select
  split
  · simp only [State.modFace, PerSide.get_set, if_neg hne]
  · rfl

theorem State.selectIf_eq (on : Bool) (g : Face) (s : State) : s.selectIf on g = { s with faces := (s.selectIf on g).faces } := by
  cases on
  · rfl
  · exact State.select_eq g s

theorem State.selectIf_face (on : Bool) (g : Face) (s : State) :
    (s.selectIf on g).faces.get g =
      if on && s.selecting g then { s.faces.get g with selector := s.selected g (s.faces.get g).selector }
      else s.faces.get g := by
  cases on
  · rfl
  · exact State.select_face g s

theorem State.selectIf_face_other {g h : Face} (hne : h ≠ g) (on : Bool) (s : State) :
    (s.selectIf on g).faces.get h = s.faces.get h := by
  cases on
  · rfl
  · exact State.select_face_other hne s

theorem State.selectIf_face_congr {s s' : State} {g : Face} (h : State.SameSign g s s')
    (hwarnings : ∀ x, s.warnings.isOn g x = s'.warnings.isOn g x) (on : Bool) :
    (s.selectIf on g).faces.get g = (s'.selectIf on g).faces.get g := by
  rw [State.selectIf_face, State.selectIf_face, h.face, h.selecting, State.selected_congr h.pages hwarnings h.now]

/-! ### The warnings of a face change (R118, R150) -/

/-- The face's warning set is the same. -/
def Warnings.SameSet (g : Face) (a b : Warnings) : Prop := ∀ x, a.isOn g x = b.isOn g x

theorem Warnings.differ_eq_false_iff {a b : Warnings} {g : Face} : a.differ b g = false ↔ Warnings.SameSet g a b := by
  simp only [Warnings.differ, List.any_eq_false, Warnings.SameSet]
  constructor
  · intro h x
    have hx := h x (by cases x <;> simp)
    simpa using hx
  · intro h x _
    simp [h x]

theorem Warnings.differ_congr {a a' b b' : Warnings} {g : Face} (ha : Warnings.SameSet g a a') (hb : Warnings.SameSet g b b') :
    a.differ b g = a'.differ b' g := by
  simp only [Warnings.differ, ha _, hb _]

theorem State.reselectedBy_eq_selectIf (w : Warnings) (g : Face) (s : State) :
    s.reselectedBy w g = ({ s with warnings := w } : State).selectIf (s.warnings.differ w g) g := by
  have hiff : ([Warning.fog, .ice, .wind, .incident, .closeAdvised].all fun x => s.warnings.isOn g x == w.isOn g x) =
      !s.warnings.differ w g := by
    simp [Warnings.differ, List.all_eq_not_any_not, bne]
  unfold State.reselectedBy State.selectIf
  rw [hiff]
  cases s.warnings.differ w g <;> rfl

section
variable (w : Warnings) (g : Face) (s : State)

theorem State.reselectedBy_eq : s.reselectedBy w g = { s with warnings := w, faces := (s.reselectedBy w g).faces } := by
  rw [State.reselectedBy_eq_selectIf, State.selectIf_eq]

/-- A change of the warnings moves a face's selector alone. -/
theorem State.reselectedBy_face_parts :
    (s.reselectedBy w g).faces.get g = { s.faces.get g with selector := ((s.reselectedBy w g).faces.get g).selector } := by
  rw [State.reselectedBy_eq_selectIf, State.selectIf_face]
  split <;> rfl

end

/-- The face after a change of the warnings depends on its own warning sets alone. -/
theorem State.reselectedBy_congr {s s' : State} {g : Face} {w w' : Warnings} (h : State.SameSign g s s')
    (hs : Warnings.SameSet g s.warnings s'.warnings) (hw : Warnings.SameSet g w w') :
    (s.reselectedBy w g).faces.get g = (s'.reselectedBy w' g).faces.get g := by
  rw [State.reselectedBy_eq_selectIf, State.reselectedBy_eq_selectIf, Warnings.differ_congr hs hw]
  exact State.selectIf_face_congr (s := { s with warnings := w }) (s' := { s' with warnings := w' })
    ⟨h.face, h.pages, h.now, h.joined, h.config⟩ hw _

theorem State.reselectedBy_same {s : State} {g : Face} {w : Warnings} (h : Warnings.SameSet g s.warnings w) :
    (s.reselectedBy w g).faces.get g = s.faces.get g := by
  rw [State.reselectedBy_eq_selectIf, Warnings.differ_eq_false_iff.2 h]
  rfl

/-! ### The evaluator's new state is taken -/

section
variable (w : Warnings) (s : State)

theorem State.setWarnings_eq_selectIf :
    s.setWarnings w =
      (({ s with warnings := w } : State).selectIf (s.warnings.differ w .east) .east).selectIf (s.warnings.differ w .west) .west := by
  rfl

theorem State.setWarnings_eq : s.setWarnings w = { s with warnings := w, faces := (s.setWarnings w).faces } := by
  rw [State.setWarnings_eq_selectIf, State.selectIf_eq, State.selectIf_eq]

theorem State.setWarnings_face (g : Face) : (s.setWarnings w).faces.get g = (s.reselectedBy w g).faces.get g := by
  rw [State.setWarnings_eq_selectIf, State.reselectedBy_eq_selectIf]
  cases g with
  | east => exact State.selectIf_face_other (by decide) _ _
  | west =>
    refine State.selectIf_face_congr ⟨State.selectIf_face_other (by decide) _ _, ?_, ?_, ?_, ?_⟩ ?_ _
    all_goals rw [State.selectIf_eq]
    exact fun _ => rfl

end

/-! ### CLOSE_ADVISED of both faces is set (R129, R135) -/

section
variable (s : State) (east west : Bool)

theorem State.setCloseAdvised_eq (g : Face) (on : Bool) :
    s.setCloseAdvised g on =
      ({ s with warnings := { s.warnings with closeAdvised := s.warnings.closeAdvised.set g on } } : State).selectIf
        (s.warnings.closeAdvised.get g != on) g := by
  unfold State.setCloseAdvised State.selectIf
  by_cases h : s.warnings.closeAdvised.get g = on
  · subst h
    rw [if_pos rfl, bne_self_eq_false]
    cases g <;> rfl
  · rw [if_neg h, if_pos (by simpa using h)]
    rfl

/-- The warnings with CLOSE_ADVISED of both faces set. -/
def Warnings.closing (w : Warnings) : Warnings := { w with closeAdvised := ⟨east, west⟩ }

/-- CLOSE_ADVISED of both faces set, east first. -/
def State.closeBoth : State := (s.setCloseAdvised .east east).setCloseAdvised .west west

theorem State.closeBoth_eq :
    s.closeBoth east west =
      { s with warnings := s.warnings.closing east west, faces := (s.closeBoth east west).faces } := by
  unfold State.closeBoth
  rw [State.setCloseAdvised_eq, State.selectIf_eq, State.setCloseAdvised_eq, State.selectIf_eq]
  rfl

theorem Warnings.closing_differ (w : Warnings) (g : Face) :
    w.differ (w.closing east west) g = (w.closeAdvised.get g != (⟨east, west⟩ : PerSide Bool).get g) := by
  simp only [Warnings.differ, Warnings.closing, Warnings.isOn, List.any_cons, List.any_nil, bne_self_eq_false, Bool.false_or,
    Bool.or_false]

theorem State.closeBoth_face (g : Face) :
    (s.closeBoth east west).faces.get g = (s.reselectedBy (s.warnings.closing east west) g).faces.get g := by
  unfold State.closeBoth
  rw [State.reselectedBy_eq_selectIf, Warnings.closing_differ, State.setCloseAdvised_eq (g := .west)]
  cases g with
  | east =>
    rw [State.selectIf_face_other (by decide)]
    change (s.setCloseAdvised .east east).faces.get .east = _
    rw [State.setCloseAdvised_eq]
    exact State.selectIf_face_congr
      (s := { s with warnings := { s.warnings with closeAdvised := s.warnings.closeAdvised.set .east east } })
      (s' := { s with warnings := s.warnings.closing east west })
      ⟨rfl, rfl, rfl, rfl, rfl⟩ (fun x => by cases x <;> rfl) _
  | west =>
    have hwest : (s.setCloseAdvised .east east).faces.get .west = s.faces.get .west := by
      rw [State.setCloseAdvised_eq]
      exact State.selectIf_face_other (by decide) _ _
    have hparts := s.setCloseAdvised_eq .east east
    rw [State.selectIf_eq, ← State.setCloseAdvised_eq] at hparts
    generalize (s.setCloseAdvised .east east).faces = faces at hparts hwest
    rw [hparts]
    refine State.selectIf_face_congr
      (s := { s with warnings := s.warnings.closing east west, faces := faces })
      (s' := { s with warnings := s.warnings.closing east west }) ⟨hwest, rfl, rfl, rfl, rfl⟩ ?_ _
    exact fun x => by cases x <;> rfl

end

end Sys2Proof.Machine
end

section
/-! Images, each operation said once: what sending one makes of the face, and when an event owes one (R158 to R160). -/
namespace Sys2Proof.Machine
open Sys2Proof

/-! ### What an image makes of its face -/

/-- The face after an image counted as missing (R160). -/
def FaceUnit.countedMissing (u : FaceUnit) : FaceUnit :=
  if 3 ≤ u.missing + 1 then { u with missing := 0, faulted := true } else { u with missing := u.missing + 1 }

/-- The face with room for one more awaited image (R159). -/
def FaceUnit.makeRoom (u : FaceUnit) : FaceUnit :=
  if 4 ≤ u.awaited.length then ({ u with awaited := u.awaited.drop 1 } : FaceUnit).countedMissing else u

/-- The face after this image was sent at this time (R158, R159). -/
def FaceUnit.sent (image : Image) (now : Nat) (u : FaceUnit) : FaceUnit :=
  { u.makeRoom with
    image := some image
    sequence := u.sequence + 1
    awaited := u.makeRoom.awaited ++ [⟨u.sequence, some (now + 150)⟩]
    refreshTimer := some (now + 200) }

theorem PerSide.set_get {α : Type} (x : PerSide α) (g : Side) : x.set g (x.get g) = x := by cases g <;> rfl

section
variable (u : FaceUnit)

theorem FaceUnit.countedMissing_parts :
    u.countedMissing = { u with missing := u.countedMissing.missing, faulted := u.countedMissing.faulted } := by
  unfold FaceUnit.countedMissing
  split <;> rfl

theorem FaceUnit.makeRoom_parts :
    u.makeRoom =
      { u with
        awaited := if u.awaited.length < 4 then u.awaited else u.awaited.drop 1
        missing := u.makeRoom.missing, faulted := u.makeRoom.faulted } := by
  unfold FaceUnit.makeRoom
  by_cases h : 4 ≤ u.awaited.length
  · rw [if_pos h, if_neg (Nat.not_lt.2 h)]
    exact FaceUnit.countedMissing_parts _
  · rw [if_neg h, if_pos (Nat.not_le.1 h)]

theorem FaceUnit.makeRoom_of_room (h : u.awaited.length < 4) : u.makeRoom = u := if_neg (Nat.not_le.2 h)

/-- An image changes what the face awaits, counts and shows as its last image. -/
theorem FaceUnit.sent_parts (image : Image) (now : Nat) :
    u.sent image now =
      { u with
        image := some image, sequence := u.sequence + 1, refreshTimer := some (now + 200)
        awaited := (if u.awaited.length < 4 then u.awaited else u.awaited.drop 1) ++ [⟨u.sequence, some (now + 150)⟩]
        missing := u.makeRoom.missing, faulted := u.makeRoom.faulted } := by
  unfold FaceUnit.sent
  rw [u.makeRoom_parts]

end

/-! ### The operations in the state -/

section
variable (g : Face) (s : State)

theorem State.countMissing_eq :
    s.countMissing g =
      { s with
        faces := s.faces.set g (s.faces.get g).countedMissing
        faults := if 3 ≤ (s.faces.get g).missing + 1 then (s.latch (signFault g)).faults else s.faults } := by
  unfold State.countMissing FaceUnit.countedMissing
  split <;> rfl

theorem State.countMissing_face : (s.countMissing g).faces.get g = (s.faces.get g).countedMissing := by
  rw [State.countMissing_eq]
  exact PerSide.get_set_same ..

theorem State.imageNow_congr {s s' : State} (hselector : (s.faces.get g).selector = (s'.faces.get g).selector)
    (hsequence : (s.faces.get g).sequence = (s'.faces.get g).sequence) (hspeed : s.speed = s'.speed)
    (hconfig : s.config = s'.config) (hpages : s.pages = s'.pages) : s.imageNow g = s'.imageNow g := by
  have hpage (n : Fin 32) : s.pageAt n = s'.pageAt n := by simp only [State.pageAt, hpages]
  simp only [State.imageNow, State.roundel, hselector, hsequence, hspeed, hconfig, hpage]

/-- The state in which the new image joins the awaited list: a fifth awaited image first counts as missing. -/
def State.withRoom : State :=
  if 4 ≤ (s.faces.get g).awaited.length then
    (s.modFace g fun u => { u with awaited := u.awaited.drop 1 }).countMissing g
  else s

theorem State.withRoom_eq : s.withRoom g = { s with faces := s.faces.set g (s.faces.get g).makeRoom, faults := (s.withRoom g).faults } := by
  unfold State.withRoom FaceUnit.makeRoom
  split
  · rw [State.countMissing_eq]
    simp [State.modFace, PerSide.set_set]
  · rw [PerSide.set_get]

theorem State.imageNow_of_sequence {s t : State} (hselector : (s.faces.get g).selector = (t.faces.get g).selector)
    (hspeed : s.speed = t.speed) (hconfig : s.config = t.config) (hpages : s.pages = t.pages) :
    s.imageNow g = { t.imageNow g with sequence := (s.faces.get g).sequence } := by
  have hset : s.imageNow g =
      State.imageNow g { t with faces := t.faces.set g { t.faces.get g with sequence := (s.faces.get g).sequence } } :=
    State.imageNow_congr g (by simpa using hselector) (by simp) hspeed hconfig hpages
  rw [hset]
  generalize (s.faces.get g).sequence = n
  have hface : ((t.faces.set g { t.faces.get g with sequence := n }).get g) = { t.faces.get g with sequence := n } :=
    PerSide.get_set_same ..
  have hpage (k : Fin 32) :
      State.pageAt k { t with faces := t.faces.set g { t.faces.get g with sequence := n } } = t.pageAt k := rfl
  simp only [State.imageNow, State.roundel, hface, hpage]
  split
  · rfl
  · rfl
  · split <;> rfl

theorem State.sendImage_eq :
    s.sendImage g =
      { s with faces := s.faces.set g ((s.faces.get g).sent (s.imageNow g) s.now), faults := (s.withRoom g).faults } := by
  have himage : (s.withRoom g).imageNow g = s.imageNow g := by
    rw [State.withRoom_eq, (s.faces.get g).makeRoom_parts]
    exact State.imageNow_congr g (by simp) (by simp) rfl rfl rfl
  have hsequence : ((s.faces.get g).makeRoom).sequence = (s.faces.get g).sequence := by
    rw [FaceUnit.makeRoom_parts]
  have hsend : s.sendImage g = (s.withRoom g).modFace g fun u =>
      { u with
        image := some ((s.withRoom g).imageNow g), sequence := u.sequence + 1
        awaited := u.awaited ++ [⟨u.sequence, some ((s.withRoom g).now + 150)⟩]
        refreshTimer := some ((s.withRoom g).now + 200) } := rfl
  rw [hsend, himage, State.modFace, State.withRoom_eq]
  simp only [PerSide.get_set_same, PerSide.set_set, FaceUnit.sent, hsequence]

theorem State.sendImage_face : (s.sendImage g).faces.get g = (s.faces.get g).sent (s.imageNow g) s.now := by
  rw [State.sendImage_eq]
  exact PerSide.get_set_same ..

theorem State.sendImage_face_other {g h : Face} (hne : h ≠ g) (s : State) : (s.sendImage g).faces.get h = s.faces.get h := by
  rw [State.sendImage_eq]
  exact (PerSide.get_set ..).trans (if_neg hne)

end

/-! ### The image that an event owes (R158) -/

/-- Between `s` and `v` the face's image changed, and the face is selecting in both. -/
def State.OwesImage (g : Face) (s v : State) : Prop :=
  s.selecting g = true ∧ v.selecting g = true ∧ v.imageKey g ≠ s.imageKey g

theorem State.imageKey_eq_none_iff (g : Face) (s : State) : s.imageKey g = none ↔ s.selecting g = false := by
  unfold State.imageKey
  cases s.selecting g <;> simp

theorem State.imageIfChanged_of_owes {g : Face} {s v : State} (h : State.OwesImage g s v) :
    v.imageIfChanged g s = v.sendImage g := by
  obtain ⟨hs, hv, hne⟩ := h
  have ha : s.imageKey g ≠ none := by simp [State.imageKey_eq_none_iff, hs]
  have hb : v.imageKey g ≠ none := by simp [State.imageKey_eq_none_iff, hv]
  obtain ⟨a, ha⟩ := Option.ne_none_iff_exists'.1 ha
  obtain ⟨b, hb⟩ := Option.ne_none_iff_exists'.1 hb
  have hab : a ≠ b := fun e => hne (by rw [ha, hb, e])
  simp only [State.imageIfChanged, ha, hb, if_neg hab]

theorem State.imageIfChanged_of_not_owes {g : Face} {s v : State} (h : ¬State.OwesImage g s v) : v.imageIfChanged g s = v := by
  cases ha : s.imageKey g with
  | none => simp only [State.imageIfChanged, ha]
  | some a =>
    cases hb : v.imageKey g with
    | none => simp only [State.imageIfChanged, ha, hb]
    | some b =>
      refine State.imageIfChanged_of_imageKey_eq ?_
      have hs : ¬s.selecting g = false := fun e => by simp [(State.imageKey_eq_none_iff g s).2 e] at ha
      have hv : ¬v.selecting g = false := fun e => by simp [(State.imageKey_eq_none_iff g v).2 e] at hb
      by_contra hne
      exact h ⟨by simpa using hs, by simpa using hv, hne⟩

theorem State.imageKey_congr (g : Face) {s s' : State}
    (hselector : (s.faces.get g).selector = (s'.faces.get g).selector) (hdark : (s.faces.get g).dark = (s'.faces.get g).dark)
    (hspeed : s.speed = s'.speed) (hpages : s.pages = s'.pages) (hjoined : s.joined = s'.joined) (hconfig : s.config = s'.config) :
    s.imageKey g = s'.imageKey g := by
  have hpage (n : Fin 32) : s.pageAt n = s'.pageAt n := by simp only [State.pageAt, hpages]
  simp only [State.imageKey, State.selecting, hselector, hdark, hspeed, hjoined, hconfig, hpage] <;> rfl

/-- The image of one face leaves the other face as it stands. -/
theorem State.imageIfChanged_face_other {g h : Face} (hne : h ≠ g) (s v : State) :
    (v.imageIfChanged g s).faces.get h = v.faces.get h := by
  by_cases howes : State.OwesImage g s v
  · rw [State.imageIfChanged_of_owes howes, State.sendImage_face_other hne]
  · rw [State.imageIfChanged_of_not_owes howes]

theorem State.imageIfChanged_parts (g : Face) (s v : State) :
    v.imageIfChanged g s = { v with faces := (v.imageIfChanged g s).faces, faults := (v.imageIfChanged g s).faults } := by
  obtain ⟨faces, faults, h⟩ := State.imageIfChanged_imageWork g v s
  rw [h]

section
variable (act : State → State) (s : State) (g : Face)

/-- The images that an event owes change the faces and the latched faults alone. -/
theorem State.withImages_parts :
    s.withImages act = { act s with faces := (s.withImages act).faces, faults := (s.withImages act).faults } := by
  obtain ⟨faces, faults, h⟩ := State.withImages_cases act s
  rw [h]

/-- Each face is sent its own image alone. -/
theorem State.withImages_face_eq : (s.withImages act).faces.get g = ((act s).imageIfChanged g s).faces.get g := by
  cases g with
  | east => exact State.imageIfChanged_face_other (by decide) s _
  | west =>
    change (((act s).imageIfChanged .east s).imageIfChanged .west s).faces.get .west = _
    generalize act s = v
    have hface := State.imageIfChanged_face_other (g := .east) (h := .west) (by decide) s v
    have hparts := State.imageIfChanged_parts .east s v
    generalize v.imageIfChanged .east s = w at hface hparts ⊢
    generalize hfaces : w.faces = faces at hparts hface
    generalize w.faults = faults at hparts
    subst hparts
    have hkey : State.imageKey .west { v with faces := faces, faults := faults } = v.imageKey .west :=
      State.imageKey_congr .west (congrArg _ hface) (congrArg _ hface) rfl rfl rfl rfl
    have hselecting : State.selecting .west { v with faces := faces, faults := faults } = v.selecting .west := by
      simp only [State.selecting, hface]
    have himage : State.imageNow .west { v with faces := faces, faults := faults } = v.imageNow .west :=
      State.imageNow_congr .west (congrArg _ hface) (congrArg _ hface) rfl rfl rfl
    by_cases howes : State.OwesImage .west s v
    · have howes' : State.OwesImage .west s { v with faces := faces, faults := faults } := by
        simpa only [State.OwesImage, hkey, hselecting] using howes
      rw [State.imageIfChanged_of_owes howes, State.imageIfChanged_of_owes howes', State.sendImage_face, State.sendImage_face,
        himage, hface]
    · have howes' : ¬State.OwesImage .west s { v with faces := faces, faults := faults } := by
        simpa only [State.OwesImage, hkey, hselecting] using howes
      rw [State.imageIfChanged_of_not_owes howes, State.imageIfChanged_of_not_owes howes']
      exact hface

theorem State.withImages_face_of_owes (h : State.OwesImage g s (act s)) :
    (s.withImages act).faces.get g = ((act s).faces.get g).sent ((act s).imageNow g) (act s).now := by
  rw [State.withImages_face_eq, State.imageIfChanged_of_owes h, State.sendImage_face]

theorem State.withImages_face_of_not_owes (h : ¬State.OwesImage g s (act s)) :
    (s.withImages act).faces.get g = (act s).faces.get g := by
  rw [State.withImages_face_eq, State.imageIfChanged_of_not_owes h]

theorem State.withImages_selector : ((s.withImages act).faces.get g).selector = ((act s).faces.get g).selector := by
  by_cases h : State.OwesImage g s (act s)
  · rw [State.withImages_face_of_owes act s g h, FaceUnit.sent_parts]
  · rw [State.withImages_face_of_not_owes act s g h]

theorem State.withImages_dark : ((s.withImages act).faces.get g).dark = ((act s).faces.get g).dark := by
  by_cases h : State.OwesImage g s (act s)
  · rw [State.withImages_face_of_owes act s g h, FaceUnit.sent_parts]
  · rw [State.withImages_face_of_not_owes act s g h]

theorem State.withImages_imageKey : (s.withImages act).imageKey g = (act s).imageKey g := by
  have hparts := State.withImages_parts act s
  exact State.imageKey_congr g (State.withImages_selector act s g) (State.withImages_dark act s g) (by rw [hparts])
    (by rw [hparts]) (by rw [hparts]) (by rw [hparts])

end

/-! ### What statements say of the faces -/

/-- An event that moved a face's selector alone sends it the image it owes. -/
theorem State.imageFollows_withImages {act : State → State} {s : State} {g : Face} {x : Selector}
    (hface : (act s).faces.get g = { s.faces.get g with selector := x }) (hjoined : (act s).joined = s.joined)
    (hconfig : (act s).config = s.config) : s.ImageFollows g (s.withImages act) := by
  have hselecting : (act s).selecting g = s.selecting g := by
    simp only [State.selecting, hface, hjoined, hconfig]
  have hkey := State.withImages_imageKey act s g
  have hparts := State.withImages_parts act s
  have hselector := State.withImages_selector act s g
  unfold State.ImageFollows
  simp only
  rw [hkey]
  by_cases howes : State.OwesImage g s (act s)
  · have hsent := State.withImages_face_of_owes act s g howes
    have himage : (act s).imageNow g = { (s.withImages act).imageNow g with sequence := (s.faces.get g).sequence } := by
      have hsequence : ((act s).faces.get g).sequence = (s.faces.get g).sequence := by rw [hface]
      rw [← hsequence]
      exact State.imageNow_of_sequence g hselector.symm (by rw [hparts]) (by rw [hparts]) (by rw [hparts])
    have hnow : (s.withImages act).now = (act s).now := by rw [hparts]
    rw [hsent, hnow, himage, FaceUnit.sent_parts, hface]
    refine ⟨rfl, rfl, ?_, fun _ _ => ⟨rfl, rfl, rfl, rfl, fun hroom => ?_⟩⟩
    · rintro (h | h)
      · exact absurd howes.1 (by simp [h])
      · exact absurd h howes.2.2
    · have := FaceUnit.makeRoom_of_room { s.faces.get g with selector := x } hroom
      rw [this]
      exact ⟨rfl, rfl⟩
  · rw [State.withImages_face_of_not_owes act s g howes, hface]
    refine ⟨rfl, rfl, fun _ => rfl, fun hs hne => absurd ⟨hs, hselecting.trans hs, hne⟩ howes⟩

end Sys2Proof.Machine
end

section
/-! Evaluations, each step said once: what the speed unit finds and shows, what it sends, and what the faces follow (R131 to R137). -/
namespace Sys2Proof.Machine
open Sys2Proof

/-! ### A SPEED is built (R136) -/

section
variable (s : State)

theorem State.buildSpeed_parts :
    s.buildSpeed =
      { s with
        speed := { s.speed with advertTimer := some (s.now + 5000) }
        ports := s.buildSpeed.ports, deferred := s.buildSpeed.deferred, toll := s.buildSpeed.toll } := by
  unfold State.buildSpeed
  simp only
  generalize s.newFrame _ _ _ _ = f
  have hparts := (State.send_sends f s).parts
  generalize s.send f = t at hparts ⊢
  rw [hparts]
  rfl

theorem State.buildSpeed_offered : s.Offered none (s.speedFrameOf s.speed) s.buildSpeed := by
  have hframe : s.speedFrameOf s.speed =
      s.newFrame .speed 0 1 (SpeedFields.payload ⟨s.advertNow .east, s.advertNow .west, s.lit .east, s.lit .west⟩) := rfl
  rw [hframe]
  exact State.send_offered (State.newFrame_not_voice (by decide) _ _ _ _)

end

/-! ### What an evaluation makes of the state (R131, R135) -/

/-- The speed unit after an evaluation of both faces, before a SPEED is built. -/
def State.evaluatedSpeed (timer : Bool) (s : State) : Speed :=
  { s.speed with faces := ⟨s.evaluatedFace timer .east, s.evaluatedFace timer .west⟩ }

/-- The warnings after an evaluation of both faces. -/
def State.evaluatedWarnings (s : State) : Warnings := s.warnings.closing (s.advisesClosing .east) (s.advisesClosing .west)

/-- The state after an evaluation of both faces, before a SPEED is built. -/
def State.assessed (timer : Bool) (s : State) : State :=
  ({ s with speed := s.evaluatedSpeed timer } : State).closeBoth (s.advisesClosing .east) (s.advisesClosing .west)

/-- The evaluation moved D of neither face. -/
def State.speedStands (timer : Bool) (s : State) : Prop := ∀ g, (s.evaluatedFace timer g).d = (s.speed.faces.get g).d

section
variable (timer : Bool) (s : State)

theorem State.evaluatedSpeed_face (g : Face) : (s.evaluatedSpeed timer).faces.get g = s.evaluatedFace timer g := by
  cases g <;> rfl

theorem State.evaluatedWarnings_closeAdvised (g : Face) :
    s.evaluatedWarnings.closeAdvised.get g = s.advisesClosing g := by
  cases g <;> rfl

theorem State.evaluate_of_stands (h : s.speedStands timer) : s.evaluate timer = s.assessed timer :=
  if_pos ⟨h .east, h .west⟩

theorem State.evaluate_of_moves (h : ¬s.speedStands timer) : s.evaluate timer = (s.assessed timer).buildSpeed := by
  refine if_neg fun ⟨heast, hwest⟩ => h fun g => ?_
  cases g
  · exact heast
  · exact hwest

theorem State.assessed_parts :
    s.assessed timer =
      { s with speed := s.evaluatedSpeed timer, warnings := s.evaluatedWarnings, faces := (s.assessed timer).faces } :=
  State.closeBoth_eq ..

theorem State.assessed_face (g : Face) : (s.assessed timer).faces.get g = (s.reselectedBy s.evaluatedWarnings g).faces.get g :=
  (State.closeBoth_face ..).trans (State.reselectedBy_congr ⟨rfl, rfl, rfl, rfl, rfl⟩ (fun _ => rfl) fun _ => rfl)

theorem State.evaluate_faces : (s.evaluate timer).faces = (s.assessed timer).faces := by
  by_cases h : s.speedStands timer
  · rw [State.evaluate_of_stands timer s h]
  · rw [State.evaluate_of_moves timer s h, State.buildSpeed_parts]

theorem State.evaluate_parts :
    s.evaluate timer =
      { s with
        speed := { s.evaluatedSpeed timer with advertTimer := (s.evaluate timer).speed.advertTimer }
        warnings := s.evaluatedWarnings, faces := (s.assessed timer).faces
        ports := (s.evaluate timer).ports, deferred := (s.evaluate timer).deferred, toll := (s.evaluate timer).toll } := by
  have hassessed := s.assessed_parts timer
  by_cases h : s.speedStands timer
  · rw [State.evaluate_of_stands timer s h]
    generalize s.assessed timer = t at hassessed ⊢
    generalize t.faces = faces at hassessed ⊢
    rw [hassessed]
  · rw [State.evaluate_of_moves timer s h]
    have hparts := (s.assessed timer).buildSpeed_parts
    generalize (s.assessed timer).buildSpeed = u at hparts ⊢
    generalize s.assessed timer = t at hassessed hparts ⊢
    generalize t.faces = faces at hassessed ⊢
    subst hassessed
    rw [hparts]

theorem State.evaluate_face (g : Face) : (s.evaluate timer).faces.get g = (s.reselectedBy s.evaluatedWarnings g).faces.get g := by
  rw [State.evaluate_faces, State.assessed_face]

theorem State.evaluate_speed_face (g : Face) : (s.evaluate timer).speed.faces.get g = s.evaluatedFace timer g := by
  rw [State.evaluate_parts]
  exact State.evaluatedSpeed_face timer s g

theorem State.assessed_lit (g : Face) : (s.assessed timer).lit g = s.lit g := by
  have hface := s.assessed_face timer g
  rw [State.reselectedBy_face_parts] at hface
  have hconfig : (s.assessed timer).config = s.config := by rw [State.assessed_parts]
  simp only [State.lit, hface, hconfig]

/-- What a SPEED carries depends on the speed unit and on which faces are lit. -/
theorem State.speedFrameOf_congr {s s' : State} (hnumber : s.number = s'.number) (hlit : ∀ g, s.lit g = s'.lit g) (x y : Speed)
    (hfaces : x.faces = y.faces) : s.speedFrameOf x = s'.speedFrameOf y := by
  have hnew (payload : List Byte) : s.newFrame .speed 0 1 payload = s'.newFrame .speed 0 1 payload := by
    simp only [State.newFrame, hnumber]
  simp only [State.speedFrameOf, hnew, hlit, hfaces]

/-- An evaluation sends a SPEED exactly where it moved D (R135, R136). -/
theorem State.evaluate_speedSent : s.SpeedSent (s.evaluate timer) := by
  refine ⟨fun h => ?_, fun ⟨g, hg⟩ => ?_⟩
  · have hstands : s.speedStands timer := fun g => by rw [← h g, State.evaluate_speed_face]
    rw [State.evaluate_of_stands timer s hstands, State.assessed_parts]
    exact ⟨rfl, rfl, rfl, rfl⟩
  · have hmoves : ¬s.speedStands timer := fun hstands => hg (by rw [State.evaluate_speed_face]; exact hstands g)
    have hoffered := (s.assessed timer).buildSpeed_offered
    have hparts := (s.assessed timer).buildSpeed_parts
    have hframe : (s.assessed timer).speedFrameOf (s.assessed timer).speed = s.speedFrameOf (s.assessed timer).buildSpeed.speed := by
      refine State.speedFrameOf_congr ?_ (s.assessed_lit timer) _ _ ?_
      · rw [State.assessed_parts]
      · rw [hparts]
    rw [State.evaluate_of_moves timer s hmoves]
    rw [hframe] at hoffered
    have hnow : (s.assessed timer).buildSpeed.speed.advertTimer = some ((s.assessed timer).buildSpeed.now + 5000) := by
      rw [hparts]
    refine ⟨hnow, ?_⟩
    have hassessed := s.assessed_parts timer
    generalize (s.assessed timer).buildSpeed = t at hoffered ⊢
    generalize s.assessed timer = u at hoffered hassessed
    generalize u.faces = faces at hassessed
    subst hassessed
    exact hoffered

end

/-! ### One immediate evaluation (R131, R134) -/

/-- What an evaluation finds depends on the readings, the incidents, the configuration and the held advert. -/
theorem State.evaluation_congr {g : Face} {s s' : State} (hreadings : s.readings = s'.readings)
    (hincidents : s.incidents = s'.incidents) (hconfig : s.config = s'.config)
    (hadvert : (s.speed.faces.get g).advert = (s'.speed.faces.get g).advert) : s.evaluation g = s'.evaluation g := by
  simp only [State.evaluation, State.readingValue, hreadings, hincidents, hconfig, hadvert]

theorem State.evaluatedFace_immediate (g : Face) (s : State) :
    s.evaluatedFace false g =
      { d := min (s.evaluation g).t (s.speed.faces.get g).d
        raiseCount := if (s.evaluation g).t ≤ (s.speed.faces.get g).d then 0 else (s.speed.faces.get g).raiseCount
        last := some (s.evaluation g), advert := (s.speed.faces.get g).advert
        nearestUsed := nearestAhead g s.incidents.table } := by
  unfold State.evaluatedFace shownValue
  simp only
  rcases Int.lt_trichotomy (s.evaluation g).t (s.speed.faces.get g).d with hlt | heq | hgt
  · simp [hlt, hlt.le]
  · simp [heq]
  · simp [hgt.le, not_lt.2 hgt.le, hgt.ne', not_le.2 hgt]

theorem State.evaluatedFace_advert (timer : Bool) (g : Face) (s : State) :
    (s.evaluatedFace timer g).advert = (s.speed.faces.get g).advert := rfl

theorem State.evaluate_evaluation (timer : Bool) (g : Face) (s : State) : (s.evaluate timer).evaluation g = s.evaluation g := by
  refine State.evaluation_congr ?_ ?_ ?_ (by rw [State.evaluate_speed_face]; rfl)
  all_goals rw [State.evaluate_parts]

/-- CLOSE_ADVISED stands exactly where a_raw is below Vmin (R129). -/
theorem State.evaluate_closeAdvised (timer : Bool) (g : Face) (s : State) :
    (s.evaluate timer).warnings.closeAdvised.get g = true ↔ (s.evaluation g).aRaw < (s.config.vmin : Int) := by
  rw [State.evaluate_parts]
  change s.evaluatedWarnings.closeAdvised.get g = true ↔ _
  rw [State.evaluatedWarnings_closeAdvised]
  exact decide_eq_true_iff

theorem State.evaluate_evaluatedNow (s : State) : s.EvaluatedNow (s.evaluate false) := by
  refine ⟨fun g => ?_, ?_, s.evaluate_speedSent false⟩
  · have hconfig : (s.evaluate false).config = s.config := by rw [State.evaluate_parts]
    have hincidents : (s.evaluate false).incidents = s.incidents := by rw [State.evaluate_parts]
    simp only [State.evaluate_evaluation, hconfig, hincidents]
    exact ⟨(s.evaluate_speed_face false g).trans (State.evaluatedFace_immediate g s), s.evaluate_closeAdvised false g⟩
  · rw [State.evaluate_parts]
    rfl

/-- An evaluation between a state that differs in warnings and selectors stands between the states themselves. -/
theorem State.EvaluatedNow.of_faces {s t : State} {warnings : Warnings} {faces : PerSide FaceUnit}
    (hlit : ∀ g, ({ s with faces := faces } : State).lit g = s.lit g)
    (h : ({ s with warnings := warnings, faces := faces } : State).EvaluatedNow t) : s.EvaluatedNow t := by
  obtain ⟨hfaces, htimer, hstands, hmoves⟩ := h
  refine ⟨hfaces, htimer, hstands, fun hmoved => ?_⟩
  obtain ⟨hadvert, hoffered⟩ := hmoves hmoved
  have hframe : State.speedFrameOf t.speed { s with warnings := warnings, faces := faces } = s.speedFrameOf t.speed :=
    State.speedFrameOf_congr (s := { s with warnings := warnings, faces := faces }) (s' := s) rfl hlit _ _ rfl
  rw [hframe] at hoffered
  exact ⟨hadvert, hoffered⟩

/-! ### The evaluator's change and then the evaluation -/

/-- The warnings become `w`, and one immediate evaluation follows. -/
def State.warnThenEvaluate (w : Warnings) (s : State) : State := (s.setWarnings w).evaluate false

section
variable (w : Warnings) (s : State)

theorem State.setWarnings_face_parts (g : Face) :
    (s.setWarnings w).faces.get g = { s.faces.get g with selector := ((s.setWarnings w).faces.get g).selector } := by
  rw [State.setWarnings_face]
  exact State.reselectedBy_face_parts w g s

theorem State.setWarnings_lit (g : Face) : ({ s with faces := (s.setWarnings w).faces } : State).lit g = s.lit g := by
  simp only [State.lit]
  rw [State.setWarnings_face_parts]

theorem State.warnThenEvaluate_evaluatedNow : s.EvaluatedNow (s.warnThenEvaluate w) := by
  have h := (s.setWarnings w).evaluate_evaluatedNow
  unfold State.warnThenEvaluate
  generalize (s.setWarnings w).evaluate false = t at h ⊢
  rw [State.setWarnings_eq] at h
  exact State.EvaluatedNow.of_faces (State.setWarnings_lit w s) h

theorem State.warnThenEvaluate_parts :
    s.warnThenEvaluate w =
      { s with
        speed := (s.warnThenEvaluate w).speed
        warnings := { w with closeAdvised := (s.warnThenEvaluate w).warnings.closeAdvised }
        faces := (s.warnThenEvaluate w).faces
        ports := (s.warnThenEvaluate w).ports, deferred := (s.warnThenEvaluate w).deferred
        toll := (s.warnThenEvaluate w).toll } := by
  have hset := s.setWarnings_eq w
  have heval := (s.setWarnings w).evaluate_parts false
  unfold State.warnThenEvaluate
  generalize (s.setWarnings w).evaluate false = t at heval ⊢
  generalize (s.setWarnings w).assessed false = j at heval
  generalize s.setWarnings w = u at hset heval
  generalize u.faces = faces at hset
  subst hset
  rw [heval]
  rfl

theorem State.warnThenEvaluate_face (g : Face) :
    (s.warnThenEvaluate w).faces.get g =
      ((s.reselectedBy w g).reselectedBy (s.warnThenEvaluate w).warnings g).faces.get g := by
  have hwarnings : (s.warnThenEvaluate w).warnings = (s.setWarnings w).evaluatedWarnings := by
    unfold State.warnThenEvaluate
    rw [State.evaluate_parts]
  rw [hwarnings]
  change ((s.setWarnings w).evaluate false).faces.get g = _
  rw [State.evaluate_face]
  have hset := s.setWarnings_eq w
  have hface := s.setWarnings_face w g
  have hre := s.reselectedBy_eq w g
  generalize (s.setWarnings w).evaluatedWarnings = w'
  generalize s.setWarnings w = u at hset hface ⊢
  generalize s.reselectedBy w g = v at hface hre ⊢
  refine State.reselectedBy_congr ⟨hface, ?_, ?_, ?_, ?_⟩ ?_ fun _ => rfl
  all_goals rw [hset, hre]
  exact fun _ => rfl

end

end Sys2Proof.Machine
end

section
/-! What a change of the warnings makes of the faces, and the timers of the speed unit (R118, R132 to R139). -/
namespace Sys2Proof.Machine
open Sys2Proof

/-! ### The faces move with the warnings (R118, R135) -/

/-- Between `s` and `t` each face was selected where its set changed: first by readings and incidents, then by CLOSE_ADVISED. -/
def State.FacesMove (s t : State) : Prop :=
  ∀ g : Face,
    t.faces.get g =
      ((s.reselectedBy { t.warnings with closeAdvised := s.warnings.closeAdvised } g).reselectedBy t.warnings g).faces.get g

theorem State.reselectedBy_warnings (w : Warnings) (g : Face) (s : State) : (s.reselectedBy w g).warnings = w := by
  rw [State.reselectedBy_eq]

theorem State.reselectedBy_twice (w : Warnings) (g : Face) (s : State) :
    ((s.reselectedBy w g).reselectedBy w g).faces.get g = (s.reselectedBy w g).faces.get g := by
  refine State.reselectedBy_same ?_
  rw [State.reselectedBy_warnings]
  exact fun _ => rfl

/-- What selections depend on is the same after a change of the warnings. -/
theorem State.SameSign.reselectedBy {g : Face} {s s' : State} {w : Warnings} (h : State.SameSign g s s')
    (hw : s.warnings = s'.warnings) : State.SameSign g (s.reselectedBy w g) (s'.reselectedBy w g) := by
  have hface := State.reselectedBy_congr (w := w) (w' := w) h (fun _ => by rw [hw]) fun _ => rfl
  have hparts := s.reselectedBy_eq w g
  have hparts' := s'.reselectedBy_eq w g
  generalize s.reselectedBy w g = u at hface hparts ⊢
  generalize s'.reselectedBy w g = u' at hface hparts' ⊢
  refine ⟨hface, ?_, ?_, ?_, ?_⟩
  all_goals rw [hparts, hparts']
  exacts [h.pages, h.now, h.joined, h.config]

section
variable {s s' t : State}

theorem State.FacesMove.congr (hsign : ∀ g, State.SameSign g s s') (hwarnings : s.warnings = s'.warnings) (h : s'.FacesMove t) :
    s.FacesMove t := by
  intro g
  rw [h g, ← hwarnings]
  refine (State.reselectedBy_congr ((hsign g).reselectedBy hwarnings) (fun x => ?_) fun _ => rfl).symm
  rw [State.reselectedBy_warnings, State.reselectedBy_warnings]

theorem State.facesMove_of_same (hfaces : t.faces = s.faces) (hwarnings : t.warnings = s.warnings) : s.FacesMove t := by
  intro g
  rw [hfaces, hwarnings, State.reselectedBy_twice, State.reselectedBy_same fun _ => rfl]

end

section
variable (s : State)

theorem State.evaluate_facesMove (timer : Bool) : s.FacesMove (s.evaluate timer) := by
  intro g
  have hwarnings : (s.evaluate timer).warnings = s.evaluatedWarnings := by rw [State.evaluate_parts]
  rw [State.evaluate_face, hwarnings]
  have hsame : ({ s.evaluatedWarnings with closeAdvised := s.warnings.closeAdvised } : Warnings) = s.warnings := rfl
  rw [hsame]
  have hface := State.reselectedBy_same (s := s) (g := g) (w := s.warnings) fun _ => rfl
  have hparts := s.reselectedBy_eq s.warnings g
  generalize s.reselectedBy s.warnings g = u at hface hparts ⊢
  refine (State.reselectedBy_congr ⟨hface, ?_, ?_, ?_, ?_⟩ ?_ fun _ => rfl).symm
  all_goals rw [hparts]
  exact fun _ => rfl

variable (w : Warnings)

theorem State.warnThenEvaluate_facesMove (hw : w.closeAdvised = s.warnings.closeAdvised) : s.FacesMove (s.warnThenEvaluate w) := by
  intro g
  have hwarnings : ({ (s.warnThenEvaluate w).warnings with closeAdvised := s.warnings.closeAdvised } : Warnings) = w := by
    rw [State.warnThenEvaluate_parts, ← hw]
  rw [hwarnings]
  exact s.warnThenEvaluate_face w g

theorem State.setWarnings_facesMove (hw : w.closeAdvised = s.warnings.closeAdvised) : s.FacesMove (s.setWarnings w) := by
  intro g
  have hwarnings : (s.setWarnings w).warnings = w := by rw [State.setWarnings_eq]
  rw [hwarnings, ← hw, State.reselectedBy_twice]
  exact s.setWarnings_face w g

end

/-! ### The faces follow an event (R118, R135, R158) -/

theorem State.FacesMove.face_parts {s t : State} (h : s.FacesMove t) (g : Face) :
    t.faces.get g = { s.faces.get g with selector := (t.faces.get g).selector } := by
  have hmove := h g
  rw [State.reselectedBy_face_parts, State.reselectedBy_face_parts] at hmove
  rw [hmove]

/-- The faces follow an event that moves them with the warnings. -/
theorem State.facesFollow_withImages {act : State → State} {s : State}
    (h : ({ s with now := (act s).now } : State).FacesMove (act s)) (hjoined : (act s).joined = s.joined)
    (hconfig : (act s).config = s.config) : s.FacesFollow (s.withImages act) := by
  intro g
  have hparts := State.withImages_parts act s
  have hnow : (s.withImages act).now = (act s).now := by rw [hparts]
  have hwarnings : (s.withImages act).warnings = (act s).warnings := by rw [hparts]
  refine ⟨?_, State.imageFollows_withImages (h.face_parts g) hjoined hconfig⟩
  rw [State.withImages_selector, hnow, hwarnings]
  exact congrArg _ (h g)

/-- The faces follow an event that takes no time. -/
theorem State.facesFollow_of_move {act : State → State} {s : State} (hnow : (act s).now = s.now) (h : s.FacesMove (act s))
    (hjoined : (act s).joined = s.joined) (hconfig : (act s).config = s.config) : s.FacesFollow (s.withImages act) := by
  refine State.facesFollow_withImages ?_ hjoined hconfig
  rw [hnow]
  exact h

/-! ### The evaluation timer (R131, R132) -/

theorem shownValue_timer (t d : Int) (raiseCount : Nat) :
    shownValue true t d raiseCount =
      if t < d then (t, 0) else if t = d then (d, 0) else if 3 ≤ raiseCount + 1 then (min t (d + 20), 0) else (d, raiseCount + 1) := rfl

/-- What the evaluation timer's expiry does once the clock has reached its moment. -/
def State.evaluationTimerEnds (s : State) : State :=
  (s.evaluate true).modSpeed fun x => { x with evaluationTimer := s.startTimer 10000 }

theorem State.evaluationTimerEnds_parts (s : State) :
    s.evaluationTimerEnds =
      { s.evaluate true with speed := { (s.evaluate true).speed with evaluationTimer := some (s.now + 10000) } } := rfl

theorem State.evaluatedFace_timer_cases (g : Face) (s : State) :
    let x := s.speed.faces.get g
    let y := s.evaluatedFace true g
    let e := s.evaluation g
    (e.t < x.d → y.d = e.t ∧ y.raiseCount = 0) ∧ (e.t = x.d → y.d = x.d ∧ y.raiseCount = 0) ∧
      (x.d < e.t → x.raiseCount < 2 → y.d = x.d ∧ y.raiseCount = x.raiseCount + 1) ∧
      (x.d < e.t → 2 ≤ x.raiseCount → y.d = min e.t (x.d + 20) ∧ y.raiseCount = 0) := by
  simp only [State.evaluatedFace, shownValue_timer]
  refine ⟨fun h => ?_, fun h => ?_, fun h hc => ?_, fun h hc => ?_⟩
  · simp [h]
  · simp [h]
  · simp [h.not_gt, h.ne', show ¬3 ≤ (s.speed.faces.get g).raiseCount + 1 by omega]
  · simp [h.not_gt, h.ne', show 3 ≤ (s.speed.faces.get g).raiseCount + 1 by omega]

/-- Settles O36. -/
theorem evaluationTimerMovesTheSpeed : Obligations.EvaluationTimerMovesTheSpeed := by
  intro s due hreset hdue now'
  have hexec : exec .evaluationTimerExpiry s = .next ((s.clockTo due).withImages State.evaluationTimerEnds) := by
    change (.next (s.onSignTimer s.speed.evaluationTimer State.evaluationTimerEnds) : Result) = _
    rw [hdue, State.onSignTimer_running due _ hreset]
  refine ⟨_, hexec, ?_⟩
  have himages := State.withImages_parts State.evaluationTimerEnds (s.clockTo due)
  have hact := (s.clockTo due).evaluationTimerEnds_parts
  have heval := (s.clockTo due).evaluate_parts true
  have hsent := (s.clockTo due).evaluate_speedSent true
  have hclose (g : Face) := (s.clockTo due).evaluate_closeAdvised true g
  have hface (g : Face) := (s.clockTo due).evaluate_speed_face true g
  have hmove := (s.clockTo due).evaluate_facesMove true
  have hfollow : (s.clockTo due).FacesFollow ((s.clockTo due).withImages State.evaluationTimerEnds) := by
    refine State.facesFollow_withImages ?_ ?_ ?_
    · have hnow : (s.clockTo due).evaluationTimerEnds.now = (s.clockTo due).now := by rw [hact, heval]
      rw [hnow]
      exact hmove
    · rw [hact, heval]
    · rw [hact, heval]
  generalize (s.clockTo due).withImages State.evaluationTimerEnds = t at himages hfollow ⊢
  generalize t.faces = faces at himages
  generalize t.faults = faults at himages
  rw [hact] at himages
  generalize (s.clockTo due).evaluate true = v at heval hsent hclose hface himages
  have hsentT : s.SpeedSent t := by
    rw [himages]
    exact hsent
  have hspeed (g : Face) : t.speed.faces.get g = (s.clockTo due).evaluatedFace true g := by
    rw [himages]
    exact hface g
  refine ⟨?_, ?_, hsentT, hfollow, fun g => ?_⟩
  · rw [himages, heval]
    rfl
  · rw [himages]
    rfl
  · obtain ⟨hfall, hstay, hwait, hraise⟩ := (s.clockTo due).evaluatedFace_timer_cases g
    rw [hspeed]
    refine ⟨rfl, rfl, rfl, hfall, hstay, hwait, hraise, ?_⟩
    rw [himages]
    exact hclose g

end Sys2Proof.Machine
end

section
/-! Adverts: sent every 5 s, held from the adjacent station, forgotten after 15 s (R136 to R139). -/
namespace Sys2Proof.Machine
open Sys2Proof

/-! ### A SPEED of the adjacent station (R138) -/

section
variable {p : Side} {bytes : List Byte} {f : Frame} {x : SpeedFields} {s : State}

/-- The advert that a SPEED arriving at this port carries for the face on that side. -/
def SpeedFields.towards (x : SpeedFields) : Side → Int
  | .east => x.e
  | .west => x.w

/-- The advert held after a SPEED of this station. -/
def State.newAdvert (p : Side) (origin : Nat) (x : SpeedFields) (s : State) : HeldAdvert :=
  ⟨x.towards p, origin, x.litE, x.litW, s.now⟩

theorem State.takeSpeed_far (h : f.hops ≠ 1) : s.takeSpeed p f x = s := if_neg h

theorem State.takeSpeed_held (h : f.hops = 1) (hn : (s.speed.faces.get p).d ≤ x.towards p + 20) :
    s.takeSpeed p f x = s.setAdvert p (some (s.newAdvert p f.origin x)) := by
  unfold State.takeSpeed
  rw [if_pos h]
  exact if_neg (Int.not_lt.2 hn)

theorem State.takeSpeed_evaluates (h : f.hops = 1) (hn : x.towards p + 20 < (s.speed.faces.get p).d) :
    s.takeSpeed p f x = (s.setAdvert p (some (s.newAdvert p f.origin x))).evaluate false := by
  unfold State.takeSpeed
  rw [if_pos h]
  exact if_pos hn

theorem State.Arrives.exec_speed (h : s.Arrives p bytes f) (hj : s.joined = true) (ht : f.TakenBy .speed true s.number)
    (hp : parseSpeed f.payload = some x) :
    exec (.lineFrameArrives p bytes) s = .next (s.withImages fun _ => (s.reached p f).takeSpeed p f.counted x) := by
  have hhanded : (s.reached p f).handTo .speed p f.counted = (s.reached p f).takeSpeed p f.counted x := by
    simp only [State.handTo, Frame.counted, hp, State.taking]
  rw [h.exec_eq ht.1 (by decide) (State.reached_takesKind (by simp) hj ht), hhanded]

/-- The advert of a face does not stand in its image's key. -/
theorem State.setAdvert_imageKey (p : Side) (a : Option HeldAdvert) (g : Face) (s : State) :
    (s.setAdvert p a).imageKey g = s.imageKey g := by
  have hd : ((s.setAdvert p a).speed.faces.get g).d = (s.speed.faces.get g).d := by
    change ((s.speed.faces.set p { s.speed.faces.get p with advert := a }).get g).d = _
    rw [PerSide.get_set]
    split
    · next e => rw [e]
    · rfl
  unfold State.imageKey
  rw [hd]
  rfl

theorem State.setAdvert_eq (p : Side) (a : Option HeldAdvert) (s : State) :
    s.setAdvert p a =
      { s with speed := { s.speed with faces := s.speed.faces.set p { s.speed.faces.get p with advert := a } } } := rfl

/-- The target of a face with a held advert lies at most 20 above it (R130). -/
theorem State.evaluation_t_le {g : Face} {h : HeldAdvert} {s : State} (hadvert : (s.speed.faces.get g).advert = some h) :
    (s.evaluation g).t ≤ h.n + 20 := by
  simp only [State.evaluation, hadvert, Option.map_some, cascade]
  exact min_le_right ..

end

/-- Settles O37. -/
theorem advertsAreSentHeldAndForgotten : Obligations.AdvertsAreSentHeldAndForgotten := by
  refine ⟨?_, fun g s h hreset hadvert => ?_, ?_⟩
  · intro s due hreset hdue advert
    have hexec : exec .advertTimerExpiry s = .next (s.clockTo due).buildSpeed := by
      change (.next (s.onTimer s.speed.advertTimer State.buildSpeed) : Result) = _
      rw [hdue, State.onTimer_running due _ s hreset]
    exact ⟨_, hexec, (s.clockTo due).buildSpeed_parts, (s.clockTo due).buildSpeed_offered⟩
  · change (.next (s.onTimer ((s.speed.faces.get g).advert.map fun h => h.setAt + 15000) fun s => s.setAdvert g none) :
      Result) = _
    rw [hadvert, Option.map_some, State.onTimer_running _ _ s hreset]
    rfl
  · intro p bytes f x s harrives hjoined htaken hpayload n
    refine ⟨fun hfar => ?_, fun hnear hn => ?_, fun hnear hn => ?_⟩
    · rw [harrives.exec_speed hjoined htaken hpayload, State.takeSpeed_far (by simp [Frame.counted]; omega)]
      exact congrArg _ (State.withImages_of_imageKey_eq fun g => s.reached_imageKey p f g)
    · have hact : (s.reached p f).takeSpeed p f.counted x =
          (s.reached p f).setAdvert p (some ((s.reached p f).newAdvert p f.origin x)) := by
        refine State.takeSpeed_held (by simp [Frame.counted, hnear]) ?_
        obtain ⟨_, _, _, _, _, _, hreached⟩ := s.reached_eq p f
        rw [hreached]
        cases p <;> exact hn
      rw [harrives.exec_speed hjoined htaken hpayload, hact, State.withImages_of_imageKey_eq fun g => by
        rw [State.setAdvert_imageKey, State.reached_imageKey]]
      obtain ⟨_, _, _, _, _, _, hreached⟩ := s.reached_eq p f
      rw [hreached]
      cases p <;> rfl
    · have hact : (s.reached p f).takeSpeed p f.counted x =
          ((s.reached p f).setAdvert p (some ((s.reached p f).newAdvert p f.origin x))).evaluate false := by
        refine State.takeSpeed_evaluates (by simp [Frame.counted, hnear]) ?_
        obtain ⟨_, _, _, _, _, _, hreached⟩ := s.reached_eq p f
        rw [hreached]
        cases p <;> exact hn
      refine ⟨_, harrives.exec_speed hjoined htaken hpayload, ?_⟩
      rw [hact]
      have hadvert : (s.reached p f).newAdvert p f.origin x = ⟨n, f.origin, x.litE, x.litW, s.now⟩ := by
        rw [State.newAdvert, State.reached_now]
        cases p <;> rfl
      rw [hadvert]
      generalize hh : (⟨n, f.origin, x.litE, x.litW, s.now⟩ : HeldAdvert) = h
      have hhn : h.n = n := by rw [← hh]
      obtain ⟨ports, map, deferred, toll, faults, lineFlag, hreached⟩ := s.reached_eq p f
      generalize s.reached p f = u at hreached ⊢
      have hd : (u.speed.faces.get p).d = (s.speed.faces.get p).d := by rw [hreached]
      have heval := (u.setAdvert p (some h)).evaluate_parts false
      have hmove := (u.setAdvert p (some h)).evaluate_facesMove false
      have hevaluated := (u.setAdvert p (some h)).evaluate_evaluatedNow
      have hface (g : Face) := (u.setAdvert p (some h)).evaluate_speed_face false g
      have ht := State.evaluation_t_le (g := p) (h := h) (s := u.setAdvert p (some h)) (by simp [State.setAdvert_eq])
      have hparts := State.withImages_parts (fun _ => (u.setAdvert p (some h)).evaluate false) s
      have hfollow : s.FacesFollow (s.withImages fun _ => (u.setAdvert p (some h)).evaluate false) := by
        refine State.facesFollow_withImages (State.FacesMove.congr (fun g => ?_) ?_ hmove) ?_ ?_
        · rw [heval, State.setAdvert_eq, hreached]
          exact ⟨rfl, rfl, rfl, rfl, rfl⟩
        · rw [State.setAdvert_eq, hreached]
        · rw [heval, State.setAdvert_eq, hreached]
        · rw [heval, State.setAdvert_eq, hreached]
      generalize (s.withImages fun _ => (u.setAdvert p (some h)).evaluate false) = t at hparts hfollow ⊢
      generalize t.faces = faces at hparts
      generalize t.faults = faults' at hparts
      have hspeed (g : Face) : t.speed.faces.get g = (u.setAdvert p (some h)).evaluatedFace false g := by
        rw [hparts]
        exact hface g
      have hnow : (u.setAdvert p (some h)).EvaluatedNow t := by
        rw [hparts]
        exact hevaluated
      refine ⟨?_, ?_, hfollow, ?_, ?_, ?_, ?_⟩
      · rw [hparts, heval, State.setAdvert_eq, hreached]
        rfl
      · rw [State.setAdvert_eq] at hnow
        rw [hreached] at hnow ⊢
        exact hnow
      · rw [hspeed, State.evaluatedFace_advert]
        simp [State.setAdvert_eq]
      · rw [hspeed, State.evaluatedFace_immediate, ← hhn]
        exact (min_le_left ..).trans ht
      · have hset : ((u.setAdvert p (some h)).speed.faces.get p).d = (s.speed.faces.get p).d := by
          rw [← hd]
          simp [State.setAdvert_eq]
        rw [hspeed, State.evaluatedFace_immediate, hset]
        refine if_pos (ht.trans ?_)
        rw [hhn]
        exact hn.le
      · rw [hspeed, State.evaluatedFace_advert, hreached]
        simp [State.setAdvert_eq]

end Sys2Proof.Machine
end

section
/-! The warnings' bands (R119 to R121), the caps and the cascade (R127 to R130). -/
namespace Sys2Proof.Machine
open Sys2Proof

/-! ### Warnings (R119 to R121) -/

theorem icy_eq_true_iff (surface temp : Option Int) :
    icy surface temp = true ↔
      surface = some 4 ∨ ∃ x y, surface = some x ∧ 1 ≤ x ∧ x ≤ 3 ∧ temp = some y ∧ y ≤ 0 := by
  cases surface with
  | none => simp [icy]
  | some st =>
    by_cases h4 : st = 4
    · simp [icy, h4]
    · by_cases hband : 1 ≤ st ∧ st ≤ 3
      · cases temp <;> simp [icy, h4, hband]
      · have hno : ∀ x y : Int, some st = some x → 1 ≤ x → x ≤ 3 → temp = some y → ¬y ≤ 0 := by
          intro x y e hlow hhigh
          cases e
          exact absurd ⟨hlow, hhigh⟩ hband
        simpa [icy, h4, hband] using fun hlow hhigh y => hno st y rfl hlow hhigh

/-- Settles O33. -/
theorem warningsHaveHysteresis : Obligations.WarningsHaveHysteresis := by
  refine ⟨fun w vs => ?_, icy_eq_true_iff, fun w hicy hthaw => ?_, fun w gust hcalm => ?_⟩
  · cases vs with
    | none => simp [Warnings.fogBy]
    | some v =>
      by_cases hlow : v < 150
      · simp [Warnings.fogBy, hlow]
        omega
      · by_cases hhigh : 250 ≤ v
        · simp [Warnings.fogBy, hlow, hhigh]
          omega
        · simp [Warnings.fogBy, hlow, hhigh]
  · refine ⟨rfl, rfl, ?_, rfl, rfl, ?_⟩
    · have hrun : min 2 (w.icyRun + 1) = 2 ↔ 1 ≤ w.icyRun := by omega
      simp [Warnings.iceBy, hrun]
    · have hrun : min 3 (w.thawRun + 1) = 3 ↔ ¬w.thawRun < 2 := by omega
      simp [Warnings.iceBy, hrun]
  · refine ⟨fun h => ?_, fun hlow hhigh => ?_, fun h => ?_⟩
    · simp [Warnings.windBy, h]
    · simp [Warnings.windBy, not_le.2 hhigh, not_lt.2 hlow]
    · have hrun : (min 3 (w.calmCount + 1) != 3) = decide (w.calmCount < 2) := by
        rw [Bool.eq_iff_iff]
        simp only [bne_iff_ne, decide_eq_true_iff]
        omega
      have hgust : ¬80 ≤ gust := by omega
      simp only [Warnings.windBy, if_neg hgust, if_pos h, hrun]

/-! ### The nearest incident ahead (R128, R134) -/

/-- One entry of the table after another: the nearest one ahead so far. -/
def nearerOf (f : Face) (acc : Option Nat) (e : Incident) : Option Nat :=
  if e.side.isAhead f then some (match acc with | none => e.distance | some d => min d e.distance) else acc

theorem nearestAhead_eq (f : Face) (table : List Incident) : nearestAhead f table = table.foldl (nearerOf f) none := rfl

/-- `d` is the least of the distances ahead in the table and the one known before. -/
theorem foldl_nearerOf_eq_some_iff (f : Face) (table : List Incident) (acc : Option Nat) (d : Nat) :
    table.foldl (nearerOf f) acc = some d ↔
      (acc = some d ∨ ∃ e ∈ table, e.side.isAhead f = true ∧ e.distance = d) ∧
        (∀ a, acc = some a → d ≤ a) ∧ ∀ e ∈ table, e.side.isAhead f = true → d ≤ e.distance := by
  induction table generalizing acc with
  | nil => cases acc <;> simp +contextual
  | cons e es ih =>
    rw [List.foldl_cons, ih]
    by_cases hahead : e.side.isAhead f = true
    · cases acc with
      | none => simp [nearerOf, hahead]
      | some a =>
        simp only [nearerOf, hahead, if_true, Option.some.injEq, forall_eq', List.mem_cons, exists_eq_or_imp, forall_eq_or_imp,
          true_and, forall_const]
        constructor
        · rintro ⟨h | h, hle, hall⟩
          · exact ⟨by omega, by omega, by omega, hall⟩
          · exact ⟨.inr (.inr h), by omega, by omega, hall⟩
        · rintro ⟨h | h | h, ha, he, hall⟩
          · exact ⟨.inl (by omega), by omega, hall⟩
          · exact ⟨.inl (by omega), by omega, hall⟩
          · exact ⟨.inr h, by omega, hall⟩
    · simp [nearerOf, hahead]

theorem nearestAhead_eq_some_iff {f : Face} {table : List Incident} {d : Nat} :
    nearestAhead f table = some d ↔
      (∃ e ∈ table, e.side.isAhead f = true ∧ e.distance = d) ∧ ∀ e ∈ table, e.side.isAhead f = true → d ≤ e.distance := by
  rw [nearestAhead_eq, foldl_nearerOf_eq_some_iff]
  simp

theorem foldl_nearerOf_isSome (f : Face) (table : List Incident) (acc : Option Nat) :
    (table.foldl (nearerOf f) acc).isSome = (acc.isSome || table.any fun e => e.side.isAhead f) := by
  induction table generalizing acc with
  | nil => simp
  | cons e es ih =>
    rw [List.foldl_cons, ih]
    by_cases hahead : e.side.isAhead f = true <;> simp [nearerOf, hahead]

theorem nearestAhead_isSome (f : Face) (table : List Incident) :
    (nearestAhead f table).isSome = table.any fun e => e.side.isAhead f := by
  rw [nearestAhead_eq, foldl_nearerOf_isSome]
  simp

theorem nearestAhead_eq_none_iff {f : Face} {table : List Incident} :
    nearestAhead f table = none ↔ ∀ e ∈ table, e.side.isAhead f = false := by
  rw [← Option.not_isSome_iff_eq_none, nearestAhead_isSome]
  simp

/-! ### The caps and the cascade (R127 to R130) -/

theorem StationConfig.valid_speeds {c : StationConfig} (h : c.valid = true) :
    60 ≤ c.vmax ∧ c.vmax ≤ 130 ∧ c.vmax % 10 = 0 ∧ 40 ≤ c.vmin ∧ c.vmin ≤ 80 ∧ c.vmin % 10 = 0 ∧ c.vmin + 20 ≤ c.vmax := by
  simp only [StationConfig.valid, Bool.and_eq_true, decide_eq_true_iff, beq_iff_eq] at h
  omega

theorem capWind_some (vmax g : Int) : capWind vmax (some g) = vmax - max 0 (g - 60) := by
  simp only [capWind]
  split <;> omega

/-- The local advisory between valid limits (R129). -/
theorem localAdvisory_bounds {vmin vmax raw : Int} (hle : vmin ≤ vmax) (hmin : vmin % 10 = 0) (hmax : vmax % 10 = 0)
    (hraw : raw ≤ vmax) :
    vmin ≤ localAdvisory vmin vmax (quantised raw) ∧ localAdvisory vmin vmax (quantised raw) ≤ vmax ∧
      localAdvisory vmin vmax (quantised raw) % 10 = 0 ∧
      (vmin ≤ raw → localAdvisory vmin vmax (quantised raw) ≤ raw ∧ raw < localAdvisory vmin vmax (quantised raw) + 10) ∧
      (raw < vmin → localAdvisory vmin vmax (quantised raw) = vmin) := by
  unfold localAdvisory quantised
  omega

/-- Settles O35. -/
theorem evaluationComputesTheCascade : Obligations.EvaluationComputesTheCascade := by
  intro g s e vmax vmin
  have hgrip (st : Option Int) (h : s.readingValue .surfaceState = st) : e.capGrip = vmax * gripFactor st / 100 := by
    rw [← h]; rfl
  have hinc (n : Option Nat) (h : nearestAhead g s.incidents.table = n) : e.capInc = capInc vmax n := by rw [← h]; rfl
  have hwind (v : Option Int) (h : s.readingValue .gust = v) : e.capWind = capWind vmax v := by rw [← h]; rfl
  have hvis (v : Option Int) (h : s.readings.vs = v) : e.capVis = capVis vmax v := by rw [← h]; rfl
  have ht (n : Option HeldAdvert) (h : (s.speed.faces.get g).advert = n) : e.t = cascade e.a (n.map (·.n)) := by rw [← h]; rfl
  have hraw : e.aRaw = min vmax (min e.capVis (min e.capGrip (min e.capWind e.capInc))) := rfl
  have hq : e.aQ = quantised e.aRaw := rfl
  have ha : e.a = localAdvisory vmin vmax e.aQ := rfl
  generalize e = e at hgrip hinc hwind hvis ht hraw hq ha ⊢
  have hvalid (h : s.config.valid = true) :
      60 ≤ vmax ∧ vmax ≤ 130 ∧ vmax % 10 = 0 ∧ 40 ≤ vmin ∧ vmin ≤ vmax ∧ vmin % 10 = 0 := by
    have := StationConfig.valid_speeds h
    omega
  have hadvisory (h : s.config.valid = true) :=
    localAdvisory_bounds (raw := e.aRaw) (hvalid h).2.2.2.2.1 (hvalid h).2.2.2.2.2 (hvalid h).2.2.1 (by omega)
  rw [← hq, ← ha] at hadvisory
  refine ⟨hvis none, fun v hv => hvis _ hv, ?_, hgrip (some 1), hgrip (some 2), hgrip (some 3), hgrip (some 4), hwind none,
    fun v hv => (hwind _ hv).trans (capWind_some ..), fun h => hinc none (nearestAhead_eq_none_iff.2 h),
    fun x hx hahead hleast => hinc (some x.distance) (nearestAhead_eq_some_iff.2 ⟨⟨x, hx, hahead, rfl⟩, hleast⟩),
    by omega, ?_, ?_, hadvisory, ht none, fun h hh => ht _ hh, fun hv hheld => ?_⟩
  · rintro (h | h)
    · rw [hgrip none h]
      exact Int.mul_ediv_cancel _ (by decide)
    · rw [hgrip (some 0) h]
      exact Int.mul_ediv_cancel _ (by decide)
  · rw [hq, quantised]
    omega
  · rw [ha, localAdvisory]
    split <;> omega
  · obtain ⟨hlow, hhigh, htens, -, -⟩ := hadvisory hv
    obtain ⟨-, -, -, hmin, -, -⟩ := hvalid hv
    cases hadvert : (s.speed.faces.get g).advert with
    | none =>
      rw [ht none hadvert]
      simp only [Option.map_none, cascade]
      omega
    | some x =>
      obtain ⟨hx, hx', hx10⟩ := hheld x hadvert
      rw [ht _ hadvert]
      simp only [Option.map_some, cascade]
      omega

end Sys2Proof.Machine
end

section
/-! The incident table, each operation said once: what a change of the table hands on, and what enters and leaves (R104 to R109, R122,
R134). -/
namespace Sys2Proof.Machine
open Sys2Proof

/-! ### A change of the table is handed on (R108, R118, R134) -/

/-- Some immediate evaluation is due after the table of this state came to stand. -/
def State.judgesIncidents (cause : Bool) (s : State) : Prop :=
  cause = true ∨ (∃ g : Face, s.warnings.incident.get g = false ∧ s.incidentWarnings.incident.get g = true) ∨
    ∃ (g : Face) (d : Nat), nearestAhead g s.incidents.table = some d ∧
      ∀ u, (s.speed.faces.get g).nearestUsed = some u → d < u

/-- Between `s` and `t` no D, no queue and no timer of the speed unit changed. -/
def State.Unjudged (s t : State) : Prop :=
  t.speed = s.speed ∧ t.ports = s.ports ∧ t.deferred = s.deferred ∧ t.toll = s.toll

/-- What a change of the incident table can change beside it. -/
structure State.IncidentStep (s t : State) : Prop where
  parts : t = { s with
    incidents := t.incidents, speed := t.speed
    warnings := { s.warnings with incident := t.warnings.incident, closeAdvised := t.warnings.closeAdvised }
    faces := t.faces, ports := t.ports, deferred := t.deferred, toll := t.toll }
  faces : s.FacesMove t

section
variable (s : State)

theorem State.incidentWarnings_get (g : Face) :
    s.incidentWarnings.incident.get g = s.incidents.table.any fun e => e.side.isAhead g := by
  cases g <;> rfl

theorem State.nearerThanUsed_iff (g : Face) :
    s.nearerThanUsed g = true ↔
      ∃ d, nearestAhead g s.incidents.table = some d ∧ ∀ u, (s.speed.faces.get g).nearestUsed = some u → d < u := by
  unfold State.nearerThanUsed
  cases nearestAhead g s.incidents.table with
  | none => simp
  | some d => cases (s.speed.faces.get g).nearestUsed <;> simp

theorem Warnings.incidentTurnsOn_iff (a b : Warnings) (g : Face) :
    a.incidentTurnsOn b g = true ↔ a.incident.get g = false ∧ b.incident.get g = true := by
  simp [Warnings.incidentTurnsOn]

theorem PerSide.exists_iff {P : Side → Prop} : (∃ g, P g) ↔ P .east ∨ P .west := by
  constructor
  · rintro ⟨g, h⟩
    cases g
    · exact .inl h
    · exact .inr h
  · rintro (h | h)
    · exact ⟨_, h⟩
    · exact ⟨_, h⟩

open Classical in
theorem State.incidentsChanged_eq (cause : Bool) :
    s.incidentsChanged cause =
      if s.judgesIncidents cause then s.warnThenEvaluate s.incidentWarnings else s.setWarnings s.incidentWarnings := by
  have hnearer (g : Face) : (s.setWarnings s.incidentWarnings).nearerThanUsed g = s.nearerThanUsed g := by
    rw [State.setWarnings_eq]
    rfl
  have hiff : (cause || s.warnings.incidentTurnsOn s.incidentWarnings .east ||
      s.warnings.incidentTurnsOn s.incidentWarnings .west || s.nearerThanUsed .east || s.nearerThanUsed .west) = true ↔
      s.judgesIncidents cause := by
    simp only [State.judgesIncidents, PerSide.exists_iff, ← State.nearerThanUsed_iff, ← Warnings.incidentTurnsOn_iff,
      Bool.or_eq_true, or_assoc]
  unfold State.incidentsChanged
  simp only [hnearer, hiff]
  rfl

section
variable {s}
variable {cause : Bool}

theorem State.incidentsChanged_judged (h : s.judgesIncidents cause) :
    s.incidentsChanged cause = s.warnThenEvaluate s.incidentWarnings := by rw [State.incidentsChanged_eq, if_pos h]

theorem State.incidentsChanged_unjudged (h : ¬s.judgesIncidents cause) :
    s.incidentsChanged cause = s.setWarnings s.incidentWarnings := by rw [State.incidentsChanged_eq, if_neg h]

theorem State.incidentsChanged_evaluatedNow (h : s.judgesIncidents cause) : s.EvaluatedNow (s.incidentsChanged cause) := by
  rw [State.incidentsChanged_judged h]
  exact State.warnThenEvaluate_evaluatedNow _ s

theorem State.incidentsChanged_stands (h : ¬s.judgesIncidents cause) : s.Unjudged (s.incidentsChanged cause) := by
  rw [State.incidentsChanged_unjudged h, State.setWarnings_eq]
  exact ⟨rfl, rfl, rfl, rfl⟩

end

theorem State.incidentsChanged_step (cause : Bool) : s.IncidentStep (s.incidentsChanged cause) := by
  by_cases h : s.judgesIncidents cause
  · rw [State.incidentsChanged_judged h]
    refine ⟨?_, State.warnThenEvaluate_facesMove s _ rfl⟩
    have hparts := State.warnThenEvaluate_parts s.incidentWarnings s
    generalize s.warnThenEvaluate s.incidentWarnings = t at hparts ⊢
    generalize t.faces = faces at hparts ⊢
    rw [hparts]
    rfl
  · rw [State.incidentsChanged_unjudged h]
    refine ⟨?_, State.setWarnings_facesMove s _ rfl⟩
    have hparts := State.setWarnings_eq s.incidentWarnings s
    generalize s.setWarnings s.incidentWarnings = t at hparts ⊢
    generalize t.faces = faces at hparts ⊢
    rw [hparts]
    rfl

theorem State.incidentsChanged_incidents (cause : Bool) : (s.incidentsChanged cause).incidents = s.incidents := by
  by_cases h : s.judgesIncidents cause
  · rw [State.incidentsChanged_judged h, State.warnThenEvaluate_parts]
  · rw [State.incidentsChanged_unjudged h, State.setWarnings_eq]

theorem State.incidentsChanged_incident (cause : Bool) :
    (s.incidentsChanged cause).warnings.incident = s.incidentWarnings.incident := by
  by_cases h : s.judgesIncidents cause
  · rw [State.incidentsChanged_judged h, State.warnThenEvaluate_parts]
  · rw [State.incidentsChanged_unjudged h, State.setWarnings_eq]

end

/-! ### The table is changed -/

/-- The incident table replaced. -/
def State.withTable (table : List Incident) (s : State) : State :=
  { s with incidents := { s.incidents with table := table } }

theorem State.IncidentStep.rfl' (s : State) : s.IncidentStep s := ⟨rfl, State.facesMove_of_same rfl rfl⟩

/-- What a change of the incident records hands on counts from the state before it. -/
theorem State.IncidentStep.of_incidents {s t : State} {incidents : Incidents}
    (h : ({ s with incidents := incidents } : State).IncidentStep t) : s.IncidentStep t :=
  ⟨h.parts, State.FacesMove.congr (s' := { s with incidents := incidents }) (fun _ => ⟨rfl, rfl, rfl, rfl, rfl⟩) rfl h.faces⟩

/-! ### The entry that a full table gives up (R107) -/

theorem replacementVictim_cons (e : Incident) (es : List Incident) :
    replacementVictim (e :: es) =
      match replacementVictim es with
      | none => some e
      | some v =>
        if e.distance < v.distance then some v
        else if v.distance < e.distance then some e
        else if v.touchedAt < e.touchedAt then some v
        else some e := rfl

theorem replacementVictim_eq_none_iff {es : List Incident} : replacementVictim es = none ↔ es = [] := by
  cases es with
  | nil => simp [replacementVictim]
  | cons e es =>
    rw [replacementVictim_cons]
    split
    · simp
    · split_ifs <;> simp

/-- The victim stands farthest. -/
theorem replacementVictim_farthest {es : List Incident} {v : Incident} (h : replacementVictim es = some v) :
    ∀ e ∈ es, e.distance ≤ v.distance := by
  induction es generalizing v with
  | nil => simp
  | cons e es ih =>
    rw [replacementVictim_cons] at h
    rw [List.forall_mem_cons]
    cases hw : replacementVictim es with
    | none =>
      rw [hw] at h
      cases h
      simp [replacementVictim_eq_none_iff.1 hw]
    | some w =>
      rw [hw] at h
      have hall := ih hw
      simp only at h
      split_ifs at h with hlt hgt htouched
      all_goals cases h
      · exact ⟨hlt.le, hall⟩
      · exact ⟨le_rfl, fun x hx => (hall x hx).trans hgt.le⟩
      · exact ⟨Nat.not_lt.1 hgt, hall⟩
      · exact ⟨le_rfl, fun x hx => (hall x hx).trans (Nat.not_lt.1 hlt)⟩

/-- The farthest entry, the oldest among those and then the foremost is the victim. -/
theorem replacementVictim_eq {before after : List Incident} {v : Incident}
    (hbefore : ∀ x ∈ before, x.distance < v.distance ∨ x.distance = v.distance ∧ v.touchedAt < x.touchedAt)
    (hafter : ∀ x ∈ after, x.distance < v.distance ∨ x.distance = v.distance ∧ v.touchedAt ≤ x.touchedAt) :
    replacementVictim (before ++ v :: after) = some v := by
  induction before with
  | nil =>
    rw [List.nil_append, replacementVictim_cons]
    cases hw : replacementVictim after with
    | none => rfl
    | some w =>
      have hmem := replacementVictim_mem hw
      simp only
      rcases hafter w hmem with hlt | ⟨heq, htouched⟩
      · rw [if_neg (by omega), if_pos hlt]
      · rw [if_neg (by omega), if_neg (by omega), if_neg (by omega)]
  | cons b before ih =>
    rw [List.forall_mem_cons] at hbefore
    obtain ⟨hb, hrest⟩ := hbefore
    rw [List.cons_append, replacementVictim_cons, ih hrest]
    simp only
    rcases hb with hlt | ⟨heq, htouched⟩
    · rw [if_pos hlt]
    · rw [if_neg (by omega), if_neg (by omega), if_pos htouched]

/-! ### A notice comes to the table (R105 to R107) -/

section
variable {e x v : Incident} {s : State}

/-- The entry that a table already has under the notice's key. -/
def State.listedIncident (origin : Nat) (callId : Byte) (s : State) : Option Incident :=
  s.incidents.table.find? fun x => x.hasKey origin callId

/-- The table with the notice in the place of the entry of its key. -/
def State.refreshedTable (e : Incident) (s : State) : List Incident :=
  s.incidents.table.map fun y => if y.hasKey e.origin e.callId then e else y

/-- The table with the victim's place taken. -/
def State.replacedTable (e v : Incident) (s : State) : List Incident :=
  (s.incidents.table.filter fun y => !y.hasKey v.origin v.callId) ++ [e]

theorem State.enterIncident_cleared (h : s.incidents.wasCleared e.origin e.callId = true) : s.enterIncident e = s := if_pos h

variable (hkey : s.incidents.wasCleared e.origin e.callId = false)
include hkey

theorem State.enterIncident_kept (hx : s.listedIncident e.origin e.callId = some x)
    (hsame : x.side = e.side ∧ x.distance = e.distance) : s.enterIncident e = s.withTable (s.refreshedTable e) := by
  unfold State.listedIncident at hx
  simp only [State.enterIncident, hkey, hx, if_pos hsame]
  rfl

theorem State.enterIncident_moved (hx : s.listedIncident e.origin e.callId = some x)
    (hmoved : ¬(x.side = e.side ∧ x.distance = e.distance)) :
    s.enterIncident e = (s.withTable (s.refreshedTable e)).incidentsChanged (e.distance < x.distance) := by
  unfold State.listedIncident at hx
  simp only [State.enterIncident, hkey, hx, if_neg hmoved]
  rfl

variable (hx : s.listedIncident e.origin e.callId = none)
include hx

theorem State.enterIncident_added (hroom : s.incidents.table.length < 8) :
    s.enterIncident e = (s.withTable (s.incidents.table ++ [e])).incidentsChanged true := by
  unfold State.listedIncident at hx
  simp only [State.enterIncident, hkey, hx, if_pos hroom]
  rfl

theorem State.enterIncident_replaced (hfull : 8 ≤ s.incidents.table.length)
    (hv : replacementVictim s.incidents.table = some v) (hnearer : e.distance < v.distance) :
    s.enterIncident e = (s.withTable (s.replacedTable e v)).incidentsChanged true := by
  unfold State.listedIncident at hx
  simp only [State.enterIncident, hkey, hx, if_neg (Nat.not_lt.2 hfull), hv, if_pos hnearer]
  rfl

theorem State.enterIncident_refused (hfull : 8 ≤ s.incidents.table.length)
    (hv : replacementVictim s.incidents.table = some v) (hfarther : v.distance ≤ e.distance) : s.enterIncident e = s := by
  unfold State.listedIncident at hx
  simp only [State.enterIncident, hkey, hx, if_neg (Nat.not_lt.2 hfull), hv, if_neg (Nat.not_lt.2 hfarther)]
  rfl

end

/-- What can become of a notice: ignored, a refresh in place, or an entry of its own. -/
theorem State.enterIncident_cases (e : Incident) (s : State) :
    s.enterIncident e = s ∨ s.enterIncident e = s.withTable (s.refreshedTable e) ∨
      ∃ table cause, s.enterIncident e = (s.withTable table).incidentsChanged cause := by
  cases hkey : s.incidents.wasCleared e.origin e.callId with
  | true => exact .inl (State.enterIncident_cleared hkey)
  | false =>
    cases hx : s.listedIncident e.origin e.callId with
    | some x =>
      by_cases hsame : x.side = e.side ∧ x.distance = e.distance
      · exact .inr (.inl (State.enterIncident_kept hkey hx hsame))
      · exact .inr (.inr ⟨_, _, State.enterIncident_moved hkey hx hsame⟩)
    | none =>
      by_cases hroom : s.incidents.table.length < 8
      · exact .inr (.inr ⟨_, _, State.enterIncident_added hkey hx hroom⟩)
      · cases hv : replacementVictim s.incidents.table with
        | none =>
          rw [replacementVictim_eq_none_iff] at hv
          simp [hv] at hroom
        | some v =>
          by_cases hnearer : e.distance < v.distance
          · exact .inr (.inr ⟨_, _, State.enterIncident_replaced hkey hx (Nat.not_lt.1 hroom) hv hnearer⟩)
          · exact .inl (State.enterIncident_refused hkey hx (Nat.not_lt.1 hroom) hv (Nat.not_lt.1 hnearer))

theorem State.withTable_step (table : List Incident) (s : State) : s.IncidentStep (s.withTable table) :=
  State.IncidentStep.of_incidents (State.IncidentStep.rfl' (s.withTable table))

theorem State.enterIncident_step (e : Incident) (s : State) : s.IncidentStep (s.enterIncident e) := by
  obtain h | h | ⟨table, cause, h⟩ := s.enterIncident_cases e
  · rw [h]
    exact State.IncidentStep.rfl' s
  · rw [h]
    exact State.withTable_step _ s
  · rw [h]
    exact State.IncidentStep.of_incidents ((s.withTable table).incidentsChanged_step cause)

theorem State.enterIncident_clearedList (e : Incident) (s : State) : (s.enterIncident e).incidents.cleared = s.incidents.cleared := by
  obtain h | h | ⟨table, cause, h⟩ := s.enterIncident_cases e
  · rw [h]
  · rw [h]
    rfl
  · rw [h, State.incidentsChanged_incidents]
    rfl

end Sys2Proof.Machine
end

section
/-! Incidents are entered (R105 to R108, R122, R133, R134). -/
namespace Sys2Proof.Machine
open Sys2Proof

/-! ### When a notice causes an evaluation (R108, R133, R134) -/

/-- An INCIDENT warning turned on between `s` and `t`. -/
def State.IncidentTurnsOn (s t : State) : Prop :=
  ∃ g : Face, s.warnings.incident.get g = false ∧ t.warnings.incident.get g = true

/-- An incident of `t` stands nearer to a face than its last evaluation in `s` used. -/
def State.IncidentNearer (s t : State) : Prop :=
  ∃ (g : Face) (d : Nat), nearestAhead g t.incidents.table = some d ∧
    ∀ u, (s.speed.faces.get g).nearestUsed = some u → d < u

section
variable {e x v : Incident} {s : State}

theorem State.listedIncident_eq_none_iff {origin : Nat} {callId : Byte} :
    s.listedIncident origin callId = none ↔ ∀ x ∈ s.incidents.table, x.hasKey origin callId = false := by
  simp [State.listedIncident, List.find?_eq_none]

theorem State.exists_listedIncident {origin : Nat} {callId : Byte}
    (h : ¬∀ x ∈ s.incidents.table, x.hasKey origin callId = false) : ∃ x, s.listedIncident origin callId = some x :=
  Option.ne_none_iff_exists'.1 fun hnone => h (State.listedIncident_eq_none_iff.1 hnone)

theorem State.listedIncident_mem {origin : Nat} {callId : Byte} (h : s.listedIncident origin callId = some x) :
    x ∈ s.incidents.table ∧ x.hasKey origin callId = true :=
  ⟨List.mem_of_find?_eq_some h, List.find?_some (p := fun x : Incident => x.hasKey origin callId) h⟩

/-- What a changed table judges, read off the state after it. -/
theorem State.judgesIncidents_iff (table : List Incident) (cause : Bool) :
    (s.withTable table).judgesIncidents cause ↔
      cause = true ∨ s.IncidentTurnsOn ((s.withTable table).incidentsChanged cause) ∨
        s.IncidentNearer ((s.withTable table).incidentsChanged cause) := by
  unfold State.judgesIncidents State.IncidentTurnsOn State.IncidentNearer
  rw [State.incidentsChanged_incident, State.incidentsChanged_incidents]
  rfl

theorem State.withTable_evaluatedNow {table : List Incident} {cause : Bool}
    (h : (s.withTable table).judgesIncidents cause) : s.EvaluatedNow ((s.withTable table).incidentsChanged cause) :=
  State.incidentsChanged_evaluatedNow h

theorem State.withTable_stands {table : List Incident} {cause : Bool}
    (h : ¬(s.withTable table).judgesIncidents cause) : s.Unjudged ((s.withTable table).incidentsChanged cause) :=
  State.incidentsChanged_stands h

variable (hkey : s.incidents.wasCleared e.origin e.callId = false)
include hkey

/-- A notice of a new key is entered, which is judged, or leaves the state as it is. -/
theorem State.enterIncident_unlisted (hx : s.listedIncident e.origin e.callId = none) :
    s.enterIncident e = s ∨ s.EvaluatedNow (s.enterIncident e) ∧ e ∈ (s.enterIncident e).incidents.table := by
  by_cases hroom : s.incidents.table.length < 8
  · right
    rw [State.enterIncident_added hkey hx hroom]
    refine ⟨State.withTable_evaluatedNow (.inl rfl), ?_⟩
    rw [State.incidentsChanged_incidents]
    simp [State.withTable]
  · cases hv : replacementVictim s.incidents.table with
    | none =>
      rw [replacementVictim_eq_none_iff] at hv
      simp [hv] at hroom
    | some v =>
      by_cases hnearer : e.distance < v.distance
      · right
        rw [State.enterIncident_replaced hkey hx (Nat.not_lt.1 hroom) hv hnearer]
        refine ⟨State.withTable_evaluatedNow (.inl rfl), ?_⟩
        rw [State.incidentsChanged_incidents]
        simp [State.withTable, State.replacedTable]
      · exact .inl (State.enterIncident_refused hkey hx (Nat.not_lt.1 hroom) hv (Nat.not_lt.1 hnearer))

section
variable (hx : s.listedIncident e.origin e.callId = some x) (hmoved : ¬(x.side = e.side ∧ x.distance = e.distance))
include hx hmoved

/-- A listed incident that moved is judged where it came nearer, a warning turned on or it stands nearer than used. -/
theorem State.enterIncident_moved_judged
    (h : e.distance < x.distance ∨ s.IncidentTurnsOn (s.enterIncident e) ∨ s.IncidentNearer (s.enterIncident e)) :
    s.EvaluatedNow (s.enterIncident e) := by
  rw [State.enterIncident_moved hkey hx hmoved] at h ⊢
  exact State.withTable_evaluatedNow ((State.judgesIncidents_iff _ _).2 (h.imp_left decide_eq_true))

theorem State.enterIncident_moved_stands (hfar : ¬e.distance < x.distance)
    (hon : ¬s.IncidentTurnsOn (s.enterIncident e)) (hnear : ¬s.IncidentNearer (s.enterIncident e)) :
    s.Unjudged (s.enterIncident e) := by
  rw [State.enterIncident_moved hkey hx hmoved] at hon hnear ⊢
  refine State.withTable_stands fun h => ?_
  rcases (State.judgesIncidents_iff _ _).1 h with h | h | h
  · exact hfar (of_decide_eq_true h)
  · exact hon h
  · exact hnear h

end

/-! ### What the table becomes (R105, R107) -/

theorem State.enterIncident_table_listed (hx : s.listedIncident e.origin e.callId = some x) :
    (s.enterIncident e).incidents.table = s.refreshedTable e := by
  by_cases hsame : x.side = e.side ∧ x.distance = e.distance
  · rw [State.enterIncident_kept hkey hx hsame]
    rfl
  · rw [State.enterIncident_moved hkey hx hsame, State.incidentsChanged_incidents]
    rfl

theorem State.enterIncident_table_added (hx : s.listedIncident e.origin e.callId = none)
    (hroom : s.incidents.table.length < 8) : (s.enterIncident e).incidents.table = s.incidents.table ++ [e] := by
  rw [State.enterIncident_added hkey hx hroom, State.incidentsChanged_incidents]
  rfl

omit hkey in
theorem filter_other_keys {before after : List Incident}
    (hnodup : ((before ++ v :: after).map fun x => (x.origin, x.callId)).Nodup) :
    ((before ++ v :: after).filter fun y => !y.hasKey v.origin v.callId) = before ++ after := by
  have hkeep (y : Incident) (hy : y ∈ before ++ after) : (!y.hasKey v.origin v.callId) = true := by
    rw [List.map_append, List.map_cons, List.nodup_middle, ← List.map_append, List.nodup_cons] at hnodup
    have hne : (y.origin, y.callId) ≠ (v.origin, v.callId) := fun h =>
      hnodup.1 (h ▸ List.mem_map_of_mem (f := fun x : Incident => (x.origin, x.callId)) hy)
    simpa [Incident.hasKey, ← not_and_or] using hne
  have hv : (!v.hasKey v.origin v.callId) = false := by simp [Incident.hasKey]
  rw [List.filter_append, List.filter_cons_of_neg (by simp [hv]), ← List.filter_append]
  exact List.filter_eq_self.2 hkeep

theorem State.enterIncident_table_full {before after : List Incident} (hx : s.listedIncident e.origin e.callId = none)
    (hfull : 8 ≤ s.incidents.table.length) (hnodup : (s.incidents.table.map fun x => (x.origin, x.callId)).Nodup)
    (htable : s.incidents.table = before ++ v :: after)
    (hbefore : ∀ x ∈ before, x.distance < v.distance ∨ x.distance = v.distance ∧ v.touchedAt < x.touchedAt)
    (hafter : ∀ x ∈ after, x.distance < v.distance ∨ x.distance = v.distance ∧ v.touchedAt ≤ x.touchedAt) :
    (e.distance < v.distance → (s.enterIncident e).incidents.table = before ++ after ++ [e]) ∧
      (v.distance ≤ e.distance → (s.enterIncident e).incidents.table = s.incidents.table) := by
  have hv : replacementVictim s.incidents.table = some v := by
    rw [htable]
    exact replacementVictim_eq hbefore hafter
  refine ⟨fun h => ?_, fun h => by rw [State.enterIncident_refused hkey hx hfull hv h]⟩
  rw [State.enterIncident_replaced hkey hx hfull hv h, State.incidentsChanged_incidents]
  change s.replacedTable e v = _
  rw [htable] at hnodup
  rw [State.replacedTable, htable, filter_other_keys hnodup]

/-! ### The warnings follow the table (R122) -/

omit hkey in
/-- A refresh that keeps the side keeps what lies ahead of each face. -/
theorem State.refreshedTable_any (g : Face)
    (h : ∀ y ∈ s.incidents.table, y.hasKey e.origin e.callId = true → y.side = e.side) :
    ((s.refreshedTable e).any fun y => y.side.isAhead g) = s.incidents.table.any fun y => y.side.isAhead g := by
  rw [State.refreshedTable, List.any_map, Bool.eq_iff_iff, List.any_eq_true, List.any_eq_true]
  refine exists_congr fun y => and_congr_right fun hy => ?_
  cases hyk : y.hasKey e.origin e.callId with
  | true => simp [hyk, h y hy hyk]
  | false => simp [hyk]

theorem State.enterIncident_incidentWarnings (hnodup : (s.incidents.table.map fun x => (x.origin, x.callId)).Nodup)
    (hwarned : ∀ g : Face, s.warnings.incident.get g = s.incidents.table.any fun x => x.side.isAhead g) (g : Face) :
    (s.enterIncident e).warnings.incident.get g =
      (s.enterIncident e).incidents.table.any fun x => x.side.isAhead g := by
  have hchanged (table : List Incident) (cause : Bool) :
      ((s.withTable table).incidentsChanged cause).warnings.incident.get g =
        ((s.withTable table).incidentsChanged cause).incidents.table.any fun x => x.side.isAhead g := by
    rw [State.incidentsChanged_incident, State.incidentsChanged_incidents, State.incidentWarnings_get]
  cases hx : s.listedIncident e.origin e.callId with
  | some x =>
    by_cases hsame : x.side = e.side ∧ x.distance = e.distance
    · rw [State.enterIncident_kept hkey hx hsame]
      obtain ⟨hmem, hxkey⟩ := State.listedIncident_mem hx
      have hunique (y : Incident) (hy : y ∈ s.incidents.table) (hyk : y.hasKey e.origin e.callId = true) :
          y.side = e.side := by
        have hyx : y = x := List.inj_on_of_nodup_map hnodup hy hmem
          (((Incident.hasKey_iff ..).1 hyk).trans ((Incident.hasKey_iff ..).1 hxkey).symm)
        rw [hyx]
        exact hsame.1
      exact (hwarned g).trans (State.refreshedTable_any g hunique).symm
    · rw [State.enterIncident_moved hkey hx hsame]
      exact hchanged _ _
  | none =>
    by_cases hroom : s.incidents.table.length < 8
    · rw [State.enterIncident_added hkey hx hroom]
      exact hchanged _ _
    · cases hv : replacementVictim s.incidents.table with
      | none =>
        rw [replacementVictim_eq_none_iff] at hv
        simp [hv] at hroom
      | some v =>
        by_cases hnearer : e.distance < v.distance
        · rw [State.enterIncident_replaced hkey hx (Nat.not_lt.1 hroom) hv hnearer]
          exact hchanged _ _
        · rw [State.enterIncident_refused hkey hx (Nat.not_lt.1 hroom) hv (Nat.not_lt.1 hnearer)]
          exact hwarned g

end

/-! ### An INCIDENT arrives (R105) -/

section
variable {p : Side} {bytes : List Byte} {f : Frame} {callId : Byte} {b : Fin 4} {s : State}

theorem State.Arrives.exec_incident (h : s.Arrives p bytes f) (hj : s.joined = true) (ht : f.TakenBy .incident true s.number)
    (hp : parseIncident f.payload = some (callId, b)) :
    exec (.lineFrameArrives p bytes) s = .next (s.withImages fun _ => (s.reached p f).takeIncident p f.counted callId b) := by
  have hhanded : (s.reached p f).handTo .incident p f.counted = (s.reached p f).takeIncident p f.counted callId b := by
    simp only [State.handTo, Frame.counted, hp, State.taking]
  rw [h.exec_eq ht.1 (by decide) (State.reached_takesKind (by simp) hj ht), hhanded]

theorem State.takeIncident_far (h : 7 < f.hops) : s.takeIncident p f callId b = s := if_neg (Nat.not_le.2 h)

theorem State.takeIncident_near (h : f.hops ≤ 7) :
    s.takeIncident p f callId b = s.enterIncident ⟨f.origin, callId, b, .ahead p, f.hops, s.now⟩ := if_pos h

theorem State.withImages_reached (p : Side) (f : Frame) (s : State) : (s.withImages fun _ => s.reached p f) = s.reached p f :=
  State.withImages_of_imageKey_eq fun g => s.reached_imageKey p f g

/-- What follows an incident step after the frame was reached. -/
theorem State.facesFollow_of_incidentStep {v : State} (h : (s.reached p f).IncidentStep v) :
    s.FacesFollow (s.withImages fun _ => v) := by
  obtain ⟨hparts, hfaces⟩ := h
  obtain ⟨_, _, _, _, _, _, hreached⟩ := s.reached_eq p f
  generalize s.reached p f = u at hreached hparts hfaces
  have hnow : v.now = s.now := by rw [hparts, hreached]
  refine State.facesFollow_withImages (State.FacesMove.congr (fun g => ?_) ?_ hfaces) ?_ ?_
  · rw [hnow, hreached]
    exact ⟨rfl, rfl, rfl, rfl, rfl⟩
  · rw [hreached]
  · rw [hparts, hreached]
  · rw [hparts, hreached]

end

/-- What entering a notice says of its causes: entered and approached incidents are judged, the others where a warning turned on or
one stands nearer than used (R108, R133, R134). -/
theorem State.enterIncident_causes {e : Incident} {s : State} (hkey : s.incidents.wasCleared e.origin e.callId = false) :
    let t := s.enterIncident e
    let table := s.incidents.table
    let unlisted := ∀ x ∈ table, x.hasKey e.origin e.callId = false
    let entered := unlisted ∧ t.incidents.table ≠ table
    let approached := ∃ x, s.listedIncident e.origin e.callId = some x ∧ e.distance < x.distance
    let kept := ∃ x, s.listedIncident e.origin e.callId = some x ∧ x.side = e.side ∧ x.distance = e.distance
    (entered ∨ approached → s.EvaluatedNow t) ∧
      (¬unlisted → ¬approached → ¬kept → s.IncidentTurnsOn t ∨ s.IncidentNearer t → s.EvaluatedNow t) ∧
      (¬entered ∧ ¬approached ∧ ¬s.IncidentTurnsOn t ∧ ¬s.IncidentNearer t ∨ kept → s.Unjudged t) := by
  intro t table unlisted entered approached kept
  refine ⟨?_, fun hlisted hfar hmoved hcause => ?_, ?_⟩
  · rintro (⟨hnew, htable⟩ | ⟨x, hx, hnearer⟩)
    · obtain hsame | ⟨hjudged, -⟩ := State.enterIncident_unlisted hkey (State.listedIncident_eq_none_iff.2 hnew)
      · exact absurd (congrArg (·.incidents.table) hsame) htable
      · exact hjudged
    · exact State.enterIncident_moved_judged hkey hx (fun h => hnearer.ne h.2.symm) (.inl hnearer)
  · obtain ⟨x, hx⟩ := State.exists_listedIncident hlisted
    exact State.enterIncident_moved_judged hkey hx (fun h => hmoved ⟨x, hx, h⟩) (.inr hcause)
  · rintro (⟨hnew, hfar, hon, hnear⟩ | ⟨x, hx, hsame⟩)
    · cases hx : s.listedIncident e.origin e.callId with
      | none =>
        have hall := State.listedIncident_eq_none_iff.1 hx
        obtain hsame | ⟨-, hmem⟩ := State.enterIncident_unlisted hkey hx
        · have hstays : t = s := hsame
          rw [hstays]
          exact ⟨rfl, rfl, rfl, rfl⟩
        · refine absurd ⟨hall, fun htable => ?_⟩ hnew
          have hold : e ∈ table := by
            rw [← htable]
            exact hmem
          have := hall e hold
          simp [Incident.hasKey] at this
      | some x =>
        by_cases hsame : x.side = e.side ∧ x.distance = e.distance
        · have hkept : t = _ := State.enterIncident_kept hkey hx hsame
          rw [hkept]
          exact ⟨rfl, rfl, rfl, rfl⟩
        · exact State.enterIncident_moved_stands hkey hx hsame (fun h => hfar ⟨x, hx, h⟩) hon hnear
    · have hkept : t = _ := State.enterIncident_kept hkey hx hsame
      rw [hkept]
      exact ⟨rfl, rfl, rfl, rfl⟩

/-- Settles O29. -/
theorem incidentsAreEntered : Obligations.IncidentsAreEntered := by
  intro p bytes f callId b s harrives hjoined htaken hpayload e table
  have hexec := harrives.exec_incident hjoined htaken hpayload
  have hnear (hhops : f.hops + 1 ≤ 7) :
      (s.reached p f).takeIncident p f.counted callId b = (s.reached p f).enterIncident e := by
    rw [State.takeIncident_near hhops, State.reached_now]
    rfl
  have hincidents : (s.reached p f).incidents = s.incidents := by
    obtain ⟨_, _, _, _, _, _, hreached⟩ := s.reached_eq p f
    rw [hreached]
  refine ⟨fun hfar => ?_, fun hhops hcleared => ?_, fun hhops hkey => ?_⟩
  · rw [hexec, State.takeIncident_far hfar, State.withImages_reached]
  · rw [hexec, hnear hhops, State.enterIncident_cleared (by rw [hincidents]; exact hcleared), State.withImages_reached]
  · refine ⟨_, hexec, ?_⟩
    rw [hnear hhops]
    have hkey' : (s.reached p f).incidents.wasCleared e.origin e.callId = false := by rw [hincidents]; exact hkey
    have hstep := (s.reached p f).enterIncident_step e
    have hfollow := State.facesFollow_of_incidentStep hstep
    have hparts := State.withImages_parts (fun _ => (s.reached p f).enterIncident e) s
    generalize (s.withImages fun _ => (s.reached p f).enterIncident e) = t at hparts hfollow ⊢
    have hlist := State.enterIncident_clearedList e (s.reached p f)
    have hcauses := State.enterIncident_causes hkey'
    have hlisted := fun x => State.enterIncident_table_listed (x := x) hkey'
    have hadded := State.enterIncident_table_added hkey'
    have hfull := fun v before after => State.enterIncident_table_full (v := v) (before := before) (after := after) hkey'
    have hwarned := State.enterIncident_incidentWarnings hkey'
    clear hkey' hexec hnear
    have hparts' := hstep.parts
    clear hstep
    obtain ⟨ports, map, deferred, toll, faults, lineFlag, hreached⟩ := s.reached_eq p f
    generalize (s.reached p f).enterIncident e = v at *
    generalize s.reached p f = u at *
    subst hreached
    obtain ⟨faces', faults', ht⟩ : ∃ faces faults, t = { v with faces := faces, faults := faults } := ⟨_, _, hparts⟩
    clear hparts
    subst ht
    refine ⟨?_, hlist, ?_, hfollow, hcauses, ?_, ?_, ?_, hwarned⟩
    · rw [hparts']
    · rw [hparts']
    · rintro ⟨x, hx, hxkey⟩
      have hnone : ¬∀ y ∈ s.incidents.table, y.hasKey f.origin callId = false := fun hall => by
        rw [hall x hx] at hxkey
        cases hxkey
      obtain ⟨y, hy⟩ := State.exists_listedIncident hnone
      exact hlisted y hy
    · exact fun hnew hroom => hadded (State.listedIncident_eq_none_iff.2 hnew) hroom
    · intro hnew hlength hnodup before after v' htable hbefore hafter
      exact hfull v' before after (State.listedIncident_eq_none_iff.2 hnew) hlength hnodup htable hbefore hafter

end Sys2Proof.Machine
end

section
/-! Incidents leave the table (R104, R108 to R110, R122). -/
namespace Sys2Proof.Machine
open Sys2Proof

/-! ### An entry is removed (R108, R109) -/

/-- The table without the entry of a key. -/
def State.tableWithout (origin : Nat) (callId : Byte) (s : State) : List Incident :=
  s.incidents.table.filter fun e => !e.hasKey origin callId

section
variable {origin : Nat} {callId : Byte} {s : State}

theorem State.removeIncident_listed (h : ∃ e ∈ s.incidents.table, e.hasKey origin callId = true) :
    s.removeIncident origin callId = (s.withTable (s.tableWithout origin callId)).incidentsChanged false := by
  have hany : (s.incidents.table.any fun e => e.hasKey origin callId) = true := List.any_eq_true.2 h
  unfold State.removeIncident
  rw [if_pos hany]
  rfl

theorem State.removeIncident_unlisted (h : ∀ e ∈ s.incidents.table, e.hasKey origin callId = false) :
    s.removeIncident origin callId = s := by
  have hany : ¬(s.incidents.table.any fun e => e.hasKey origin callId) = true := by simpa using h
  unfold State.removeIncident
  rw [if_neg hany]

theorem State.tableWithout_unlisted (h : ∀ e ∈ s.incidents.table, e.hasKey origin callId = false) :
    s.tableWithout origin callId = s.incidents.table :=
  List.filter_eq_self.2 fun e he => by simp [h e he]

/-- An evaluation that moves no D sends nothing (R135). -/
theorem State.incidentsChanged_ports {s : State} {cause : Bool}
    (h : ∀ g : Face, ((s.incidentsChanged cause).speed.faces.get g).d = (s.speed.faces.get g).d) :
    (s.incidentsChanged cause).ports = s.ports ∧ (s.incidentsChanged cause).deferred = s.deferred ∧
      (s.incidentsChanged cause).toll = s.toll := by
  by_cases hj : s.judgesIncidents cause
  · obtain ⟨-, -, hstands, -⟩ := State.incidentsChanged_evaluatedNow hj
    exact (hstands h).2
  · exact (State.incidentsChanged_stands hj).2

end

section
variable (origin : Nat) (callId : Byte) (s : State)

theorem State.unlisted_or_listed :
    (∀ e ∈ s.incidents.table, e.hasKey origin callId = false) ∨ ∃ e ∈ s.incidents.table, e.hasKey origin callId = true := by
  by_cases h : ∀ e ∈ s.incidents.table, e.hasKey origin callId = false
  · exact .inl h
  · push Not at h
    simpa using Or.inr h

theorem State.removeIncident_step : s.IncidentStep (s.removeIncident origin callId) := by
  obtain h | h := s.unlisted_or_listed origin callId
  · rw [State.removeIncident_unlisted h]
    exact State.IncidentStep.rfl' s
  · rw [State.removeIncident_listed h]
    exact State.IncidentStep.of_incidents ((s.withTable _).incidentsChanged_step false)

theorem State.removeIncident_incidents :
    (s.removeIncident origin callId).incidents = ⟨s.tableWithout origin callId, s.incidents.cleared⟩ := by
  obtain h | h := s.unlisted_or_listed origin callId
  · rw [State.removeIncident_unlisted h, State.tableWithout_unlisted h]
  · rw [State.removeIncident_listed h, State.incidentsChanged_incidents]
    rfl

/-! ### A CLEAR (R109, R110) -/

/-- The recently-cleared list after a CLEAR of this key. -/
def State.clearedAfter : List ClearedKey := addCleared ⟨origin, callId, some (s.now + 60000)⟩ s.incidents.cleared

/-- The call records after a CLEAR of this key: an own call of this id sends no more refreshes. -/
def State.callsAfterClear : Vector CallRecord 4 :=
  if origin = s.number then (s.stopRefreshes callId).calls else s.calls

/-- The state after the key of a CLEAR was noted and its entry removed. -/
def State.keyCleared : State :=
  ({ s with incidents := { s.incidents with cleared := s.clearedAfter origin callId } } : State).removeIncident origin callId

theorem State.keyCleared_step : s.IncidentStep (s.keyCleared origin callId) :=
  State.IncidentStep.of_incidents (State.removeIncident_step origin callId _)

theorem State.keyCleared_incidents :
    (s.keyCleared origin callId).incidents = ⟨s.tableWithout origin callId, s.clearedAfter origin callId⟩ :=
  State.removeIncident_incidents origin callId _

theorem State.clearIncident_eq :
    s.clearIncident origin callId = { s.keyCleared origin callId with calls := s.callsAfterClear origin callId } := by
  have hclear : s.clearIncident origin callId =
      if origin = s.number then (s.keyCleared origin callId).stopRefreshes callId else s.keyCleared origin callId := rfl
  rw [hclear, State.callsAfterClear]
  have hparts := (s.keyCleared_step origin callId).parts
  have hcalls : (s.keyCleared origin callId).calls = s.calls := by rw [hparts]
  split
  · unfold State.stopRefreshes
    rw [hcalls]
  · rw [← hcalls]

theorem State.callsAfterClear_get (b : Fin 4) :
    (s.callsAfterClear origin callId)[b] =
      if origin = s.number ∧ s.calls[b].state ≠ .idle ∧ s.calls[b].callId = some callId then
        { s.calls[b] with incidentTimer := none }
      else s.calls[b] := by
  unfold State.callsAfterClear State.stopRefreshes
  by_cases ho : origin = s.number
  · rw [if_pos ho]
    simp [ho]
  · rw [if_neg ho, if_neg fun h => ho h.1]

theorem State.clearedAfter_listed (h : s.incidents.wasCleared origin callId = true) :
    s.clearedAfter origin callId = s.incidents.cleared.map fun k =>
      if k.origin = origin ∧ k.callId = callId then ⟨origin, callId, some (s.now + 60000)⟩ else k := by
  unfold Incidents.wasCleared at h
  simp only [State.clearedAfter, addCleared, h, if_true, Bool.and_eq_true, beq_iff_eq]

theorem State.clearedAfter_new (h : s.incidents.wasCleared origin callId = false) :
    s.clearedAfter origin callId =
      (if s.incidents.cleared.length < 8 then s.incidents.cleared else s.incidents.cleared.drop 1) ++
        [⟨origin, callId, some (s.now + 60000)⟩] := by
  unfold Incidents.wasCleared at h
  simp only [State.clearedAfter, addCleared, h, Bool.false_eq_true, if_false, ← not_lt, ite_not]

/-- What statements say of the records after a CLEAR. -/
theorem State.clearIncident_records :
    let t := s.clearIncident origin callId
    t.incidents.table = (s.incidents.table.filter fun e => !e.hasKey origin callId) ∧
      (s.incidents.wasCleared origin callId = true →
        t.incidents.cleared = s.incidents.cleared.map fun k =>
          if k.origin = origin ∧ k.callId = callId then ⟨origin, callId, some (s.now + 60000)⟩ else k) ∧
      (s.incidents.wasCleared origin callId = false →
        t.incidents.cleared =
          (if s.incidents.cleared.length < 8 then s.incidents.cleared else s.incidents.cleared.drop 1) ++
            [⟨origin, callId, some (s.now + 60000)⟩]) ∧
      ∀ b : Fin 4,
        t.calls[b] =
          if origin = s.number ∧ s.calls[b].state ≠ .idle ∧ s.calls[b].callId = some callId then
            { s.calls[b] with incidentTimer := none }
          else s.calls[b] := by
  have hincidents : (s.clearIncident origin callId).incidents =
      ⟨s.tableWithout origin callId, s.clearedAfter origin callId⟩ := by
    rw [State.clearIncident_eq]
    exact s.keyCleared_incidents origin callId
  have hcalls : (s.clearIncident origin callId).calls = s.callsAfterClear origin callId := by rw [State.clearIncident_eq]
  simp only
  rw [hincidents, hcalls]
  exact ⟨rfl, State.clearedAfter_listed origin callId s, State.clearedAfter_new origin callId s,
    State.callsAfterClear_get origin callId s⟩

theorem State.clearIncident_parts :
    s.clearIncident origin callId = { s with
      incidents := (s.clearIncident origin callId).incidents, calls := (s.clearIncident origin callId).calls
      speed := (s.clearIncident origin callId).speed
      warnings := { s.warnings with
        incident := (s.clearIncident origin callId).warnings.incident
        closeAdvised := (s.clearIncident origin callId).warnings.closeAdvised }
      faces := (s.clearIncident origin callId).faces, ports := (s.clearIncident origin callId).ports
      deferred := (s.clearIncident origin callId).deferred, toll := (s.clearIncident origin callId).toll } := by
  have hparts := (s.keyCleared_step origin callId).parts
  rw [State.clearIncident_eq]
  generalize s.keyCleared origin callId = t at hparts ⊢
  rw [hparts]

theorem State.clearIncident_facesMove : s.FacesMove (s.clearIncident origin callId) := by
  have hfaces := (s.keyCleared_step origin callId).faces
  rw [State.clearIncident_eq]
  exact hfaces

theorem State.clearIncident_ports
    (h : ∀ g : Face, ((s.clearIncident origin callId).speed.faces.get g).d = (s.speed.faces.get g).d) :
    (s.clearIncident origin callId).ports = s.ports ∧ (s.clearIncident origin callId).deferred = s.deferred ∧
      (s.clearIncident origin callId).toll = s.toll := by
  rw [State.clearIncident_eq] at h ⊢
  change (s.keyCleared origin callId).ports = _ ∧ (s.keyCleared origin callId).deferred = _ ∧
    (s.keyCleared origin callId).toll = _
  change ∀ g : Face, ((s.keyCleared origin callId).speed.faces.get g).d = _ at h
  obtain hnone | hlisted := s.unlisted_or_listed origin callId
  · rw [State.keyCleared, State.removeIncident_unlisted (by exact hnone)]
    exact ⟨rfl, rfl, rfl⟩
  · rw [State.keyCleared, State.removeIncident_listed (by exact hlisted)] at h ⊢
    exact State.incidentsChanged_ports h

theorem State.clearIncident_ports_unlisted (h : ∀ e ∈ s.incidents.table, e.hasKey origin callId = false) :
    (s.clearIncident origin callId).ports = s.ports ∧ (s.clearIncident origin callId).deferred = s.deferred ∧
      (s.clearIncident origin callId).toll = s.toll := by
  rw [State.clearIncident_eq, State.keyCleared, State.removeIncident_unlisted (by exact h)]
  exact ⟨rfl, rfl, rfl⟩

end

/-! ### CLEAR_INCIDENT (R110) -/

/-- CLEAR_INCIDENT with its key: the key is cleared and a CLEAR is offered. -/
def State.clearAndTell (origin : Nat) (callId : Byte) (s : State) : State :=
  (s.clearIncident origin callId).sendOneOff .plain (s.broadcast63 .clear [byteOf origin, callId])

theorem clearIncidentBody_of_parse {args : List Word} {origin : Nat} {callId : Byte} (s : State)
    (h : parseClearIncident args = some (origin, callId)) :
    clearIncidentBody args s = (.ok, .none, s.clearAndTell origin callId) := by
  have hnumber : (s.clearIncident origin callId).number = s.number := by rw [State.clearIncident_parts]
  have hframe : (s.clearIncident origin callId).broadcast63 .clear (clearPayload origin callId) =
      s.broadcast63 .clear [byteOf origin, callId] := by
    simp only [State.broadcast63, State.newFrame, hnumber]
    rfl
  simp only [clearIncidentBody, h, hframe]
  rfl

theorem State.clearAndTell_sends (origin : Nat) (callId : Byte) (s : State) :
    (s.clearIncident origin callId).Sends (s.clearAndTell origin callId) := State.sendOneOff_sends _ _ _

theorem State.clearAndTell_offered (origin : Nat) (callId : Byte) (s : State) :
    (s.clearIncident origin callId).Offered (some .plain) (s.broadcast63 .clear [byteOf origin, callId])
      (s.clearAndTell origin callId) :=
  State.sendOneOff_offered (broadcast63_not_voice (by decide) _ _)

theorem State.Arrives.exec_clear {p : Side} {bytes : List Byte} {f : Frame} {origin : Nat} {callId : Byte} {s : State}
    (h : s.Arrives p bytes f) (hj : s.joined = true) (ht : f.TakenBy .clear true s.number)
    (hp : parseClear f.payload = some (origin, callId)) :
    exec (.lineFrameArrives p bytes) s = .next (s.withImages fun _ => (s.reached p f).clearIncident origin callId) := by
  have hhanded : (s.reached p f).handTo .clear p f.counted = (s.reached p f).clearIncident origin callId := by
    simp only [State.handTo, Frame.counted, hp, State.taking]
  rw [h.exec_eq ht.1 (by decide) (State.reached_takesKind (by simp) hj ht), hhanded]

/-- Settles O30. -/
theorem incidentsLeaveTheTable : Obligations.IncidentsLeaveTheTable := by
  refine ⟨?_, ?_, ?_⟩
  · intro cleared
    refine ⟨?_, ?_⟩
    · intro p bytes f origin callId s harrives hjoined htaken hpayload
      refine ⟨_, harrives.exec_clear hjoined htaken hpayload, ?_⟩
      have himages := State.withImages_parts (fun _ => (s.reached p f).clearIncident origin callId) s
      have hrecords := (s.reached p f).clearIncident_records origin callId
      have hparts := (s.reached p f).clearIncident_parts origin callId
      generalize (s.withImages fun _ => (s.reached p f).clearIncident origin callId) = t at himages ⊢
      generalize (s.reached p f).clearIncident origin callId = v at himages hrecords hparts
      obtain ⟨ports, map, deferred, toll, faults, lineFlag, hreached⟩ := s.reached_eq p f
      generalize s.reached p f = u at hreached hrecords hparts ⊢
      subst hreached
      obtain ⟨faces', faults', ht⟩ : ∃ faces faults, t = { v with faces := faces, faults := faults } := ⟨_, _, himages⟩
      subst ht
      refine ⟨hrecords, ?_⟩
      rw [hparts]
    · intro args s haccepts
      have hexec : exec (.clearIncident args) s =
          .next (s.withImages fun s => s.command .clearIncident args (clearIncidentBody args)) := rfl
      refine ⟨fun hbad => ?_, fun origin callId hgood => ?_⟩
      · have hcommand := haccepts.command_eq (clearIncidentBody args)
        rw [show clearIncidentBody args s = (.badArgument, .none, s) by simp [clearIncidentBody, hbad]] at hcommand
        exact congrArg Host.Outcome.next (State.withImages_of_answered hcommand)
      · intro u
        refine ⟨_, hexec, ?_⟩
        have hcommand := haccepts.command_eq (clearIncidentBody args)
        rw [clearIncidentBody_of_parse s hgood] at hcommand
        have himages := State.withImages_parts (fun s => s.command .clearIncident args (clearIncidentBody args)) s
        rw [hcommand] at himages
        have hrecords := s.clearIncident_records origin callId
        have hparts := s.clearIncident_parts origin callId
        have hsends := (s.clearAndTell_sends origin callId).parts
        have hoffered := s.clearAndTell_offered origin callId
        have hmove := s.clearIncident_facesMove origin callId
        have hstands := s.clearIncident_ports origin callId
        have hnone := s.clearIncident_ports_unlisted origin callId
        have hfollow : s.FacesFollow (s.withImages fun s => s.command .clearIncident args (clearIncidentBody args)) := by
          refine State.facesFollow_of_move ?_ ?_ ?_ ?_
          · rw [hcommand, hsends, hparts]
            rfl
          · rw [hcommand, hsends]
            exact hmove
          · rw [hcommand, hsends, hparts]
            rfl
          · rw [hcommand, hsends, hparts]
            rfl
        generalize (s.withImages fun s => s.command .clearIncident args (clearIncidentBody args)) = t at himages hfollow ⊢
        generalize hv : s.clearIncident origin callId = v at *
        have hu : u = v := hv
        clear_value u
        subst hu
        generalize s.clearAndTell origin callId = w at *
        obtain ⟨faces', faults', ht⟩ : ∃ faces faults,
            t = { w with faces := faces, faults := faults, response := ⟨.ok, .clearIncident, .none⟩ } := ⟨_, _, himages⟩
        clear himages hcommand hexec
        subst ht
        obtain ⟨ports, deferred, toll, hw⟩ : ∃ ports deferred toll,
            w = { u with ports := ports, deferred := deferred, toll := toll } := ⟨_, _, _, hsends⟩
        clear hsends
        subst hw
        refine ⟨hrecords, ?_, hoffered, ?_, hfollow, hstands, hnone⟩
        · rw [hparts]
        · rw [hparts]
  · intro origin callId s e hreset hfind
    have hexec : exec (.incidentAgeOut origin callId) s =
        .next ((s.clockTo (e.touchedAt + 1800000)).withImages (State.removeIncident origin callId)) := by
      change (.next (s.onSignTimer ((s.incidents.table.find? fun e => e.hasKey origin callId).map fun e =>
        e.touchedAt + 1800000) (State.removeIncident origin callId)) : Result) = _
      rw [hfind, Option.map_some, State.onSignTimer_running _ _ hreset]
    refine ⟨_, hexec, ?_⟩
    generalize hs' : s.clockTo (e.touchedAt + 1800000) = s'
    have hlisted : ∃ x ∈ s'.incidents.table, x.hasKey origin callId = true := by
      rw [← hs']
      exact ⟨e, List.mem_of_find?_eq_some hfind, List.find?_some (p := fun e : Incident => e.hasKey origin callId) hfind⟩
    have hstep := s'.removeIncident_step origin callId
    have hincidents := s'.removeIncident_incidents origin callId
    have hwarned (g : Face) : (s'.removeIncident origin callId).warnings.incident.get g =
        (s'.removeIncident origin callId).incidents.table.any fun x => x.side.isAhead g := by
      rw [State.removeIncident_listed hlisted, State.incidentsChanged_incident, State.incidentsChanged_incidents,
        State.incidentWarnings_get]
    have himages := State.withImages_parts (State.removeIncident origin callId) s'
    have hfollow : s'.FacesFollow (s'.withImages (State.removeIncident origin callId)) := by
      have hparts := hstep.parts
      exact State.facesFollow_of_move (by rw [hparts]) hstep.faces (by rw [hparts]) (by rw [hparts])
    have hparts := hstep.parts
    clear hstep hlisted
    generalize s'.withImages (State.removeIncident origin callId) = t at himages hfollow ⊢
    generalize s'.removeIncident origin callId = v at himages hwarned hparts hincidents
    obtain ⟨faces', faults', ht⟩ : ∃ faces faults, t = { v with faces := faces, faults := faults } := ⟨_, _, himages⟩
    subst ht
    subst hs'
    refine ⟨?_, hwarned, hfollow⟩
    rw [hincidents] at hparts
    rw [hparts]
    rfl
  · intro origin callId s k due hreset hfind hdue
    change (.next (s.onTimer ((s.incidents.cleared.find? fun k => k.origin == origin && k.callId == callId).elim none
      (·.timer)) _) : Result) = _
    rw [hfind, Option.elim_some, hdue, State.onTimer_running _ _ s hreset]
    rfl

end Sys2Proof.Machine
end

section
/-! The timers of a call (R66, R67, R70, R105, R106, R134). -/
namespace Sys2Proof.Machine
open Sys2Proof

/-! ### A notice that is nearer than some entry is entered (R107, R134) -/

theorem State.enterIncident_entered {e : Incident} {s : State} (hkey : s.incidents.wasCleared e.origin e.callId = false)
    (hnew : ∀ x ∈ s.incidents.table, x.hasKey e.origin e.callId = false)
    (hroom : s.incidents.table.length < 8 ∨ ∃ x ∈ s.incidents.table, e.distance < x.distance) :
    s.EvaluatedNow (s.enterIncident e) := by
  have hx := State.listedIncident_eq_none_iff.2 hnew
  by_cases hlength : s.incidents.table.length < 8
  · rw [State.enterIncident_added hkey hx hlength]
    exact State.withTable_evaluatedNow (.inl rfl)
  · obtain ⟨x, hmem, hfar⟩ := hroom.resolve_left hlength
    cases hv : replacementVictim s.incidents.table with
    | none =>
      rw [replacementVictim_eq_none_iff] at hv
      simp [hv] at hmem
    | some v =>
      have hnearer : e.distance < v.distance := hfar.trans_le (replacementVictim_farthest hv x hmem)
      rw [State.enterIncident_replaced hkey hx (Nat.not_lt.1 hlength) hv hnearer]
      exact State.withTable_evaluatedNow (.inl rfl)

/-- A refresh of an entry that stands as the notice says changes the table alone (R105). -/
theorem State.enterIncident_refresh {e : Incident} {s : State} (hkey : s.incidents.wasCleared e.origin e.callId = false)
    (hsame : ∀ x ∈ s.incidents.table, x.hasKey e.origin e.callId = true → x.side = e.side ∧ x.distance = e.distance)
    (hlisted : ∃ x ∈ s.incidents.table, x.hasKey e.origin e.callId = true) :
    s.enterIncident e = s.withTable (s.refreshedTable e) := by
  obtain ⟨y, hy, hykey⟩ := hlisted
  obtain ⟨x, hx⟩ := State.exists_listedIncident fun hall => by
    rw [hall y hy] at hykey
    cases hykey
  obtain ⟨hmem, hxkey⟩ := State.listedIncident_mem hx
  exact State.enterIncident_kept hkey hx (hsame x hmem hxkey)

theorem State.enterIncident_table_refreshed {e : Incident} {s : State} (hkey : s.incidents.wasCleared e.origin e.callId = false)
    (hlisted : ∃ x ∈ s.incidents.table, x.hasKey e.origin e.callId = true) :
    (s.enterIncident e).incidents.table = s.refreshedTable e := by
  obtain ⟨y, hy, hykey⟩ := hlisted
  obtain ⟨x, hx⟩ := State.exists_listedIncident fun hall => by
    rw [hall y hy] at hykey
    cases hykey
  exact State.enterIncident_table_listed hkey hx

/-! ### The incident refresh (R66) -/

/-- The notice of an own call (R106). -/
def State.noticeOf (callId : Byte) (b : Fin 4) (s : State) : Incident := ⟨s.number, callId, b, .own, 0, s.now⟩

/-- The INCIDENT of a refresh is offered, and the refresh timer runs again. -/
def State.refreshOffered (b : Fin 4) (s : State) : State :=
  ({ s with calls := s.calls.set b { s.calls[b] with incidentTimer := some (s.now + 10000) } } : State).send
    (s.newFrame .incident 0 s.config.incidentReach [s.calls[b].callId.getD 0, byteOf b.val])

section
variable (b : Fin 4) (s : State)

theorem State.refreshOffered_parts :
    s.refreshOffered b = { s with
      calls := s.calls.set b { s.calls[b] with incidentTimer := some (s.now + 10000) }
      ports := (s.refreshOffered b).ports, deferred := (s.refreshOffered b).deferred, toll := (s.refreshOffered b).toll } :=
  (State.send_sends _ _).parts

theorem State.refreshOffered_offered :
    s.Offered none (s.newFrame .incident 0 s.config.incidentReach [s.calls[b].callId.getD 0, byteOf b.val])
      (s.refreshOffered b) :=
  State.send_offered (f := s.newFrame .incident 0 s.config.incidentReach [s.calls[b].callId.getD 0, byteOf b.val])
    (s := { s with calls := s.calls.set b { s.calls[b] with incidentTimer := some (s.now + 10000) } })
    (State.newFrame_not_voice (k := .incident) (by decide) _ _ _ s)

theorem State.refreshIncident_eq :
    s.refreshIncident b = (s.refreshOffered b).enterIncident (s.noticeOf (s.calls[b].callId.getD 0) b) := by
  have hnotice : (s.refreshOffered b).ownNotice (s.calls[b].callId.getD 0) b =
      (s.refreshOffered b).enterIncident (s.noticeOf (s.calls[b].callId.getD 0) b) := by
    rw [State.refreshOffered_parts]
    rfl
  rw [← hnotice]
  rfl

end

theorem callTimers_incident (b : Fin 4) (s : State) (due : Nat) (hreset : s.resetHeld = false)
    (hdue : s.calls[b].incidentTimer = some due) :
    exec (.incidentRefreshTimerExpiry b) s = .next ((s.clockTo due).withImages (State.refreshIncident b)) := by
  change (.next (s.onSignTimer s.calls[b].incidentTimer (State.refreshIncident b)) : Result) = _
  rw [hdue, State.onSignTimer_running due _ hreset]

/-- Settles O20. -/
theorem callTimersRunOut : Obligations.CallTimersRunOut := by
  refine ⟨?_, ?_, ?_⟩
  · intro b s due hreset hdue now' count
    have hexec : exec (.offerTimerExpiry b) s = .next ((s.clockTo due).offerIfHeld b) := by
      change (.next (s.onTimer s.calls[b].offerTimer (State.offerIfHeld b)) : Result) = _
      rw [hdue, State.onTimer_running due _ s hreset]
    refine ⟨fun c hholds => ?_, fun hnone => ?_⟩
    · have hparts := (s.clockTo due).offerIfHeld_parts b
      obtain ⟨hcalls, hoffered⟩ := State.offerIfHeld_offers (s := s.clockTo due) hholds
      refine ⟨_, hexec, ?_, hoffered⟩
      generalize (s.clockTo due).offerIfHeld b = t at hparts hcalls ⊢
      rw [hparts, hcalls]
      rfl
    · rw [hexec, State.offerIfHeld_of_not_holds (s := s.clockTo due) hnone]
      rfl
  · intro b s due hreset hdue now' callId
    have hexec := callTimers_incident b s due hreset hdue
    have hact := (s.clockTo due).refreshIncident_eq b
    have hparts := (s.clockTo due).refreshOffered_parts b
    have hoffered := (s.clockTo due).refreshOffered_offered b
    have himages := State.withImages_parts (State.refreshIncident b) (s.clockTo due)
    have hsame := State.withImages_of_imageKey_eq (act := State.refreshIncident b) (s := s.clockTo due)
    rw [hact] at himages hsame
    generalize hnotice : (s.clockTo due).noticeOf ((s.clockTo due).calls[b].callId.getD 0) b = e at *
    have hstep := ((s.clockTo due).refreshOffered b).enterIncident_step e
    have hcleared := State.enterIncident_cleared (e := e) (s := (s.clockTo due).refreshOffered b)
    have hentered := State.enterIncident_entered (e := e) (s := (s.clockTo due).refreshOffered b)
    have hrefresh := State.enterIncident_refresh (e := e) (s := (s.clockTo due).refreshOffered b)
    have hrefreshed := State.enterIncident_table_refreshed (e := e) (s := (s.clockTo due).refreshOffered b)
    have hadded := State.enterIncident_table_added (e := e) (s := (s.clockTo due).refreshOffered b)
    have hparts' := hstep.parts
    have hfollow : (s.clockTo due).FacesFollow ((s.clockTo due).withImages (State.refreshIncident b)) := by
      refine State.facesFollow_of_move ?_ ?_ ?_ ?_
      · rw [hact, hparts', hparts]
      · rw [hact]
        refine State.FacesMove.congr (fun g => ?_) ?_ hstep.faces
        · rw [hparts]
          exact ⟨rfl, rfl, rfl, rfl, rfl⟩
        · rw [hparts]
      · rw [hact, hparts', hparts]
      · rw [hact, hparts', hparts]
    clear hstep hact
    generalize (s.clockTo due).withImages (State.refreshIncident b) = t at *
    generalize ((s.clockTo due).refreshOffered b).enterIncident e = v at *
    generalize (s.clockTo due).refreshOffered b = u at *
    obtain ⟨ports, deferred, toll, hu⟩ : ∃ ports deferred toll, u = { s.clockTo due with
        calls := s.calls.set b { s.calls[b] with incidentTimer := some (now' + 10000) }
        ports := ports, deferred := deferred, toll := toll } := ⟨_, _, _, hparts⟩
    clear hparts
    subst hu
    subst hnotice
    have hjudged : ∀ {x : State}, x.EvaluatedNow v → x.EvaluatedNow t := fun h => by
      rw [himages]
      exact h
    have htable : t.incidents = v.incidents := by rw [himages]
    rw [hparts'] at himages
    refine ⟨{ s.clockTo due with ports := ports, deferred := deferred, toll := toll }, t, hexec, by rw [himages]; rfl, hoffered,
      rfl, fun h => ?_, fun h hnew => ⟨fun hroom => ?_, fun hroom => ?_⟩, fun h hlisted hsome => ?_, hfollow, by rw [himages],
      by rw [himages]; rfl, by rw [himages]; rfl, by rw [himages]; rfl, by rw [himages]; rfl, by rw [himages]; rfl,
      by rw [himages]; rfl, by rw [himages]; rfl, by rw [himages]; rfl, by rw [himages]; rfl, fun h => ?_,
      fun h hsome => ?_⟩
    · have hv := hcleared h
      have ht := hsame fun g => by rw [hv]; rfl
      rw [ht, hv]
      exact ⟨rfl, rfl, rfl, rfl, rfl⟩
    · rw [htable]
      exact hadded h (State.listedIncident_eq_none_iff.2 hnew) hroom
    · exact hjudged (hentered h hnew hroom)
    · have hv := hrefresh h hlisted hsome
      have ht := hsame fun g => by rw [hv]; rfl
      rw [ht, hv]
      exact ⟨rfl, rfl, rfl, rfl, rfl, rfl⟩
    · rw [htable, hcleared h]
      rfl
    · rw [htable]
      exact hrefreshed h hsome
  · intro b s due hreset hdue hstate now' count offering
    have hexec : exec (.partnerSilenceTimerExpiry b) s = .next (((s.clockTo due).nowOffering b).offerIfHeld b) := by
      change (.next (s.onTimer s.calls[b].silenceTimer (State.losePartner b)) : Result) = _
      rw [hdue, State.onTimer_running due _ s hreset, State.losePartner_eq (s := s.clockTo due) hstate]
    have hparts := ((s.clockTo due).nowOffering b).offerIfHeld_parts b
    refine ⟨_, hexec, ?_, fun c hholds => ?_, fun hnone => ?_⟩
    · generalize ((s.clockTo due).nowOffering b).offerIfHeld b = t at hparts ⊢
      rw [hparts]
      have hplayout : (s.clockTo due).playoutAfterCall b (s.clockTo due).calls[b].state .offering =
          (s.clockTo due).playoutAfterCall b .connected .offering := by
        rw [show (s.clockTo due).calls[b].state = .connected from hstate]
      simp only [State.nowOffering, hplayout]
      rfl
    · obtain ⟨hcalls, hoffered⟩ := State.offerIfHeld_offers (s := (s.clockTo due).nowOffering b) (b := b)
        ((State.nowOffering_holds (s := s.clockTo due) c).2 hholds)
      refine ⟨?_, ?_⟩
      · rw [hcalls]
        simp [State.nowOffering, CallRecord.nextCount]
        rfl
      · have hframe : ((s.clockTo due).nowOffering b).offerFrame b c = s.offerFrame b c := by
          simp [State.offerFrame, State.nowOffering, CallRecord.nextCount]
          rfl
        rw [hframe] at hoffered
        exact hoffered
    · rw [State.offerIfHeld_of_not_holds fun c h => hnone c ((State.nowOffering_holds (s := s.clockTo due) c).1 h)]
      refine ⟨?_, rfl, rfl⟩
      simp [State.nowOffering]
      rfl

end Sys2Proof.Machine
end

section
/-! A handset that goes off-hook begins a call (R47, R63, R65, R100, R106). -/
namespace Sys2Proof.Machine
open Sys2Proof

/-! ### The steps by which a call begins (R65) -/

/-- The call has taken its id and is SEIZING; nothing is offered yet. -/
def State.nowSeizing (b : Fin 4) (s : State) : State :=
  { s with
    calls := s.calls.set b
      { offHook := s.calls[b].offHook, state := .seizing, callId := some s.callUnit.nextCallId, circuit := none, partner := none,
        offerCount := none, offeringSince := none, offerTimer := none, incidentTimer := some (s.now + 10000),
        silenceTimer := none, changedAt := s.now }
    callUnit := { s.callUnit with nextCallId := s.callUnit.nextCallId + 1, callsChanged := true }
    playout := s.playoutAfterCall b .idle .seizing }

/-- Its INCIDENT was offered. -/
def State.incidentTold (b : Fin 4) (s : State) : State :=
  (s.nowSeizing b).sendOneOff (.firstIncident b)
    (s.newFrame .incident 0 s.config.incidentReach [s.callUnit.nextCallId, byteOf b.val])

/-- The incident table has taken its notice. -/
def State.noticed (b : Fin 4) (s : State) : State :=
  (s.incidentTold b).enterIncident (s.noticeOf s.callUnit.nextCallId b)

/-- The call wants a circuit and has not chosen one. -/
def State.nowWanting (b : Fin 4) (s : State) : State := { s with claims := s.claims.set b ⟨true, 0, none⟩ }

section
variable (b : Fin 4) (s : State)

theorem State.incidentTold_parts :
    s.incidentTold b = { s.nowSeizing b with
      ports := (s.incidentTold b).ports, deferred := (s.incidentTold b).deferred, toll := (s.incidentTold b).toll } :=
  (State.sendOneOff_sends _ _ _).parts

theorem State.incidentTold_offered :
    s.Offered (some (.firstIncident b))
      (s.newFrame .incident 0 s.config.incidentReach [s.callUnit.nextCallId, byteOf b.val]) (s.incidentTold b) :=
  State.sendOneOff_offered (s := s.nowSeizing b)
    (f := s.newFrame .incident 0 s.config.incidentReach [s.callUnit.nextCallId, byteOf b.val])
    (State.newFrame_not_voice (k := .incident) (by decide) _ _ _ s)

theorem State.beginCall_eq (h : s.calls[b].state = .idle) :
    s.beginCall b = ((s.noticed b).nowWanting b).chooseCircuit b := by
  have hput : (s.modCallUnit fun u => { u with nextCallId := u.nextCallId + 1 }).putCall b
      { s.calls[b] with
        state := .seizing, callId := some s.callUnit.nextCallId, circuit := none, partner := none, offerCount := none,
        offeringSince := none, offerTimer := none, incidentTimer := s.startTimer 10000, silenceTimer := none } =
      s.nowSeizing b := by
    rw [State.putCall_changes (by
      change CallState.seizing ≠ s.calls[b].state
      rw [h]
      decide)]
    have hidle : (s.modCallUnit fun u => { u with nextCallId := u.nextCallId + 1 }).calls[b].state = .idle := h
    rw [hidle]
    rfl
  have hnotice : (s.incidentTold b).ownNotice s.callUnit.nextCallId b = s.noticed b := by
    have hparts := s.incidentTold_parts b
    unfold State.noticed
    generalize s.incidentTold b = t at hparts ⊢
    rw [hparts]
    rfl
  unfold State.beginCall
  simp only [hput]
  change State.wantCircuit b ((s.incidentTold b).ownNotice s.callUnit.nextCallId b) = _
  rw [hnotice]
  rfl

theorem State.noticed_step : (s.incidentTold b).IncidentStep (s.noticed b) := State.enterIncident_step _ _

theorem State.FacesMove.of_eq {s t t' : State} (h : s.FacesMove t) (hfaces : t'.faces = t.faces)
    (hwarnings : t'.warnings = t.warnings) : s.FacesMove t' := by
  intro g
  rw [hfaces, hwarnings]
  exact h g

theorem State.noticed_facesMove : s.FacesMove (s.noticed b) := by
  refine State.FacesMove.congr (fun g => ?_) ?_ (s.noticed_step b).faces
  · rw [State.incidentTold_parts]
    exact ⟨rfl, rfl, rfl, rfl, rfl⟩
  · rw [State.incidentTold_parts]
    rfl

/-- What the beginning of a call can change. -/
theorem State.noticed_parts :
    s.noticed b = { s.nowSeizing b with
      incidents := (s.noticed b).incidents, speed := (s.noticed b).speed
      warnings := { s.warnings with
        incident := (s.noticed b).warnings.incident, closeAdvised := (s.noticed b).warnings.closeAdvised }
      faces := (s.noticed b).faces, ports := (s.noticed b).ports, deferred := (s.noticed b).deferred
      toll := (s.noticed b).toll } := by
  have hstep := (s.noticed_step b).parts
  have htold := s.incidentTold_parts b
  generalize s.noticed b = t at hstep ⊢
  generalize s.incidentTold b = u at hstep htold
  generalize u.ports = ports at htold
  generalize u.deferred = deferred at htold
  generalize u.toll = toll at htold
  subst htold
  rw [hstep]
  rfl

end

/-! ### What the beginning of a call makes of the state (R47, R65, R106) -/

/-- Choosing a circuit changes no record but the call's circuit. -/
theorem State.chooseCircuit_calls (b : Fin 4) (s : State) :
    (s.chooseCircuit b).calls = s.calls.set b { s.calls[b] with circuit := (s.chooseCircuit b).calls[b].circuit } := by
  cases h : s.lowestFree with
  | none =>
    rw [State.chooseCircuit_none (State.lowestFree_eq_none_iff.1 h)]
    exact (Vector.set_getElem_self ..).symm
  | some c =>
    obtain ⟨hparts, -⟩ := State.chooseCircuit_claims (b := b) (State.lowestFree_eq_some_iff.1 h)
    rw [hparts]
    simp

/-- What the faces follow does not depend on the call records. -/
theorem State.FacesFollow.of_calls {s t : State} {calls : Vector CallRecord 4}
    (h : ({ s with calls := calls } : State).FacesFollow t) : s.FacesFollow t := by
  intro g
  obtain ⟨hselector, himage⟩ := h g
  refine ⟨hselector.trans (congrArg _ ?_), himage⟩
  refine State.reselectedBy_congr (State.SameSign.reselectedBy ?_ rfl) (fun x => ?_) fun _ => rfl
  · exact ⟨rfl, rfl, rfl, rfl, rfl⟩
  · rw [State.reselectedBy_warnings, State.reselectedBy_warnings]

section
variable {b : Fin 4} {s : State}

theorem State.noticed_of_cleared (h : s.incidents.wasCleared s.number s.callUnit.nextCallId = true) :
    s.noticed b = s.incidentTold b :=
  State.enterIncident_cleared (by rw [State.incidentTold_parts]; exact h)

theorem State.noticed_clearedList : (s.noticed b).incidents.cleared = s.incidents.cleared := by
  rw [State.noticed, State.enterIncident_clearedList, State.incidentTold_parts]
  rfl

section
variable (h : s.incidents.wasCleared s.number s.callUnit.nextCallId = false)
  (hnew : ∀ e ∈ s.incidents.table, e.hasKey s.number s.callUnit.nextCallId = false)
include h hnew

theorem State.noticed_evaluatedNow (hroom : s.incidents.table.length < 8 ∨ ∃ e ∈ s.incidents.table, 0 < e.distance) :
    (s.incidentTold b).EvaluatedNow (s.noticed b) :=
  State.enterIncident_entered (by rw [State.incidentTold_parts]; exact h) (by rw [State.incidentTold_parts]; exact hnew)
    (by rw [State.incidentTold_parts]; exact hroom)

theorem State.noticed_table (hroom : s.incidents.table.length < 8) :
    (s.noticed b).incidents.table = s.incidents.table ++ [s.noticeOf s.callUnit.nextCallId b] := by
  have hincidents : (s.incidentTold b).incidents = s.incidents := by
    rw [State.incidentTold_parts]
    rfl
  rw [State.noticed, State.enterIncident_table_added (by rw [hincidents]; exact h)
    (State.listedIncident_eq_none_iff.2 (by rw [hincidents]; exact hnew)) (by rw [hincidents]; exact hroom), hincidents]

end

theorem State.noticed_claims : (s.noticed b).claims = s.claims := by rw [State.noticed_parts]; rfl
theorem State.noticed_now : (s.noticed b).now = s.now := by rw [State.noticed_parts]; rfl
theorem State.noticed_circuits : (s.noticed b).circuits = s.circuits := by rw [State.noticed_parts]; rfl
theorem State.noticed_calls : (s.noticed b).calls = (s.nowSeizing b).calls := by rw [State.noticed_parts]

variable (hidle : s.calls[b].state = .idle)
include hidle

theorem State.beginCall_parts :
    s.beginCall b = { s.noticed b with
      circuits := (s.beginCall b).circuits, claims := (s.beginCall b).claims, calls := (s.beginCall b).calls
      ports := (s.beginCall b).ports, deferred := (s.beginCall b).deferred, toll := (s.beginCall b).toll } := by
  have hparts := ((s.noticed b).nowWanting b).chooseCircuit_parts b
  rw [State.beginCall_eq b s hidle]
  generalize ((s.noticed b).nowWanting b).chooseCircuit b = t at hparts ⊢
  rw [hparts]
  rfl

/-- The record of a call that has begun, with this circuit. -/
def State.begunCall (b : Fin 4) (circuit : Option (Fin 16)) (s : State) : CallRecord :=
  { offHook := s.calls[b].offHook, state := .seizing, callId := some s.callUnit.nextCallId, circuit := circuit, partner := none,
    offerCount := none, offeringSince := none, offerTimer := none, incidentTimer := some (s.now + 10000), silenceTimer := none,
    changedAt := s.now }

theorem State.beginCall_calls : (s.beginCall b).calls = s.calls.set b (s.begunCall b (s.beginCall b).calls[b].circuit) := by
  have hcalls := ((s.noticed b).nowWanting b).chooseCircuit_calls b
  have hnoticed : ((s.noticed b).nowWanting b).calls = s.calls.set b (s.begunCall b none) := State.noticed_calls
  rw [State.beginCall_eq b s hidle]
  generalize ((s.noticed b).nowWanting b).chooseCircuit b = t at hcalls ⊢
  rw [hcalls, hnoticed]
  simp [State.begunCall]

/-- A call that finds a FREE circuit claims the lowest (R47). -/
theorem State.beginCall_claims {c : Fin 16} (hc : s.LowestFree c) :
    let t := s.beginCall b
    t.circuits = s.circuits.set c (.claiming b (some (s.now + 40))) ∧ t.calls[b].circuit = some c ∧
      t.claims = s.claims.set b ⟨true, 0, none⟩ ∧
      (s.noticed b).Offered (some (.claim c)) (s.broadcast63 .claim [circuitByte c, 0]) t := by
  have hfree : ((s.noticed b).nowWanting b).LowestFree c := by
    unfold State.LowestFree
    change (s.noticed b).circuits[c] = _ ∧ ∀ d : Fin 16, d < c → (s.noticed b).circuits[d] ≠ _
    rw [State.noticed_circuits]
    exact hc
  obtain ⟨hparts, hoffered⟩ := State.chooseCircuit_claims (b := b) hfree
  have hframe : ((s.noticed b).nowWanting b).broadcast63 .claim [circuitByte c, 0] = s.broadcast63 .claim [circuitByte c, 0] := by
    have hnumber : (s.noticed b).number = s.number := by rw [State.noticed_parts]; rfl
    change Frame.mk _ (s.noticed b).number _ _ _ _ = _
    rw [hnumber]
    rfl
  rw [hframe] at hoffered
  dsimp only
  rw [State.beginCall_eq b s hidle]
  generalize ((s.noticed b).nowWanting b).chooseCircuit b = t at hparts hoffered ⊢
  refine ⟨?_, ?_, ?_, hoffered⟩
  · rw [hparts]
    change (s.noticed b).circuits.set c (.claiming b (some ((s.noticed b).now + 40))) = _
    rw [State.noticed_circuits, State.noticed_now]
  · rw [hparts]
    simp
  · rw [hparts]
    change (s.noticed b).claims.set b ⟨true, 0, none⟩ = _
    rw [State.noticed_claims]

/-- A call that finds none waits 1 s (R47). -/
theorem State.beginCall_waits (hnone : s.NoneFree) :
    let t := s.beginCall b
    t.circuits = s.circuits ∧ t.calls[b].circuit = none ∧ t.claims = s.claims.set b ⟨true, 0, some (s.now + 1000)⟩ ∧
      t.ports = (s.noticed b).ports ∧ t.deferred = (s.noticed b).deferred ∧ t.toll = (s.noticed b).toll := by
  have hfree : ((s.noticed b).nowWanting b).NoneFree := by
    unfold State.NoneFree
    change ∀ c : Fin 16, (s.noticed b).circuits[c] ≠ _
    rw [State.noticed_circuits]
    exact hnone
  dsimp only
  rw [State.beginCall_eq b s hidle, State.chooseCircuit_none hfree]
  refine ⟨State.noticed_circuits, ?_, ?_, rfl, rfl, rfl⟩
  · change (s.noticed b).calls[b].circuit = none
    rw [State.noticed_calls]
    simp [State.nowSeizing]
  · change ((s.noticed b).claims.set b ⟨true, 0, none⟩).set b
      { ((s.noticed b).claims.set b ⟨true, 0, none⟩)[b] with wait := some ((s.noticed b).now + 1000) } = _
    rw [State.noticed_claims, State.noticed_now]
    simp

end

/-! ### The handset goes off-hook (R63, R65) -/

/-- The record shows the handset off-hook. -/
def State.hookUp (b : Fin 4) (s : State) : State := { s with calls := s.calls.set b { s.calls[b] with offHook := true } }

section
variable {b : Fin 4} {s : State}

theorem State.hookUp_call : (s.hookUp b).calls[b] = { s.calls[b] with offHook := true } := by simp [State.hookUp]

theorem State.beginIfOffHook_hookUp (hj : s.joined = true) (hb : b.val < s.config.boxes) (h : s.calls[b].state = .idle) :
    (s.hookUp b).beginIfOffHook b = (s.hookUp b).beginCall b := by
  have hidle : (s.hookUp b).calls[b].state = .idle := by rw [State.hookUp_call, h]
  refine if_pos ?_
  rw [hidle, State.hookUp_call]
  have hfitted : (s.hookUp b).boxFitted b = true := decide_eq_true hb
  have hjoined : (s.hookUp b).joined = true := hj
  rw [hfitted, hjoined]
  rfl

theorem State.beginIfOffHook_stays (h : s.joined = false ∨ s.calls[b].state ≠ .idle) : (s.hookUp b).beginIfOffHook b = s.hookUp b := by
  refine if_neg fun hbegin => ?_
  rw [State.hookUp_call] at hbegin
  simp only [Bool.and_eq_true, beq_iff_eq] at hbegin
  obtain ⟨⟨⟨hjoined, -⟩, -⟩, hidle⟩ := hbegin
  obtain h | h := h
  · exact absurd (h.symm.trans hjoined) (by decide)
  · exact h hidle

theorem exec_hookOffHook_read (hheld : s.resetHeld = false) (hread : s.joined = false ∨ b.val < s.config.boxes) :
    exec (.hookOffHook b) s = .next ((s.hookUp b).withImages (State.beginIfOffHook b)) := by
  change execHookOffHook b s = _
  rw [execHookOffHook, if_pos (State.hookRead_eq_true hread)]
  exact congrArg Host.Outcome.next (if_neg (by
    change ¬s.resetHeld = true
    rw [hheld]
    decide))

theorem exec_hookOffHook_unread (hj : s.joined = true) (hb : s.config.boxes ≤ b.val) : exec (.hookOffHook b) s = .next s := by
  change execHookOffHook b s = _
  rw [execHookOffHook, if_neg]
  simp [State.hookRead, State.boxFitted, hj, hb]

end

/-- A call begun by its handset, and the images that follow (R65, R158). -/
theorem State.beginCall_follows {b : Fin 4} {s : State} (hidle : s.calls[b].state = .idle) {act : State → State}
    (hact : act s = s.beginCall b) : s.FacesFollow (s.withImages act) := by
  have hparts := State.beginCall_parts (b := b) hidle
  have hnoticed := s.noticed_parts b
  refine State.facesFollow_of_move ?_ ?_ ?_ ?_
  · rw [hact, hparts, hnoticed]
    rfl
  · rw [hact]
    refine (s.noticed_facesMove b).of_eq ?_ ?_
    · rw [hparts]
    · rw [hparts]
  · rw [hact, hparts, hnoticed]
    rfl
  · rw [hact, hparts, hnoticed]
    rfl

/-- Settles O18. -/
theorem offHookBeginsACall : Obligations.OffHookBeginsACall := by
  intro b s hreset
  refine ⟨fun hjoined hfitted hstate => ?_, fun h => ?_, exec_hookOffHook_unread⟩
  · have hidle : (s.hookUp b).calls[b].state = .idle := by rw [State.hookUp_call, hstate]
    have hact := State.beginIfOffHook_hookUp hjoined hfitted hstate
    have hexec := exec_hookOffHook_read (b := b) hreset (.inr hfitted)
    have hfollow := State.FacesFollow.of_calls (State.beginCall_follows hidle hact)
    have himages := State.withImages_parts (State.beginIfOffHook b) (s.hookUp b)
    have hparts := State.beginCall_parts (b := b) hidle
    have hnoticed := (s.hookUp b).noticed_parts b
    have htold := (s.hookUp b).incidentTold_parts b
    have hoffered := (s.hookUp b).incidentTold_offered b
    have hcleared := State.noticed_of_cleared (b := b) (s := s.hookUp b)
    have hevaluated := State.noticed_evaluatedNow (b := b) (s := s.hookUp b)
    have htable := State.noticed_table (b := b) (s := s.hookUp b)
    have hkeys := State.noticed_clearedList (b := b) (s := s.hookUp b)
    have hcalls := State.beginCall_calls (b := b) hidle
    have hclaims := fun c => State.beginCall_claims (b := b) (c := c) hidle
    have hwaits := State.beginCall_waits (b := b) hidle
    rw [hact] at himages
    clear hact
    generalize (s.hookUp b).withImages (State.beginIfOffHook b) = t at himages hexec hfollow
    generalize t.faces = faces at himages
    generalize t.faults = faults at himages
    generalize (s.hookUp b).beginCall b = x at *
    generalize (s.hookUp b).noticed b = w at *
    generalize (s.hookUp b).incidentTold b = y at *
    refine ⟨{ s with ports := y.ports, deferred := y.deferred, toll := y.toll },
      { w with faces := faces, faults := faults, circuits := x.circuits, claims := x.claims, calls := x.calls }, t, hexec,
      ?_, hoffered, rfl, ?_, fun h => ?_, fun h hnew hroom => ?_, fun c hc => ?_, fun h => ?_, hfollow, ?_, ?_, fun c hc => ?_,
      fun h => ?_, ?_, fun hroom hnew h => ?_, ?_, ?_, ?_, ?_, ?_, ?_, ?_, ?_⟩
    · rw [himages, hparts, hnoticed]
      rfl
    · rw [himages, hparts]
    · rw [himages, hparts, hcleared h, htold]
      exact ⟨rfl, rfl, rfl, rfl, rfl, rfl⟩
    · have hjudged := hevaluated h hnew hroom
      rw [htold] at hjudged
      exact hjudged
    · rw [himages]
      exact (hclaims c hc).2.2.2
    · rw [himages]
      exact (hwaits h).2.2.2
    · rw [himages, hparts, hnoticed]
      rfl
    · rw [himages]
      refine hcalls.trans ?_
      simp [State.hookUp, State.begunCall]
    · obtain ⟨hcircuits, hcircuit, hclaims, -⟩ := hclaims c hc
      rw [himages]
      exact ⟨hcircuits, hcircuit, hclaims⟩
    · obtain ⟨hcircuits, hcircuit, hclaims, -⟩ := hwaits h
      rw [himages]
      exact ⟨hcircuits, hcircuit, hclaims⟩
    · rw [himages, hparts, hnoticed]
      rfl
    · have hnew' : ∀ e ∈ s.incidents.table, e.hasKey s.number s.callUnit.nextCallId = false := fun e he => by
        simpa [Incident.hasKey] using hnew e he
      rw [himages, hparts]
      exact htable h hnew' hroom
    · rw [himages, hparts]
      exact hkeys
    all_goals
      rw [himages, hparts, hnoticed]
    exacts [rfl, rfl, rfl, rfl, rfl, rfl, hjoined]
  · rw [exec_hookOffHook_read hreset (h.imp_right And.left)]
    have hstays := State.beginIfOffHook_stays (b := b) (h.imp_right And.right)
    rw [State.withImages_of_imageKey_eq fun g => by rw [hstays], hstays]
    rfl

end Sys2Proof.Machine
end

section
/-! Readings: submitted, broadcast, aged and fetched (R112 to R116, R118 to R121). -/
namespace Sys2Proof.Machine
open Sys2Proof

/-! ### What a submission stores (R113, R114) -/

/-- The readings with the record of one kind replaced. -/
def Readings.withKind (k : ReadingKind) (x : Reading) (r : Readings) : Readings := { r with kinds := r.kinds.set (readingCode k) x }

/-- The readings after a submission was stored, before its broadcast. -/
def State.storedReadings (k : ReadingKind) (v : Int) (clamped : Bool) (s : State) : Readings :=
  { s.readings.withKind k
      { s.reading k with
        value := some v, clamped := clamped, lastSequence := some (s.reading k).counter, counter := (s.reading k).counter + 1
        submittedAt := some s.now } with
    vs := if k = .visibility then some (smooth s.readings.vs v) else s.readings.vs }

theorem Readings.withKind_get (k : ReadingKind) (x : Reading) (r : Readings) : (r.withKind k x).kinds[readingCode k] = x := by
  simp [Readings.withKind]

theorem Readings.withKind_withKind (k : ReadingKind) (x y : Reading) (r : Readings) :
    (r.withKind k x).withKind k y = r.withKind k y := by
  simp [Readings.withKind]

section
variable (k : ReadingKind) (s : State)

theorem State.storeReading_eq (v : Int) (clamped : Bool) :
    s.storeReading k v clamped = { s with readings := s.storedReadings k v clamped } := by
  unfold State.storeReading State.storedReadings
  by_cases hk : k = .visibility
  · simp only [if_pos hk]
    rfl
  · simp only [if_neg hk]
    rfl

theorem State.storeReading_reading (v : Int) (clamped : Bool) :
    (s.storeReading k v clamped).reading k =
      { s.reading k with
        value := some v, clamped := clamped, lastSequence := some (s.reading k).counter, counter := (s.reading k).counter + 1
        submittedAt := some s.now } := by
  rw [State.storeReading_eq]
  exact Readings.withKind_get ..

/-! ### A reading is broadcast (R115) -/

/-- The frame of a reading. -/
theorem State.readingFrame_eq (r : PendingReading) : s.readingFrame k r = s.broadcast63 .reading (readingPayload k r) := rfl

theorem State.broadcastReading_parts (r : PendingReading) :
    let f := s.broadcast63 .reading (readingPayload k r)
    s.broadcastReading k r = { s with
      readings := s.readings.withKind k
        { s.reading k with
          pending := if (s.sendTold f).1 then none else some r, rateTimer := some (s.now + 10000) }
      ports := (s.send f).ports, deferred := (s.send f).deferred, toll := (s.send f).toll } := by
  intro f
  have hsent : s.broadcastReading k r = (s.send f).modReading k fun x =>
      { x with pending := if (s.sendTold f).1 then none else some r, rateTimer := some (s.now + 10000) } := rfl
  have hparts := (State.send_sends f s).parts
  rw [hsent]
  generalize s.send f = t at hparts ⊢
  rw [hparts]
  rfl

/-- Whether a frame is sent depends on the line alone. -/
theorem State.sendTold_readings (f : Frame) (readings : Readings) :
    (State.sendTold f { s with readings := readings }).1 = (s.sendTold f).1 := by
  rw [Bool.eq_iff_iff, State.sendTold_sent_iff, State.sendTold_sent_iff]
  rfl

end

/-! ### SUBMIT_READING (R112) -/

/-- The state in which a submission is judged: stored, and broadcast or kept. -/
def State.submitted (k : ReadingKind) (given : Int) (s : State) : State :=
  (s.storeReading k (clampReading k given) (clampReading k given != given)).broadcastOrKeep k
    ⟨clampReading k given, clampReading k given != given, (s.reading k).counter⟩

section
variable (k : ReadingKind) (given : Int) (s : State)

theorem State.submitReading_eq :
    s.submitReading k given =
      (s.submitted k given).warnThenEvaluate ((s.submitted k given).warningsAfterSubmission k (clampReading k given)) := rfl

/-- The frame of a submission. -/
def State.submissionFrame : Frame :=
  s.broadcast63 .reading (readingPayload k ⟨clampReading k given, clampReading k given != given, (s.reading k).counter⟩)

/-- The readings after a submission was stored and broadcast or kept. -/
def State.submittedReadings : Readings :=
  { s.readings.withKind k
      { value := some (clampReading k given), clamped := clampReading k given != given, counter := (s.reading k).counter + 1
        lastSequence := some (s.reading k).counter, submittedAt := some s.now
        pending := if (s.reading k).rateTimer.isSome ∨ (s.sendTold (s.submissionFrame k given)).1 = false then
            some ⟨clampReading k given, clampReading k given != given, (s.reading k).counter⟩ else none
        rateTimer := if (s.reading k).rateTimer.isSome then (s.reading k).rateTimer else some (s.now + 10000) } with
    vs := if k = .visibility then some (smooth s.readings.vs (clampReading k given)) else s.readings.vs }

theorem State.submitted_keeps (h : (s.reading k).rateTimer.isSome = true) :
    s.submitted k given = { s with readings := s.submittedReadings k given } := by
  have htimer : ((s.storeReading k (clampReading k given) (clampReading k given != given)).reading k).rateTimer.isSome =
      true := by
    rw [State.storeReading_reading]
    exact h
  unfold State.submitted State.broadcastOrKeep
  rw [if_pos htimer, State.storeReading_eq, State.submittedReadings, if_pos (.inl h), if_pos h]
  simp [State.modReading, State.modReadings, State.storedReadings, Readings.withKind]

theorem State.submitted_broadcasts (h : (s.reading k).rateTimer = none) :
    let u := State.send (s.submissionFrame k given)
      { s with readings := s.storedReadings k (clampReading k given) (clampReading k given != given) }
    s.submitted k given =
      { s with readings := s.submittedReadings k given, ports := u.ports, deferred := u.deferred, toll := u.toll } := by
  have htimer : ¬((s.storeReading k (clampReading k given) (clampReading k given != given)).reading k).rateTimer.isSome =
      true := by
    rw [State.storeReading_reading]
    simp [h]
  have hframe : State.broadcast63 .reading (readingPayload k
      ⟨clampReading k given, clampReading k given != given, (s.reading k).counter⟩)
      { s with readings := s.storedReadings k (clampReading k given) (clampReading k given != given) } =
      s.submissionFrame k given := rfl
  intro u
  unfold State.submitted State.broadcastOrKeep
  rw [if_neg htimer, State.broadcastReading_parts, State.storeReading_reading, State.storeReading_eq, hframe,
    State.sendTold_readings, State.submittedReadings]
  have hpending : (if (s.sendTold (s.submissionFrame k given)).1 = true then none else
      some (⟨clampReading k given, clampReading k given != given, (s.reading k).counter⟩ : PendingReading)) =
      if (s.reading k).rateTimer.isSome ∨ (s.sendTold (s.submissionFrame k given)).1 = false then
            some ⟨clampReading k given, clampReading k given != given, (s.reading k).counter⟩ else none := by
    rw [h]
    cases (s.sendTold (s.submissionFrame k given)).1 <;> simp
  rw [hpending, if_neg (c := (s.reading k).rateTimer.isSome = true) (by simp [h])]
  simp [State.storedReadings, Readings.withKind, u]

theorem State.submitted_readings : (s.submitted k given).readings = s.submittedReadings k given := by
  cases h : (s.reading k).rateTimer with
  | none => rw [State.submitted_broadcasts k given s h]
  | some due => rw [State.submitted_keeps k given s (by simp [h])]

theorem State.submitted_parts :
    s.submitted k given = { s with
      readings := s.submittedReadings k given, ports := (s.submitted k given).ports
      deferred := (s.submitted k given).deferred, toll := (s.submitted k given).toll } := by
  cases h : (s.reading k).rateTimer with
  | none => rw [State.submitted_broadcasts k given s h]
  | some due => rw [State.submitted_keeps k given s (by simp [h])]

theorem State.submitted_offered (h : (s.reading k).rateTimer = none) :
    s.Offered none (s.submissionFrame k given) (s.submitted k given) := by
  rw [State.submitted_broadcasts k given s h]
  exact State.send_offered (f := s.submissionFrame k given)
    (s := { s with readings := s.storedReadings k (clampReading k given) (clampReading k given != given) })
    (State.broadcast63_not_voice (k := .reading) (by decide) _ _)

/-- Readings judge no CLOSE_ADVISED (R118). -/
theorem State.warningsAfterSubmission_closeAdvised (v : Int) (s : State) :
    (s.warningsAfterSubmission k v).closeAdvised = s.warnings.closeAdvised := by
  unfold State.warningsAfterSubmission
  cases k with
  | visibility =>
    simp only [Warnings.fogBy]
    split
    · rfl
    · split_ifs <;> rfl
  | surfaceState =>
    simp only [Warnings.iceBy]
    split <;> rfl
  | surfaceTemp =>
    simp only [Warnings.iceBy]
    split <;> rfl
  | gust =>
    simp only [Warnings.windBy]
    split_ifs <;> rfl

end

/-- Settles O31. -/
theorem submittedReadingIsStoredAndJudged : Obligations.SubmittedReadingIsStoredAndJudged := by
  intro args s haccepts
  have hcommand := haccepts.command_eq (submitReadingBody args)
  refine ⟨fun hbad => ?_, ?_⟩
  · rw [show submitReadingBody args s = (.badArgument, .none, s) by simp [submitReadingBody, hbad]] at hcommand
    exact congrArg Host.Outcome.next (State.withImages_of_answered hcommand)
  · intro k given hparse v old r told
    rw [submitReadingBody_eq s hparse, State.submitReading_eq] at hcommand
    have hexec := exec_submitReading args s
    have himages := State.withImages_parts (fun s => s.command .submitReading args (submitReadingBody args)) s
    have hsubmitted := s.submitted_parts k given
    have hoffered := s.submitted_offered k given
    have hkept := s.submitted_keeps k given
    generalize hw : (s.submitted k given).warningsAfterSubmission k (clampReading k given) = w at hcommand
    have hclose : w.closeAdvised = s.warnings.closeAdvised := by
      rw [← hw, State.warningsAfterSubmission_closeAdvised, State.submitted_parts]
    have hparts := State.warnThenEvaluate_parts w (s.submitted k given)
    have hjudged := State.warnThenEvaluate_evaluatedNow w (s.submitted k given)
    have hfollow : s.FacesFollow (s.withImages fun s => s.command .submitReading args (submitReadingBody args)) := by
      refine State.facesFollow_of_move ?_ ?_ ?_ ?_
      · rw [hcommand, hparts, hsubmitted]
        rfl
      · rw [hcommand]
        refine State.FacesMove.congr (s' := s.submitted k given) (fun g => ?_) ?_ ?_
        · rw [hsubmitted]
          exact ⟨rfl, rfl, rfl, rfl, rfl⟩
        · rw [hsubmitted]
        · refine State.FacesMove.of_eq (t := (s.submitted k given).warnThenEvaluate w)
            (State.warnThenEvaluate_facesMove _ w ?_) rfl rfl
          rw [hclose, hsubmitted]
      · rw [hcommand, hparts, hsubmitted]
        rfl
      · rw [hcommand, hparts, hsubmitted]
        rfl
    rw [hcommand] at himages
    generalize (s.withImages fun s => s.command .submitReading args (submitReadingBody args)) = t at *
    generalize (s.submitted k given).warnThenEvaluate w = x at *
    generalize hfaces : t.faces = faces at himages
    generalize hfaults : t.faults = faults at himages
    refine ⟨{ s with ports := (s.submitted k given).ports, deferred := (s.submitted k given).deferred
                     toll := (s.submitted k given).toll }, t, ?_, rfl, fun h => ?_, fun h => ?_, ?_, hfollow, ?_, ?_, ?_⟩
    · rw [← hfaces] at himages
      exact hexec
    · exact hoffered h
    · rw [hkept h]
    · rw [himages]
      rw [hsubmitted] at hjudged
      exact hjudged
    · rw [himages, hparts, hsubmitted]
      rfl
    · rw [himages, hparts, hsubmitted]
      rfl
    · rw [himages, hparts, ← hw, hsubmitted]
      cases k <;> rfl

end Sys2Proof.Machine
end

section
/-! Readings age, repeat and are fetched (R113, R115, R116). -/
namespace Sys2Proof.Machine
open Sys2Proof

/-! ### Images latch sign faults alone (R160) -/

theorem State.latch_other {n : FaultName} {i : Fin 5} (h : i ≠ n.index) (s : State) : (s.latch n).faults[i] = s.faults[i] := by
  have hne : n.index.val ≠ i.val := fun e => h (Fin.ext e.symm)
  simp only [State.latch_faults, Fin.getElem_fin]
  exact Vector.getElem_set_ne _ _ hne

theorem State.imageIfChanged_fault {g : Face} {i : Fin 5} (h : i ≠ (signFault g).index) (s v : State) :
    (v.imageIfChanged g s).faults[i] = v.faults[i] := by
  by_cases howes : State.OwesImage g s v
  · rw [State.imageIfChanged_of_owes howes, State.sendImage_eq]
    change (v.withRoom g).faults[i] = _
    unfold State.withRoom
    split
    · rw [State.countMissing_eq]
      change (if _ then (State.latch _ _).faults else _ : Vector FaultLatch 5)[i] = _
      split
      · rw [State.latch_other h]
        rfl
      · rfl
    · rfl
  · rw [State.imageIfChanged_of_not_owes howes]

theorem State.withImages_fault {i : Fin 5} (h : i ≠ 2 ∧ i ≠ 3) (act : State → State) (s : State) :
    (s.withImages act).faults[i] = (act s).faults[i] := by
  obtain ⟨heast, hwest⟩ := h
  exact (State.imageIfChanged_fault (g := .west) hwest s _).trans (State.imageIfChanged_fault (g := .east) heast s _)

/-! ### A reading ages out (R113) -/

/-- The readings without the value of a kind. -/
def State.readingsWithout (k : ReadingKind) (s : State) : Readings :=
  { s.readings.withKind k
      { s.reading k with value := none, clamped := false, lastSequence := none, submittedAt := none, pending := none } with
    vs := if k = .visibility then none else s.readings.vs }

/-- The state in which the warnings are judged: the kind is absent and its fault latched. -/
def State.withoutReading (k : ReadingKind) (s : State) : State :=
  ({ s with readings := s.readingsWithout k } : State).latch .readingsStale

section
variable (k : ReadingKind) (s : State)

theorem State.readingGone_eq :
    s.readingGone k = (s.withoutReading k).setWarnings ((s.withoutReading k).warningsAfterAbsence k) := by
  have hstate : (if k = .visibility then
      (s.modReading k fun x =>
        { x with value := none, clamped := false, lastSequence := none, submittedAt := none, pending := none }).modReadings
          fun r => { r with vs := none }
      else s.modReading k fun x =>
        { x with value := none, clamped := false, lastSequence := none, submittedAt := none, pending := none }) =
      { s with readings := s.readingsWithout k } := by
    unfold State.readingsWithout
    by_cases hk : k = .visibility
    · simp only [if_pos hk]
      rfl
    · simp only [if_neg hk]
      rfl
  unfold State.readingGone
  simp only [hstate]
  rfl

theorem State.warningsAfterAbsence_closeAdvised : (s.warningsAfterAbsence k).closeAdvised = s.warnings.closeAdvised := by
  unfold State.warningsAfterAbsence
  cases k with
  | visibility => rfl
  | surfaceState => dsimp only; split <;> rfl
  | surfaceTemp => dsimp only; split <;> rfl
  | gust => rfl

/-- The warnings after a reading went absent. -/
def State.warningsWithout : Warnings := (s.withoutReading k).warningsAfterAbsence k

theorem State.warningsWithout_closeAdvised : (s.warningsWithout k).closeAdvised = s.warnings.closeAdvised :=
  State.warningsAfterAbsence_closeAdvised k (s.withoutReading k)

theorem State.readingGone_parts :
    s.readingGone k = { s.withoutReading k with warnings := s.warningsWithout k, faces := (s.readingGone k).faces } := by
  rw [State.readingGone_eq]
  exact State.setWarnings_eq ..

theorem State.readingGone_facesMove : s.FacesMove (s.readingGone k) := by
  rw [State.readingGone_eq]
  refine State.FacesMove.congr (s' := s.withoutReading k) (fun _ => ⟨rfl, rfl, rfl, rfl, rfl⟩) rfl ?_
  exact State.setWarnings_facesMove _ _ (State.warningsAfterAbsence_closeAdvised k _)

theorem State.warningsWithout_surface (h : k = .surfaceState ∨ k = .surfaceTemp) :
    s.warningsWithout k =
      if (s.withoutReading k).readingValue .surfaceState = none ∧ (s.withoutReading k).readingValue .surfaceTemp = none then
        { s.warnings with ice := false, icyRun := 0, thawRun := 0 }
      else s.warnings := by
  have hfall : s.warningsWithout k =
      if ((s.withoutReading k).readingValue .surfaceState).isNone && ((s.withoutReading k).readingValue .surfaceTemp).isNone then
        { (s.withoutReading k).warnings with ice := false, icyRun := 0, thawRun := 0 }
      else (s.withoutReading k).warnings := by
    obtain rfl | rfl := h <;> rfl
  rw [hfall]
  simp only [Bool.and_eq_true, Option.isNone_iff_eq_none]
  rfl

end

/-! ### A READING arrives at a collector (R116) -/

section
variable {p : Side} {bytes : List Byte} {f : Frame} {s : State}

/-- A frame that its kind's block does not take is relayed and goes no further (R10). -/
theorem State.Arrives.exec_untaken {k : FrameKind} (h : s.Arrives p bytes f) (hk : f.kind = k.code) (hv : k ≠ .voice)
    (ht : (s.reached p f).takesKind k f.counted = false) : exec (.lineFrameArrives p bytes) s = .next (s.reached p f) := by
  have hreceive : s.receive p (parseFrame bytes) = s.reached p f := by
    rw [h.receive_eq fun hc => hv (FrameKind.code_injective (hk.symm.trans hc))]
    have hkind : kindOf f.counted.kind = some k := by rw [show f.counted.kind = k.code from hk, kindOf_code]
    simp only [State.takeLocally, hkind, ht, Bool.false_eq_true, if_false]
  rw [exec_lineFrameArrives p bytes s h.1]
  have himages : (s.withImages fun s => s.receive p (parseFrame bytes)) = s.withImages fun _ => s.reached p f := by
    simp only [State.withImages, hreceive]
  rw [himages, State.withImages_reached]

theorem State.reached_config (p : Side) (f : Frame) (s : State) : (s.reached p f).config = s.config := by
  obtain ⟨_, _, _, _, _, _, h⟩ := s.reached_eq p f
  rw [h]

/-- A READING is taken by collectors. -/
theorem State.reached_takesReading (hj : s.joined = true) (ht : f.TakenBy .reading true s.number) :
    (s.reached p f).takesKind .reading f.counted = s.config.collector := by
  have hopen : (s.reached p f).takesKind .reading f.counted =
      ((s.reached p f).joined && (s.reached p f).config.collector && (f.target == 0 || f.target == (s.reached p f).number)) := rfl
  obtain ⟨-, htarget⟩ := ht
  have hown : (f.target == 0 || f.target == s.number) = true := by simpa [or_comm] using htarget
  rw [hopen, State.reached_joined, State.reached_number, State.reached_config, hj, hown, Bool.true_and, Bool.and_true]

theorem State.takeReading_eq (f : Frame) (k : ReadingKind) (r : PendingReading) (s : State) :
    s.takeReading f k r = { s with readings := { s.readings with
      delivery := (if s.readings.delivery.length < 32 then s.readings.delivery else s.readings.delivery.drop 1) ++
        [⟨f.origin, k, r.value, r.clamped, r.sequence⟩] } } := by
  simp only [State.takeReading, State.modReadings, ← not_lt, ite_not]

theorem State.Arrives.exec_reading {k : ReadingKind} {r : PendingReading} (h : s.Arrives p bytes f) (hj : s.joined = true)
    (ht : f.TakenBy .reading true s.number) (hc : s.config.collector = true) (hp : parseReading f.payload = some (k, r)) :
    exec (.lineFrameArrives p bytes) s = .next ((s.reached p f).takeReading f.counted k r) := by
  have hhanded : (s.reached p f).handTo .reading p f.counted = (s.reached p f).takeReading f.counted k r := by
    simp only [State.handTo, Frame.counted, hp, State.taking]
  rw [h.exec_eq ht.1 (by decide) ((State.reached_takesReading hj ht).trans hc), hhanded]
  exact congrArg _ (State.withImages_of_imageKey_eq fun g => s.reached_imageKey p f g)

end

section
variable {k : ReadingKind} {s : State} {due : Nat} (hreset : s.resetHeld = false) (hdue : (s.reading k).rateTimer = some due)
include hreset hdue

theorem exec_rateTimerExpiry_pending {r : PendingReading} (h : (s.reading k).pending = some r) :
    exec (.rateTimerExpiry k) s = .next ((s.clockTo due).broadcastReading k r) := by
  have hclock : ((s.clockTo due).reading k).pending = some r := h
  change execRateTimerExpiry k s = _
  rw [execRateTimerExpiry, hdue, State.onTimer_running _ _ s hreset]
  simp only [hclock]

theorem exec_rateTimerExpiry_none (h : (s.reading k).pending = none) :
    exec (.rateTimerExpiry k) s =
      .next { s with
        now := max s.now due
        readings := { s.readings with kinds := s.readings.kinds.set (readingCode k) { s.reading k with rateTimer := none } } } := by
  have hclock : ((s.clockTo due).reading k).pending = none := h
  change execRateTimerExpiry k s = _
  rw [execRateTimerExpiry, hdue, State.onTimer_running _ _ s hreset]
  simp only [hclock]
  rfl

end

/-- Settles O34. -/
theorem readingsAgeRepeatAndAreFetched : Obligations.ReadingsAgeRepeatAndAreFetched := by
  refine ⟨⟨?_, ?_⟩, ?_, ?_⟩
  · intro k s at' hreset hsubmitted
    have hexec : exec (.readingAgeOut k) s = .next ((s.clockTo (at' + 900000)).withImages (State.readingGone k)) := by
      change (.next (s.onSignTimer ((s.reading k).submittedAt.map (· + 900000)) (State.readingGone k)) : Result) = _
      rw [hsubmitted, Option.map_some, State.onSignTimer_running _ _ hreset]
    have himages := State.withImages_parts (State.readingGone k) (s.clockTo (at' + 900000))
    have hfault := State.withImages_fault (i := 4) (by decide) (State.readingGone k) (s.clockTo (at' + 900000))
    have hparts := (s.clockTo (at' + 900000)).readingGone_parts k
    have hsurface := (s.clockTo (at' + 900000)).warningsWithout_surface k
    have hfollow : (s.clockTo (at' + 900000)).FacesFollow ((s.clockTo (at' + 900000)).withImages (State.readingGone k)) := by
      refine State.facesFollow_of_move ?_ (State.readingGone_facesMove k _) ?_ ?_
      all_goals rw [hparts]; rfl
    refine ⟨_, hexec, ?_⟩
    generalize (s.clockTo (at' + 900000)).withImages (State.readingGone k) = t at himages hfault hfollow ⊢
    generalize t.faces = faces at himages ⊢
    rw [hparts] at himages hfault
    refine ⟨?_, hfault.trans (Vector.getElem_set_self ..), fun hk => ?_, fun hk => ?_, fun hk => ?_, hfollow⟩
    · rw [himages]
      rfl
    · rw [himages, hk]
      rfl
    · rw [himages, hk]
      rfl
    · rw [himages]
      exact hsurface hk
  · intro k s due hreset hdue now' after
    refine ⟨fun hnone => exec_rateTimerExpiry_none hreset hdue hnone, fun r hpending => ?_⟩
    · have hparts := State.broadcastReading_parts k (s.clockTo due) r
      refine ⟨_, exec_rateTimerExpiry_pending hreset hdue hpending, ?_, ?_⟩
      · rw [hparts]
        exact State.send_offered (f := s.broadcast63 .reading (readingPayload k r)) (s := s.clockTo due)
          (State.broadcast63_not_voice (k := .reading) (by decide) _ _)
      · have htold : ((s.clockTo due).sendTold (s.broadcast63 .reading (readingPayload k r))).1 =
            (s.sendTold (s.broadcast63 .reading (readingPayload k r))).1 := by
          rw [Bool.eq_iff_iff, State.sendTold_sent_iff, State.sendTold_sent_iff]
          rfl
        have hframe : (s.clockTo due).broadcast63 .reading (readingPayload k r) =
            s.broadcast63 .reading (readingPayload k r) := rfl
        rw [hparts, hframe, htold]
        rfl
  · intro p bytes f k r s harrives hjoined htaken hpayload
    refine ⟨fun hcollector => ?_, fun hcollector => ?_⟩
    · rw [harrives.exec_reading hjoined htaken hcollector hpayload, State.takeReading_eq]
      have hreadings : (s.reached p f).readings = s.readings := by
        obtain ⟨_, _, _, _, _, _, h⟩ := s.reached_eq p f
        rw [h]
      rw [hreadings]
      rfl
    · exact harrives.exec_untaken htaken.1 (by decide) ((State.reached_takesReading hjoined htaken).trans hcollector)
  · intro s haccepts
    have hexec : exec (.fetchReading []) s = .next ((fetchReadingBody s).2.2.answered .fetchReading (fetchReadingBody s).1
        (fetchReadingBody s).2.1) := congrArg Host.Outcome.next (haccepts.command_eq (args := []) fetchReadingBody)
    refine ⟨fun hempty => ?_, fun e es hlist => ?_⟩
    · rw [hexec]
      simp only [fetchReadingBody, hempty]
      rfl
    · rw [hexec]
      simp only [fetchReadingBody, hlist]
      rfl

end Sys2Proof.Machine
end

section
/-! Selections: the candidates in their order (R151, R152) and the item shown (R153). -/
namespace Sys2Proof.Machine
open Sys2Proof

/-! ### The candidates (R151, R152) -/

theorem pageNumbers_eq : pageNumbers = List.finRange 32 := by decide

theorem mem_builtIns (w : Warning) : w ∈ builtIns := by cases w <;> simp [builtIns]

section
variable {g : Face} {s : State} {n : Fin 32} {w : Warning}

theorem State.pageIsCandidate_iff :
    s.pageIsCandidate g n = true ↔
      ∃ p, s.pageAt n = some p ∧ p.onFace g = true ∧ ∀ w, p.bound = some w → s.warnings.isOn g w = true := by
  unfold State.pageIsCandidate
  cases s.pageAt n with
  | none => simp
  | some p => cases hb : p.bound <;> simp [hb]

theorem State.replaced_iff :
    s.replaced g w = true ↔ ∃ n p, s.pageAt n = some p ∧ p.bound = some w ∧ p.onFace g = true := by
  unfold State.replaced
  rw [pageNumbers_eq, List.any_eq_true]
  refine exists_congr fun n => ?_
  cases s.pageAt n <;> simp

theorem State.page_mem_candidates :
    .page n ∈ s.candidates g ↔
      ∃ p, s.pageAt n = some p ∧ p.onFace g = true ∧ ∀ w, p.bound = some w → s.warnings.isOn g w = true := by
  rw [← State.pageIsCandidate_iff]
  simp [State.candidates, pageNumbers_eq]

theorem State.builtIn_mem_candidates :
    .builtIn w ∈ s.candidates g ↔
      s.warnings.isOn g w = true ∧ ∀ n p, s.pageAt n = some p → p.bound = some w → p.onFace g = false := by
  have hreplaced : s.replaced g w = false ↔ ∀ n p, s.pageAt n = some p → p.bound = some w → p.onFace g = false := by
    rw [← Bool.not_eq_true, State.replaced_iff]
    simp
  rw [← hreplaced]
  simp [State.candidates, mem_builtIns]

end

/-- The place of an item in the order of R152: pages by number, then built-in items in the table's order. -/
def Item.place : Item → Nat
  | .page n => n.val
  | .builtIn .incident => 32
  | .builtIn .closeAdvised => 33
  | .builtIn .ice => 34
  | .builtIn .fog => 35
  | .builtIn .wind => 36

theorem State.candidates_inOrder (g : Face) (s : State) : (s.candidates g).Pairwise fun a b => a.place < b.place := by
  have hbuiltIn (w : Warning) : 32 ≤ (Item.builtIn w).place := by cases w <;> decide
  refine List.pairwise_append.2 ⟨?_, ?_, ?_⟩
  · rw [List.pairwise_map, pageNumbers_eq]
    exact (List.pairwise_lt_finRange 32).sublist List.filter_sublist
  · rw [List.pairwise_map]
    exact List.Pairwise.sublist List.filter_sublist (by decide)
  · intro a ha b hb
    obtain ⟨n, -, rfl⟩ := List.mem_map.1 ha
    obtain ⟨w, -, rfl⟩ := List.mem_map.1 hb
    exact n.isLt.trans_le (hbuiltIn w)

/-! ### The top priority and the rotation (R152) -/

section
variable {items : List Item} {s : State} {top : Nat}

theorem State.foldl_priority (acc : Nat) :
    items.foldl (fun acc i => some (max (acc.getD 0) (s.itemPriority i))) (some acc) =
      some (items.foldl (fun m i => max m (s.itemPriority i)) acc) := by
  induction items generalizing acc with
  | nil => rfl
  | cons i is ih => exact ih _

theorem foldl_max_eq {α : Type} (f : α → Nat) (is : List α) (acc : Nat) (hle : ∀ i ∈ is, f i ≤ top)
    (hacc : acc ≤ top) (htop : acc = top ∨ ∃ i ∈ is, f i = top) : is.foldl (fun m i => max m (f i)) acc = top := by
  induction is generalizing acc with
  | nil => simpa using htop
  | cons i is ih =>
    rw [List.forall_mem_cons] at hle
    obtain ⟨hi, his⟩ := hle
    refine ih _ his (max_le hacc hi) ?_
    rcases htop with h | ⟨j, hj, h⟩
    · exact .inl (show max acc (f i) = top by omega)
    · rcases List.mem_cons.1 hj with rfl | hj
      · exact .inl (show max acc (f j) = top by omega)
      · exact .inr ⟨j, hj, h⟩

theorem State.topPriority_eq (hmem : ∃ i ∈ items, s.itemPriority i = top) (hle : ∀ i ∈ items, s.itemPriority i ≤ top) :
    s.topPriority items = some top := by
  cases items with
  | nil => simp at hmem
  | cons i is =>
    rw [List.forall_mem_cons] at hle
    obtain ⟨hi, his⟩ := hle
    have hfold : s.topPriority (i :: is) = some (is.foldl (fun m i => max m (s.itemPriority i)) (max 0 (s.itemPriority i))) :=
      State.foldl_priority _
    rw [hfold]
    refine congrArg some (foldl_max_eq _ _ _ his (by omega) ?_)
    obtain ⟨j, hj, h⟩ := hmem
    rcases List.mem_cons.1 hj with rfl | hj
    · exact .inl (by omega)
    · exact .inr ⟨j, hj, h⟩

theorem State.rotationOf_eq (h : s.topPriority items = some top) :
    s.rotationOf items = (items.filter fun i => s.itemPriority i == top).take 3 := by
  simp only [State.rotationOf, h]

theorem State.topPriority_nil : s.topPriority [] = none := rfl

theorem State.rotationOf_nil : s.rotationOf [] = [] := rfl

end

/-! ### The next item of a rotation (R153, R154) -/

theorem nextItem_of_not_mem {rotation : List Item} {i : Item} (h : i ∉ rotation) : nextItem rotation i = rotation.head? := by
  have hnone : rotation.findIdx? (· == i) = none := by
    rw [List.findIdx?_eq_none_iff]
    intro j hj
    have hne : j ≠ i := fun e => h (e ▸ hj)
    simpa using hne
  simp only [nextItem, hnone]

theorem nextItem_split {before after : List Item} {i : Item} (h : i ∉ before) :
    nextItem (before ++ i :: after) i = (after ++ before ++ [i]).head? := by
  have hidx : (before ++ i :: after).findIdx? (· == i) = some before.length := by
    rw [List.findIdx?_append]
    have hnone : before.findIdx? (· == i) = none := by
      rw [List.findIdx?_eq_none_iff]
      intro j hj
      have hne : j ≠ i := fun e => h (e ▸ hj)
      simpa using hne
    simp [hnone, List.findIdx?_cons]
  simp only [nextItem, hidx]
  cases after with
  | nil =>
    have hlen : (before.length + 1) % (before ++ [i]).length = 0 := by simp
    rw [hlen]
    cases before <;> simp
  | cons j after =>
    have hlen : (before.length + 1) % (before ++ i :: j :: after).length = before.length + 1 := by
      refine Nat.mod_eq_of_lt ?_
      simp
    rw [hlen]
    simp

/-! ### The item shown (R153) -/

/-- The selector with the rotation and top priority of these candidates. -/
def State.refreshedSelector (items : List Item) (s : State) (x : Selector) : Selector :=
  { x with rotation := s.rotationOf items, top := s.topPriority items }

/-- The selector shows this item anew (R153, R155). -/
def State.Shows (i : Item) (s : State) (y : Selector) : Prop :=
  y.shown = some i ∧ y.dwellTimer = some (s.now + 3000) ∧ y.flashOn = true ∧
    y.flashTimer =
      if s.itemFlash i = .none then none
      else some (s.now + if 4 ≤ s.itemPriority i then 500 else 1000)

theorem State.showItem_shows (i : Item) (s : State) (x : Selector) : s.Shows i (s.showItem i x) := ⟨rfl, rfl, rfl, rfl⟩

section
variable {items : List Item} {s : State} {x : Selector} {i first : Item}

theorem State.keepItem_parts (i : Item) (s : State) (x : Selector) :
    (s.keepItem i x).shown = x.shown ∧ (s.keepItem i x).dwellTimer = x.dwellTimer ∧ (s.keepItem i x).rotation = x.rotation ∧
      (s.keepItem i x).top = x.top := by
  unfold State.keepItem
  split_ifs <;> exact ⟨rfl, rfl, rfl, rfl⟩

theorem State.selectedFrom_none (h : (s.rotationOf items).head? = none) :
    s.selectedFrom items x =
      { s.refreshedSelector items x with shown := none, dwellTimer := none, flashOn := true, flashTimer := none } := by
  simp only [State.selectedFrom, h]
  rfl

variable (hfirst : (s.rotationOf items).head? = some first)
include hfirst

theorem State.selectedFrom_new (h : x.shown = none) :
    s.selectedFrom items x = s.showItem first (s.refreshedSelector items x) := by
  simp only [State.selectedFrom, hfirst, h]
  rfl

theorem State.selectedFrom_gone (hi : x.shown = some i) (h : i ∉ items) :
    s.selectedFrom items x = s.showItem first (s.refreshedSelector items x) := by
  have hcontains : items.contains i = false := by simpa using h
  simp only [State.selectedFrom, hfirst, hi, hcontains, if_true]
  rfl

theorem State.selectedFrom_lower {top : Nat} (hi : x.shown = some i) (htop : s.topPriority items = some top) (h : s.itemPriority i < top) :
    s.selectedFrom items x = s.showItem first (s.refreshedSelector items x) := by
  simp only [State.selectedFrom, hfirst, hi, htop, Option.getD_some, if_pos h, ite_self]
  rw [State.refreshedSelector, htop, hi]

section
variable {top : Nat} (hi : x.shown = some i) (hmem : i ∈ items) (htop : s.topPriority items = some top) (h : top ≤ s.itemPriority i)
include hi hmem htop h

theorem State.selectedFrom_dwells (hdwell : x.dwellTimer.isSome = true) :
    s.selectedFrom items x = s.keepItem i (s.refreshedSelector items x) := by
  have hcontains : ¬items.contains i = false := by simpa using hmem
  simp only [State.selectedFrom, hfirst, hi, htop, Option.getD_some, if_neg hcontains, if_neg (Nat.not_lt.2 h), if_pos hdwell]
  rw [State.refreshedSelector, htop, hi]

theorem State.selectedFrom_next (hdwell : x.dwellTimer = none) {j : Item} (hj : nextItem (s.rotationOf items) i = some j) :
    s.selectedFrom items x =
      if j = i then s.keepItem i (s.refreshedSelector items x) else s.showItem j (s.refreshedSelector items x) := by
  have hcontains : ¬items.contains i = false := by simpa using hmem
  simp only [State.selectedFrom, hfirst, hi, htop, Option.getD_some, if_neg hcontains, if_neg (Nat.not_lt.2 h), hdwell,
    Option.isSome_none, Bool.false_eq_true, if_false, hj]
  rw [State.refreshedSelector, htop, hi, hdwell]

end

end

theorem State.selectedFrom_rotation (items : List Item) (s : State) (x : Selector) :
    (s.selectedFrom items x).rotation = s.rotationOf items ∧ (s.selectedFrom items x).top = s.topPriority items := by
  have hkeep (i : Item) := State.keepItem_parts i s (s.refreshedSelector items x)
  have hkept (i : Item) : (s.keepItem i (s.refreshedSelector items x)).rotation = s.rotationOf items ∧
      (s.keepItem i (s.refreshedSelector items x)).top = s.topPriority items := (hkeep i).2.2
  have hshown (i : Item) : (s.showItem i (s.refreshedSelector items x)).rotation = s.rotationOf items ∧
      (s.showItem i (s.refreshedSelector items x)).top = s.topPriority items := ⟨rfl, rfl⟩
  unfold State.selectedFrom
  simp only
  split
  · exact ⟨rfl, rfl⟩
  · split
    · exact hshown _
    · split_ifs
      · exact hshown _
      · exact hshown _
      · exact hkept _
      · split
        · exact hkept _
        · split_ifs
          · exact hkept _
          · exact hshown _

/-- Settles O38. -/
theorem selectionFollowsTheCandidates : Obligations.SelectionFollowsTheCandidates := by
  refine ⟨fun g s h => if_neg (by simp [h]), fun g s n => State.page_mem_candidates, fun g s w => State.builtIn_mem_candidates, ?_,
    fun w => by cases w <;> rfl, fun w s => ⟨State.setWarnings_eq w s, fun g => ⟨fun h => ?_, fun h => ?_⟩⟩, ?_⟩
  · intro place g s
    refine (State.candidates_inOrder g s).imp fun {a b} h => ?_
    have hplace (i : Item) : place i = i.place := by
      cases i with
      | page n => rfl
      | builtIn w => cases w <;> rfl
    rw [hplace, hplace]
    exact h
  · rw [State.setWarnings_face]
    exact State.reselectedBy_same h
  · obtain ⟨x, hx⟩ := h
    have hdiffer : s.warnings.differ w g = true := by
      by_contra hsame
      exact hx (Warnings.differ_eq_false_iff.1 (by simpa using hsame) x)
    rw [State.setWarnings_face, State.reselectedBy_eq_selectIf, hdiffer]
    rfl
  · intro g s hselecting items x y shows
    have hselected : (s.select g).faces.get g = { s.faces.get g with selector := s.selectedFrom items x } := by
      rw [State.select_face, if_pos hselecting]
      rfl
    have hy : y = s.selectedFrom items x := congrArg FaceUnit.selector hselected
    obtain ⟨hrotation, htopy⟩ := State.selectedFrom_rotation items s x
    rw [← hy] at hrotation htopy
    refine ⟨?_, fun hempty => ?_, fun top hexists hle => ?_⟩
    · have hstate : s.select g = s.modFace g fun u => { u with selector := s.selected g u.selector } := if_pos hselecting
      rw [hy, hstate]
      rfl
    · rw [hy, hempty, State.selectedFrom_none rfl]
      exact ⟨rfl, rfl, rfl, rfl⟩
    · have htop := State.topPriority_eq hexists hle
      have hrot := State.rotationOf_eq htop
      refine ⟨htopy.trans htop, hrotation.trans hrot, fun first hfirst => ?_⟩
      rw [hrotation] at hfirst ⊢
      refine ⟨fun h => ?_, fun i hi => ⟨fun h => ?_, fun hmem h => ?_, fun hmem h hdwell => ?_, fun hmem h hdwell hnot => ?_,
        fun hmem h hdwell before after hsplit hbefore => ⟨fun j hj hne => ?_, fun hempty => ?_⟩⟩⟩
      · change s.Shows first y
        rw [hy, State.selectedFrom_new hfirst h]
        exact State.showItem_shows _ _ _
      · change s.Shows first y
        rw [hy, State.selectedFrom_gone hfirst hi h]
        exact State.showItem_shows _ _ _
      · change s.Shows first y
        rw [hy, State.selectedFrom_lower hfirst hi htop h]
        exact State.showItem_shows _ _ _
      · rw [hy, State.selectedFrom_dwells hfirst hi hmem htop h hdwell]
        obtain ⟨hshown, hdwells, -, -⟩ := State.keepItem_parts i s (s.refreshedSelector items x)
        exact ⟨hshown.trans hi, hdwells⟩
      · have hnext := (nextItem_of_not_mem hnot).trans hfirst
        have hne : first ≠ i := fun e => hnot (e ▸ List.mem_of_mem_head? (by rw [hfirst]; rfl))
        change s.Shows _ y
        rw [hy, State.selectedFrom_next hfirst hi hmem htop h hdwell hnext, if_neg hne]
        exact State.showItem_shows _ _ _
      · have hnext : nextItem (s.rotationOf items) i = some j := by
          rw [hsplit, nextItem_split hbefore, List.head?_append, hj]
          rfl
        change s.Shows _ y
        rw [hy, State.selectedFrom_next hfirst hi hmem htop h hdwell hnext, if_neg hne]
        exact State.showItem_shows _ _ _
      · have hnext : nextItem (s.rotationOf items) i = some i := by
          rw [hsplit, nextItem_split hbefore, hempty]
          rfl
        rw [hy, State.selectedFrom_next hfirst hi hmem htop h hdwell hnext, if_pos rfl]
        obtain ⟨hshown, hdwells, -, -⟩ := State.keepItem_parts i s (s.refreshedSelector items x)
        exact ⟨hshown.trans hi, hdwells.trans hdwell⟩

end Sys2Proof.Machine
end

section
/-! Selection events of both faces and the timers of pages and faces (R149, R150, R154, R155). -/
namespace Sys2Proof.Machine
open Sys2Proof

/-! ### A change of content is a selection event of both faces (R150) -/

/-- A selection event of both faces where it is called for. -/
def State.selectBothIf (on : Bool) (s : State) : State := if on then s.selectBoth else s

section
variable (on : Bool) (s : State)

theorem State.selectBothIf_eq : s.selectBothIf on = (s.selectIf on .east).selectIf on .west := by cases on <;> rfl

theorem State.selectBothIf_parts : s.selectBothIf on = { s with faces := (s.selectBothIf on).faces } := by
  rw [State.selectBothIf_eq, State.selectIf_eq, State.selectIf_eq]

theorem State.selectBothIf_face (g : Face) : (s.selectBothIf on).faces.get g = (s.selectIf on g).faces.get g := by
  rw [State.selectBothIf_eq]
  cases g with
  | east => exact State.selectIf_face_other (by decide) _ _
  | west =>
    refine State.selectIf_face_congr ⟨State.selectIf_face_other (by decide) _ _, ?_, ?_, ?_, ?_⟩ ?_ _
    all_goals rw [State.selectIf_eq]
    exact fun _ => rfl

end

theorem PerSide.eq_of_get {α : Type} {x y : PerSide α} (h : ∀ d, x.get d = y.get d) : x = y := by
  obtain ⟨east, west⟩ := x
  exact congrArg₂ PerSide.mk (h .east) (h .west)

/-- Where selections come to the same, so does a selection event of both faces. -/
theorem State.selectBothIf_faces_congr {s s' : State} (hsign : ∀ g, State.SameSign g s s') (hwarnings : s.warnings = s'.warnings)
    (on : Bool) : (s.selectBothIf on).faces = (s'.selectBothIf on).faces := by
  refine PerSide.eq_of_get fun g => ?_
  rw [State.selectBothIf_face, State.selectBothIf_face]
  exact State.selectIf_face_congr (hsign g) (fun _ => by rw [hwarnings]) on

/-- The faces follow an event that put a page store in place and left warnings, station and speeds as they stand. -/
theorem State.facesFollowPages_withImages {act : State → State} {s : State} {on : Bool}
    (hfaces : (act s).faces = (({ s with now := (act s).now, pages := (act s).pages } : State).selectBothIf on).faces)
    (hjoined : (act s).joined = s.joined) (hconfig : (act s).config = s.config) :
    s.FacesFollowPages on (s.withImages act) := by
  intro g
  have hface : (act s).faces.get g =
      (({ s with now := (act s).now, pages := (act s).pages } : State).selectIf on g).faces.get g := by
    rw [hfaces, State.selectBothIf_face]
  have hparts := State.withImages_parts act s
  refine ⟨?_, State.imageFollows_withImages (x := ((act s).faces.get g).selector) ?_ hjoined hconfig⟩
  · have hnow : (s.withImages act).now = (act s).now := by rw [hparts]
    have hpages : (s.withImages act).pages = (act s).pages := by rw [hparts]
    rw [State.withImages_selector, hnow, hpages, hface]
    cases on <;> rfl
  · rw [hface, State.selectIf_face]
    split <;> rfl

/-! ### A page that is gone is shown no longer (R153) -/

theorem State.selectedFrom_shown_mem {items : List Item} {s : State} {x : Selector} {i : Item} (hgone : i ∉ items)
    (hshown : x.shown = some i) : (s.selectedFrom items x).shown ≠ some i := by
  cases hfirst : (s.rotationOf items).head? with
  | none => simp [State.selectedFrom_none hfirst]
  | some first =>
    have hmem : first ∈ items := by
      have := List.mem_of_head? hfirst
      unfold State.rotationOf at this
      split at this
      · cases this
      · exact (List.mem_filter.1 (List.mem_of_mem_take this)).1
    rw [State.selectedFrom_gone hfirst hshown hgone]
    intro h
    exact hgone (Option.some.inj h ▸ hmem)

theorem State.not_shown_of_emptied {g : Face} {n : Fin 32} {s : State} (hempty : s.pageAt n = none) (hselecting : s.selecting g = true)
    (hshown : (s.faces.get g).selector.shown = some (.page n)) :
    ((s.selectBothIf true).faces.get g).selector.shown ≠ some (.page n) := by
  have hgone : Item.page n ∉ s.candidates g := by
    simp [State.page_mem_candidates, hempty]
  rw [State.selectBothIf_face, State.selectIf_face, hselecting]
  exact State.selectedFrom_shown_mem hgone hshown

/-! ### The minutes of a page (R149) -/

section
variable {n : Fin 32} {s : State} {c : StoredPage} {left : Nat} (hc : s.pages[n].content = some c) (hleft : c.remaining = some left)
include hc hleft

theorem State.minuteEnds_goesOn (h : 2 ≤ left) :
    s.minuteEnds n =
      { s with
        pages := s.pages.set n
          ⟨some { c with remaining := some (left - 1), minuteTimer := some (s.now + 60000) }, s.pages[n].mark⟩ } := by
  simp only [State.minuteEnds, hc, hleft, Option.getD_some, if_neg (show ¬left - 1 = 0 by omega)]
  rfl

theorem State.minuteEnds_last (h : left ≤ 1) :
    s.minuteEnds n = ({ s with pages := s.pages.set n ⟨none, s.pages[n].mark⟩ } : State).selectBothIf true := by
  simp only [State.minuteEnds, hc, hleft, Option.getD_some, if_pos (show left - 1 = 0 by omega)]
  rfl

theorem State.minuteEnds_imageKey (h : 2 ≤ left) (g : Face) : (s.minuteEnds n).imageKey g = s.imageKey g := by
  rw [State.minuteEnds_goesOn hc hleft h]
  have hpage (k : Fin 32) :
      State.pageAt k
        { s with
          pages := s.pages.set n
            ⟨some { c with remaining := some (left - 1), minuteTimer := some (s.now + 60000) }, s.pages[n].mark⟩ } =
        s.pageAt k := by
    by_cases hk : k = n
    · subst hk
      simp only [State.pageAt, Fin.getElem_fin, Vector.getElem_set_self]
      rw [Fin.getElem_fin] at hc
      rw [hc]
      rfl
    · have hne : n.val ≠ k.val := fun e => hk (Fin.ext e.symm)
      simp only [State.pageAt, Fin.getElem_fin, Vector.getElem_set_ne _ _ hne]
  simp only [State.imageKey, hpage, State.selecting] <;> rfl

end

/-! ### The dwell and the flash (R154, R155) -/

section
variable {g : Face} {s : State} {i : Item}

theorem State.dwellEnds_shows {j : Item} (hi : (s.faces.get g).selector.shown = some i)
    (hj : nextItem (s.faces.get g).selector.rotation i = some j) (hne : j ≠ i) :
    s.dwellEnds g = s.modFace g fun u => { u with selector := s.showItem j u.selector } := by
  simp only [State.dwellEnds, State.modFace, hi, hj, if_neg hne]

theorem State.dwellEnds_settles (hi : (s.faces.get g).selector.shown = some i)
    (hrotation : (s.faces.get g).selector.rotation = [i]) :
    s.dwellEnds g = s.modFace g fun u => { u with selector := { u.selector with dwellTimer := none } } := by
  have hnext : nextItem [i] i = some i := nextItem_split (before := []) (after := []) (by simp)
  simp only [State.dwellEnds, State.modFace, hi, hrotation, hnext, if_true]

theorem State.flashEnds_eq (hi : (s.faces.get g).selector.shown = some i) :
    s.flashEnds g =
      s.modFace g fun u =>
        { u with
          selector :=
            { u.selector with
              flashOn := !u.selector.flashOn
              flashTimer := some (s.now + if 4 ≤ s.itemPriority i then 500 else 1000) } } := by
  simp only [State.flashEnds, State.modFace, hi, Option.elim_some]
  rfl

end

theorem Side.other_ne (g : Side) : g.other ≠ g := by cases g <;> decide

/-- The image of one face that an event moved alone. -/
theorem State.withImages_modFace {act : State → State} {s : State} {g : Face} {f : FaceUnit → FaceUnit}
    (hact : act s = s.modFace g f) :
    (s.withImages act).faces.get g.other = s.faces.get g.other ∧
      ((s.withImages act).faces.get g).selector = (f (s.faces.get g)).selector := by
  have hother : (act s).faces.get g.other = s.faces.get g.other := by
    rw [hact]
    exact (PerSide.get_set ..).trans (if_neg (Side.other_ne g))
  have hself : (act s).faces.get g = f (s.faces.get g) := by
    rw [hact]
    exact PerSide.get_set_same ..
  refine ⟨?_, (State.withImages_selector act s g).trans (congrArg _ hself)⟩
  rw [State.withImages_face_of_not_owes act s g.other, hother]
  rintro ⟨-, -, hne⟩
  refine hne (State.imageKey_congr _ (congrArg _ hother) (congrArg _ hother) ?_ ?_ ?_ ?_)
  all_goals rw [hact]; rfl

/-- A face that changes its flash phase owes an image (R155, R158). -/
theorem State.owesImage_of_flash {s t : State} {g : Face} (hs : s.selecting g = true) (ht : t.selecting g = true)
    (hflash : (t.faces.get g).selector.flashOn = !(s.faces.get g).selector.flashOn) : State.OwesImage g s t := by
  refine ⟨hs, ht, fun h => ?_⟩
  simp only [State.imageKey, hs, ht, if_true, Option.some.injEq, Prod.mk.injEq, hflash] at h
  obtain ⟨-, -, hphase, -⟩ := h
  revert hphase
  cases (s.faces.get g).selector.flashOn <;> decide

/-! ### The events -/

theorem exec_pageMinuteTimerExpiry {n : Fin 32} {s : State} {c : StoredPage} {due : Nat} (hreset : s.resetHeld = false)
    (hc : s.pages[n].content = some c) (hdue : c.minuteTimer = some due) :
    exec (.pageMinuteTimerExpiry n) s = .next ((s.clockTo due).withImages fun s => s.minuteEnds n) := by
  change execPageMinuteTimerExpiry n s = _
  rw [execPageMinuteTimerExpiry, hc, Option.elim_some, hdue, State.onSignTimer_running due _ hreset]

theorem exec_dwellTimerExpiry {g : Face} {s : State} {due : Nat} (hreset : s.resetHeld = false)
    (hdue : (s.faces.get g).selector.dwellTimer = some due) :
    exec (.dwellTimerExpiry g) s = .next ((s.clockTo due).withImages fun s => s.dwellEnds g) := by
  change execDwellTimerExpiry g s = _
  rw [execDwellTimerExpiry, hdue, State.onSignTimer_running due _ hreset]

theorem exec_flashTimerExpiry {g : Face} {s : State} {due : Nat} (hreset : s.resetHeld = false)
    (hdue : (s.faces.get g).selector.flashTimer = some due) :
    exec (.flashTimerExpiry g) s = .next ((s.clockTo due).withImages fun s => s.flashEnds g) := by
  change execFlashTimerExpiry g s = _
  rw [execFlashTimerExpiry, hdue, State.onSignTimer_running due _ hreset]

/-- The last minute of a page empties its slot, and both faces are selected (R149, R150). -/
theorem exec_lastMinute {n : Fin 32} {s : State} {c : StoredPage} {due left : Nat} (hreset : s.resetHeld = false)
    (hc : s.pages[n].content = some c) (hdue : c.minuteTimer = some due) (hleft : c.remaining = some left) (h : left ≤ 1) :
    ∃ t, exec (.pageMinuteTimerExpiry n) s = .next t ∧
      t = { s with
            now := max s.now due, pages := s.pages.set n ⟨none, s.pages[n].mark⟩, faces := t.faces, faults := t.faults } ∧
      s.FacesFollowPages true t ∧
      ∀ g : Face, s.selecting g = true → (s.faces.get g).selector.shown = some (.page n) →
        (t.faces.get g).selector.shown ≠ some (.page n) := by
  refine ⟨_, exec_pageMinuteTimerExpiry hreset hc hdue, ?_⟩
  have hact : (s.clockTo due).minuteEnds n = _ := State.minuteEnds_last (s := s.clockTo due) hc hleft h
  have hparts := State.withImages_parts (fun s => s.minuteEnds n) (s.clockTo due)
  have hselector := State.withImages_selector (fun s => s.minuteEnds n) (s.clockTo due)
  have hfollow : (s.clockTo due).FacesFollowPages true ((s.clockTo due).withImages fun s => s.minuteEnds n) :=
    State.facesFollowPages_withImages
      (by rw [hact, State.selectBothIf_parts]) (by rw [hact, State.selectBothIf_parts])
      (by rw [hact, State.selectBothIf_parts])
  beta_reduce at hparts hselector
  rw [hact] at hparts hselector
  rw [State.selectBothIf_parts] at hparts
  generalize ((s.clockTo due).withImages fun s => s.minuteEnds n) = t at hparts hfollow hselector ⊢
  refine ⟨hparts, hfollow, fun g hselecting hshown => ?_⟩
  rw [hselector]
  refine State.not_shown_of_emptied (s := { s.clockTo due with pages := s.pages.set n ⟨none, s.pages[n].mark⟩ }) ?_ hselecting
    hshown
  simp [State.pageAt]

/-- Settles O40. -/
theorem signTimersRunOut : Obligations.SignTimersRunOut := by
  refine ⟨fun n s c due left hreset hc hdue hleft => ⟨fun h => ?_, exec_lastMinute hreset hc hdue hleft⟩,
    fun g s due i hreset hdue hi => ?_, fun g s due i hreset hdue hi => ?_⟩
  · refine ⟨_, exec_pageMinuteTimerExpiry hreset hc hdue, ?_⟩
    rw [State.withImages_of_imageKey_eq fun g => State.minuteEnds_imageKey (s := s.clockTo due) hc hleft h g]
    exact State.minuteEnds_goesOn (s := s.clockTo due) hc hleft h
  · intro x now'
    refine ⟨fun j hj hne => ⟨_, exec_dwellTimerExpiry hreset hdue, ?_⟩, fun hrotation => ?_⟩
    · have hact := State.dwellEnds_shows (s := s.clockTo due) hi hj hne
      have hparts := State.withImages_parts (fun s => s.dwellEnds g) (s.clockTo due)
      obtain ⟨hother, hself⟩ := State.withImages_modFace hact
      beta_reduce at hparts
      rw [hact] at hparts
      exact ⟨hparts, congrArg _ hother, hself⟩
    · have hact := State.dwellEnds_settles (s := s.clockTo due) hi hrotation
      rw [exec_dwellTimerExpiry hreset hdue, State.withImages_of_imageKey_eq, hact]
      · rfl
      · intro f
        rw [hact]
        by_cases hf : f = g
        · subst hf
          simp [State.imageKey, State.selecting, State.pageAt] <;> rfl
        · simp [State.imageKey, State.selecting, State.pageAt, PerSide.get_set, hf] <;> rfl
  · refine ⟨_, exec_flashTimerExpiry hreset hdue, ?_⟩
    have hact := State.flashEnds_eq (s := s.clockTo due) hi
    have hparts := State.withImages_parts (fun s => s.flashEnds g) (s.clockTo due)
    obtain ⟨hother, hself⟩ := State.withImages_modFace hact
    have howes := State.withImages_face_of_owes (fun s => s.flashEnds g) (s.clockTo due) g
    beta_reduce at hparts howes
    rw [hact] at hparts howes
    refine ⟨hparts, hother, hself, fun hselecting => ?_⟩
    rw [howes (State.owesImage_of_flash hselecting ?_ ?_), FaceUnit.sent_parts]
    · simp [State.modFace]
    · simpa [State.selecting] using hselecting
    · simp [State.modFace]

end Sys2Proof.Machine
end

section
/-! The awaited images, the answers of the signs, and dark faces (R157 to R160). -/
namespace Sys2Proof.Machine
open Sys2Proof

/-! ### Missing images (R159, R160) -/

section
variable {u : FaceUnit}

theorem FaceUnit.countedMissing_counts (h : u.missing < 2) : u.countedMissing = { u with missing := u.missing + 1 } :=
  if_neg (by omega)

theorem FaceUnit.countedMissing_faults (h : 2 ≤ u.missing) : u.countedMissing = { u with missing := 0, faulted := true } :=
  if_pos (by omega)

theorem FaceUnit.makeRoom_counts (h : 4 ≤ u.awaited.length) (hm : u.missing < 2) :
    u.makeRoom = { u with awaited := u.awaited.drop 1, missing := u.missing + 1 } :=
  (if_pos h).trans (FaceUnit.countedMissing_counts (u := { u with awaited := u.awaited.drop 1 }) hm)

theorem FaceUnit.makeRoom_faults (h : 4 ≤ u.awaited.length) (hm : 2 ≤ u.missing) :
    u.makeRoom = { u with awaited := u.awaited.drop 1, missing := 0, faulted := true } :=
  (if_pos h).trans (FaceUnit.countedMissing_faults (u := { u with awaited := u.awaited.drop 1 }) hm)

end

section
variable {g : Face} {s : State}

theorem State.countMissing_counts (h : (s.faces.get g).missing < 2) :
    s.countMissing g =
      { s with faces := s.faces.set g { s.faces.get g with missing := (s.faces.get g).missing + 1 } } := by
  rw [State.countMissing_eq, FaceUnit.countedMissing_counts h, if_neg (by omega)]

theorem State.countMissing_faults (h : 2 ≤ (s.faces.get g).missing) :
    s.countMissing g =
      { s with
        faces := s.faces.set g { s.faces.get g with missing := 0, faulted := true }, faults := (s.latch (signFault g)).faults } := by
  rw [State.countMissing_eq, FaceUnit.countedMissing_faults h, if_pos (by omega)]

theorem State.withRoom_of_room (h : (s.faces.get g).awaited.length < 4) : s.withRoom g = s := if_neg (Nat.not_le.2 h)

theorem State.withRoom_of_full (h : 4 ≤ (s.faces.get g).awaited.length) :
    s.withRoom g = (s.modFace g fun u => { u with awaited := u.awaited.drop 1 }).countMissing g := if_pos h

theorem State.withRoom_counts (h : 4 ≤ (s.faces.get g).awaited.length) (hm : (s.faces.get g).missing < 2) :
    (s.withRoom g).faults = s.faults := by
  rw [State.withRoom_of_full h, State.countMissing_counts (by simpa [State.modFace] using hm)]
  rfl

theorem State.withRoom_faults (h : 4 ≤ (s.faces.get g).awaited.length) (hm : 2 ≤ (s.faces.get g).missing) :
    (s.withRoom g).faults = (s.latch (signFault g)).faults := by
  rw [State.withRoom_of_full h, State.countMissing_faults (by simpa [State.modFace] using hm)]
  rfl

end

/-! ### The image refresh and the answer windows -/

theorem exec_imageRefreshTimerExpiry {g : Face} {s : State} {due : Nat} (hreset : s.resetHeld = false)
    (hdue : (s.faces.get g).refreshTimer = some due) :
    exec (.imageRefreshTimerExpiry g) s =
      .next { s with
        now := max s.now due
        faces := s.faces.set g ((s.faces.get g).sent (s.imageNow g) (max s.now due))
        faults := (s.withRoom g).faults } := by
  change execImageRefreshTimerExpiry g s = _
  rw [execImageRefreshTimerExpiry, hdue, State.onTimer_running due _ s hreset, State.sendImage_eq]
  have hfaults : ((s.clockTo due).withRoom g).faults = (s.withRoom g).faults := by
    by_cases h : 4 ≤ (s.faces.get g).awaited.length
    · by_cases hm : (s.faces.get g).missing < 2
      · rw [State.withRoom_counts h hm]
        exact State.withRoom_counts (s := s.clockTo due) h hm
      · rw [State.withRoom_faults h (Nat.not_lt.1 hm)]
        exact State.withRoom_faults (s := s.clockTo due) h (Nat.not_lt.1 hm)
    · rw [State.withRoom_of_room (Nat.not_le.1 h), State.withRoom_of_room (s := s.clockTo due) (Nat.not_le.1 h)]
      rfl
  rw [hfaults]
  rfl

theorem exec_answerWindowExpiry {g : Face} {n : Byte} {s : State} {a : Awaited} {due : Nat} (hreset : s.resetHeld = false)
    (ha : ((s.faces.get g).awaited.find? fun a => a.sequence == n) = some a) (hdue : a.window = some due) :
    exec (.answerWindowExpiry g n) s =
      .next (((s.clockTo due).modFace g fun u =>
        { u with awaited := u.awaited.filter fun a => a.sequence != n }).countMissing g) := by
  change execAnswerWindowExpiry g n s = _
  simp only [execAnswerWindowExpiry, ha, hdue, State.onTimer_running due _ s hreset]

/-! ### The answers (R159, R160) -/

theorem State.unlessHeld_running {s : State} (h : s.resetHeld = false) (act : State → State) : s.unlessHeld act = act s := by
  simp [State.unlessHeld, h]

theorem awaitedAfter_split {before after : List Awaited} {a : Awaited} {n : Byte} (ha : a.sequence = n)
    (hbefore : ∀ x ∈ before, x.sequence ≠ n) : awaitedAfter n (before ++ a :: after) = after := by
  induction before with
  | nil => simp [awaitedAfter, ha]
  | cons x xs ih =>
    rw [List.forall_mem_cons] at hbefore
    simp [awaitedAfter, hbefore.1, ih hbefore.2]

section
variable {g : Face} {r : SignRecord} {s : State}

theorem exec_signAnswer_ignored (hreset : s.resetHeld = false)
    (h : r.checkGood = false ∨ r.reply = .pixelFault 0 ∨ ∀ a ∈ (s.faces.get g).awaited, a.sequence ≠ r.sequence) :
    exec (.signAnswer g r) s = .next s := by
  change execSignAnswer g r s = _
  rw [execSignAnswer, State.unlessHeld_running hreset, if_neg]
  rintro ⟨hcheck, hrange, hawaited⟩
  rcases h with h | h | h
  · simp [h] at hcheck
  · simp [h, replyInRange] at hrange
  · obtain ⟨a, ha, hsame⟩ := List.any_eq_true.1 hawaited
    exact h a ha (by simpa using hsame)

theorem exec_signAnswer_taken (hreset : s.resetHeld = false) (hcheck : r.checkGood = true) (hrange : replyInRange r.reply = true)
    {a : Awaited} (ha : a ∈ (s.faces.get g).awaited) (hsame : a.sequence = r.sequence) :
    exec (.signAnswer g r) s = .next (s.takeAnswer g r) := by
  change execSignAnswer g r s = _
  rw [execSignAnswer, State.unlessHeld_running hreset, if_pos]
  exact ⟨hcheck, hrange, List.any_eq_true.2 ⟨a, ha, by simpa using hsame⟩⟩

end

/-! ### What an image holds (R156, R158) -/

section
variable {g : Face} {s : State}

theorem State.imageNow_nothing (h : (s.faces.get g).selector.shown = none) :
    s.imageNow g =
      ⟨(s.faces.get g).sequence, s.roundel g, [], [], [], 0, .none, (s.faces.get g).selector.flashOn⟩ := by
  simp only [State.imageNow, h]

theorem State.imageNow_builtIn {w : Warning} (h : (s.faces.get g).selector.shown = some (.builtIn w)) :
    s.imageNow g =
      ⟨(s.faces.get g).sequence, s.roundel g, [], [], [], builtInPictogram w, .picto, (s.faces.get g).selector.flashOn⟩ := by
  simp only [State.imageNow, h]

theorem State.imageNow_page {n : Fin 32} {p : Page} (h : (s.faces.get g).selector.shown = some (.page n)) (hp : s.pageAt n = some p) :
    s.imageNow g =
      ⟨(s.faces.get g).sequence, s.roundel g, p.line1, p.line2, p.line3, p.pictogram, p.flash,
        (s.faces.get g).selector.flashOn⟩ := by
  simp only [State.imageNow, h, hp]

theorem State.imageNow_always (g : Face) (s : State) :
    (s.imageNow g).sequence = (s.faces.get g).sequence ∧ (s.imageNow g).roundel = s.roundel g ∧
      (s.imageNow g).phaseOn = (s.faces.get g).selector.flashOn := by
  cases h : (s.faces.get g).selector.shown with
  | none => exact State.imageNow_nothing h ▸ ⟨rfl, rfl, rfl⟩
  | some i =>
    cases i with
    | builtIn w => exact State.imageNow_builtIn h ▸ ⟨rfl, rfl, rfl⟩
    | page n =>
      cases hp : s.pageAt n with
      | none => simp [State.imageNow, h, hp]
      | some p => exact State.imageNow_page h hp ▸ ⟨rfl, rfl, rfl⟩

end

/-! ### A dark face is set lit (R157) -/

/-- The face set lit, with its selection started. -/
def State.relit (g : Face) (s : State) : State := (s.modFace g fun u => { u with dark := false }).startSelection g

section
variable {g : Face} {s : State}

theorem State.relit_parts (g : Face) (s : State) : s.relit g = { s with faces := (s.relit g).faces } := by
  unfold State.relit State.startSelection
  rw [State.select_eq]
  rfl

theorem State.relit_face_other {k : Face} (h : k ≠ g) : (s.relit g).faces.get k = s.faces.get k := by
  unfold State.relit State.startSelection
  rw [State.select_face_other h]
  simp [State.modFace, PerSide.get_set, h]

theorem State.relit_face_parts (g : Face) (s : State) :
    (s.relit g).faces.get g = { s.faces.get g with dark := false, selector := ((s.relit g).faces.get g).selector } := by
  unfold State.relit State.startSelection
  rw [State.select_face]
  split <;> simp [State.modFace]

/-- A selection from the empty selector shows the first item of the rotation, if there is one (R150, R153). -/
theorem State.selectedFrom_empty (items : List Item) (s : State) :
    (s.selectedFrom items emptySelector).shown = (s.rotationOf items).head? := by
  cases h : (s.rotationOf items).head? with
  | none => rw [State.selectedFrom_none h]
  | some first => rw [State.selectedFrom_new h rfl]; rfl

theorem State.relit_selector (hjoined : s.joined = true) (hfitted : s.config.fitted g = true) :
    ((s.relit g).faces.get g).selector = s.selectedFrom (s.candidates g) emptySelector := by
  unfold State.relit State.startSelection
  rw [State.select_face, if_pos (by simp [State.selecting, State.modFace, hjoined, hfitted])]
  simp only [State.modFace, PerSide.get_set_same, PerSide.set_set, State.selected_eq]
  rfl

theorem State.lighten_eq (g : Face) (s : State) : s.lighten g = (s.relit g).sendImage g := rfl

end

/-! ### SET_FACE_DARK (R157) -/

section
variable {args : List Word} {s : State} {g : Face} {dark : Bool} (h : s.Accepts .setFaceDark args.length)
include h

theorem exec_setFaceDark :
    exec (.setFaceDark args) s =
      .next ((setFaceDarkBody args s).2.2.answered .setFaceDark (setFaceDarkBody args s).1 (setFaceDarkBody args s).2.1) := by
  change execSetFaceDark args s = _
  rw [execSetFaceDark, h.command_eq]

theorem exec_setFaceDark_lit (hparse : parseSetDark args = some (g, false)) (hfitted : s.config.fitted g = true)
    (hdark : (s.faces.get g).dark = true) :
    exec (.setFaceDark args) s = .next ((s.lighten g).answered .setFaceDark .ok .none) := by
  rw [exec_setFaceDark h]
  simp [setFaceDarkBody, hparse, hfitted, hdark]

end

/-! ### The statement's parts -/

/-- The image refresh, by how many images are awaited and missing (R158 to R160). -/
theorem imageRefreshed (g : Face) (s : State) (due : Nat) (hreset : s.resetHeld = false)
    (hdue : (s.faces.get g).refreshTimer = some due) :
    let u := s.faces.get g
    let now' := max s.now due
    let sent (v : FaceUnit) (rest : List Awaited) : FaceUnit :=
      { v with
        image := some (s.imageNow g), sequence := u.sequence + 1
        awaited := rest ++ [⟨u.sequence, some (now' + 150)⟩], refreshTimer := some (now' + 200) }
    (u.awaited.length < 4 →
      exec (.imageRefreshTimerExpiry g) s = .next { s with now := now', faces := s.faces.set g (sent u u.awaited) }) ∧
    (4 ≤ u.awaited.length → u.missing < 2 →
      exec (.imageRefreshTimerExpiry g) s =
        .next { s with
          now := now', faces := s.faces.set g (sent { u with missing := u.missing + 1 } (u.awaited.drop 1)) }) ∧
    (4 ≤ u.awaited.length → 2 ≤ u.missing →
      exec (.imageRefreshTimerExpiry g) s =
        .next { s with
          now := now', faults := (s.latch (signFault g)).faults
          faces := s.faces.set g (sent { u with missing := 0, faulted := true } (u.awaited.drop 1)) }) := by
  intro u now' sent
  have hexec := exec_imageRefreshTimerExpiry hreset hdue
  refine ⟨fun h => ?_, fun h hm => ?_, fun h hm => ?_⟩
  · rw [hexec, State.withRoom_of_room h, FaceUnit.sent, FaceUnit.makeRoom_of_room _ h]
  · rw [hexec, State.withRoom_counts h hm, FaceUnit.sent, FaceUnit.makeRoom_counts h hm]
  · rw [hexec, State.withRoom_faults h hm, FaceUnit.sent, FaceUnit.makeRoom_faults h hm]

/-- The images of an event, face by face (R158). -/
theorem imagesOfAnEvent (act : State → State) (s : State) (g : Face) :
    let u := act s
    let t := s.withImages act
    t = { u with faces := t.faces, faults := t.faults } ∧
    (s.selecting g = false ∨ u.selecting g = false ∨ u.imageKey g = s.imageKey g → t.faces.get g = u.faces.get g) ∧
    (s.selecting g = true → u.selecting g = true → u.imageKey g ≠ s.imageKey g →
      (t.faces.get g).sequence = (u.faces.get g).sequence + 1 ∧ (t.faces.get g).image = some (u.imageNow g) ∧
        (t.faces.get g).refreshTimer = some (u.now + 200)) := by
  intro u t
  refine ⟨State.withImages_parts act s, fun h => ?_, fun hs hu hkey => ?_⟩
  · refine State.withImages_face_of_not_owes act s g fun ⟨hs, hu, hkey⟩ => ?_
    rcases h with h | h | h
    · simp [h] at hs
    · exact absurd hu (by simp [u, h])
    · exact hkey h
  · have hsent : t.faces.get g = _ := State.withImages_face_of_owes act s g ⟨hs, hu, hkey⟩
    rw [hsent, FaceUnit.sent_parts]
    exact ⟨rfl, rfl, rfl⟩

/-- A dark face set lit: its selection starts from the empty selector, and it is sent one image (R157). -/
theorem faceSetLit {args : List Word} {s : State} {g : Face} (h : s.Accepts .setFaceDark args.length)
    (hparse : parseSetDark args = some (g, false)) (hfitted : s.config.fitted g = true) (hdark : (s.faces.get g).dark = true) :
    let u := s.faces.get g
    ∃ t, exec (.setFaceDark args) s = .next t ∧
      t = { s with faces := t.faces, faults := t.faults, response := ⟨.ok, .setFaceDark, .none⟩ } ∧
      t.faces.get g.other = s.faces.get g.other ∧
      (t.faces.get g).dark = false ∧ (t.faces.get g).sequence = u.sequence + 1 ∧
      (t.faces.get g).refreshTimer = some (s.now + 200) ∧ (t.faces.get g).lastAnswer = u.lastAnswer ∧
      (t.faces.get g).selector.rotation = s.rotationOf (s.candidates g) ∧
      (t.faces.get g).selector.shown = (s.rotationOf (s.candidates g)).head? ∧
      (t.faces.get g).image = some (({ t with
        faces := t.faces.set g { t.faces.get g with sequence := u.sequence } } : State).imageNow g) := by
  have hjoined : s.joined = true := by
    obtain ⟨-, hjoined, -⟩ := h
    simpa [Command.acceptedIn] using hjoined
  refine ⟨_, exec_setFaceDark_lit h hparse hfitted hdark, ?_⟩
  have hsent := (s.relit g).sendImage_eq g
  have hother := State.relit_face_other (s := s) (Side.other_ne g)
  have hface := s.relit_face_parts g
  have hselector := State.relit_selector hjoined hfitted
  have hparts := s.relit_parts g
  rw [State.lighten_eq]
  generalize ((s.relit g).faces.get g).selector = x at hface hselector
  generalize s.relit g = v at hsent hother hface hselector hparts ⊢
  have hset : (v.sendImage g).faces.get g = (v.faces.get g).sent (v.imageNow g) v.now := State.sendImage_face g v
  have hkept : (v.sendImage g).faces.get g.other = v.faces.get g.other := State.sendImage_face_other (Side.other_ne g) v
  rw [FaceUnit.sent_parts] at hset
  have himage : v.imageNow g = State.imageNow g
      { (v.sendImage g).answered .setFaceDark .ok .none with
        faces := (v.sendImage g).faces.set g { (v.sendImage g).faces.get g with sequence := (s.faces.get g).sequence } } := by
    refine State.imageNow_congr g ?_ ?_ ?_ ?_ ?_
    · simp [hset]
    · simp [hface]
    all_goals rw [hsent]; rfl
  have hnow : v.now = s.now := by rw [hparts]
  rw [hface, hnow] at hset
  generalize v.sendImage g = w at hsent hset hkept himage ⊢
  refine ⟨?_, hkept.trans hother, ?_⟩
  · rw [hsent, hparts]
    rfl
  · obtain ⟨hrotation, -⟩ := State.selectedFrom_rotation (s.candidates g) s emptySelector
    have hshown := State.selectedFrom_empty (s.candidates g) s
    rw [← hselector] at hrotation hshown
    exact ⟨congrArg FaceUnit.dark hset, congrArg FaceUnit.sequence hset, congrArg FaceUnit.refreshTimer hset,
      (congrArg FaceUnit.lastAnswer hset).trans rfl, (congrArg (·.selector.rotation) hset).trans hrotation,
      (congrArg (·.selector.shown) hset).trans hshown, (congrArg FaceUnit.image hset).trans (congrArg some himage)⟩

/-- Settles O41. -/
theorem imagesAwaitTheirAnswers : Obligations.ImagesAwaitTheirAnswers := by
  refine ⟨?_, fun args s h => ?_⟩
  · intro fault latched
    have hlatched (g : Face) (s : State) : latched g s = (s.latch (signFault g)).faults := by cases g <;> rfl
    clear_value latched
    obtain rfl : latched = fun g s => (s.latch (signFault g)).faults := funext fun g => funext (hlatched g)
    refine ⟨imageRefreshed, fun g n s a due hreset ha hdue => ?_, fun g r s hreset => ⟨exec_signAnswer_ignored hreset, ?_⟩,
      imagesOfAnEvent, fun g s => ?_⟩
    · intro u
      have hu : ((s.clockTo due).modFace g fun u => { u with awaited := u.awaited.filter fun a => a.sequence != n }).faces.get g
          = u := PerSide.get_set_same ..
      rw [exec_answerWindowExpiry hreset ha hdue]
      refine ⟨fun hm => ?_, fun hm => ?_⟩
      · rw [State.countMissing_counts (by rw [hu]; exact hm), hu]
        simp only [State.modFace, PerSide.set_set]
        rfl
      · rw [State.countMissing_faults (by rw [hu]; exact hm), hu]
        simp only [State.modFace, PerSide.set_set]
        rfl
    · intro before after a hcheck hlist hsame hbefore u
      have hmem : a ∈ (s.faces.get g).awaited := by simp [hlist]
      have hafter : awaitedAfter r.sequence (s.faces.get g).awaited = after := by rw [hlist, awaitedAfter_split hsame hbefore]
      have hexec (hrange : replyInRange r.reply = true) := exec_signAnswer_taken hreset hcheck hrange hmem hsame
      refine ⟨fun hr => ?_, fun k hr hlow hhigh => ?_, fun hr => ?_⟩
      · rw [hexec (by simp [hr, replyInRange])]
        simp only [State.takeAnswer, State.modFace, hafter, u, hr, reduceCtorEq, if_false] <;> rfl
      · rw [hexec (by simp [hr, replyInRange, hlow, hhigh])]
        simp only [State.takeAnswer, State.modFace, hafter, u, hr, reduceCtorEq, if_false] <;> rfl
      · rw [hexec (by simp [hr, replyInRange])]
        simp only [State.takeAnswer, State.modFace, hafter, u, hr, if_true] <;> rfl
    · obtain ⟨hsequence, hroundel, hphase⟩ := State.imageNow_always g s
      refine ⟨hsequence, hroundel, hphase, fun h => ?_, fun w h => ?_, fun n p h hp => ?_⟩
      · exact State.imageNow_nothing h ▸ ⟨rfl, rfl, rfl, rfl, rfl⟩
      · exact State.imageNow_builtIn h ▸ ⟨rfl, rfl, rfl⟩
      · exact State.imageNow_page h hp ▸ ⟨rfl, rfl, rfl, rfl, rfl⟩
  · have hexec := exec_setFaceDark h
    refine ⟨fun hparse => ?_, fun g dark hparse => ?_⟩
    · rw [hexec]
      simp only [setFaceDarkBody, hparse]
      rfl
    · intro u
      refine ⟨fun hfitted => ?_, fun hfitted hdark => ?_, fun hfitted hlit hdark => ?_, fun hfitted hlit hdark => ?_⟩
      · rw [hexec]
        simp only [setFaceDarkBody, hparse, if_pos hfitted]
        rfl
      · rw [hexec]
        simp only [setFaceDarkBody, hparse, hfitted, show (s.faces.get g).dark = dark from hdark, Bool.true_eq_false, if_true, if_false]
        rfl
      · subst hdark
        rw [hexec]
        simp only [setFaceDarkBody, hparse, hfitted, show (s.faces.get g).dark = false from hlit, Bool.true_eq_false,
          Bool.false_eq_true, if_true, if_false]
        rfl
      · subst hdark
        exact faceSetLit h hparse hfitted hlit

end Sys2Proof.Machine
end

section
/-! Pages, withdrawals and PAGE frames: judged against the version mark, stored, selected and sent (R145 to R150). -/
namespace Sys2Proof.Machine
open Sys2Proof

/-! ### The judgement of a notice (R145) -/

section
variable (n : Fin 32) (v : Byte) (scope : Scope) (content : Option StoredPage) (s : State)

/-- The pages after a notice of this content was judged. -/
def State.pagesJudged : Vector Slot 32 :=
  if s.pages[n].mark.all fun m => newer v m then
    s.pages.set n
      ⟨if s.number &&& scope.mask = scope.matchBits &&& scope.mask then content else s.pages[n].content, some v⟩
  else s.pages

/-- What became of the notice at this station. -/
def State.pageOutcome : PublishOutcome :=
  if s.pages[n].mark.all fun m => newer v m then
    if s.number &&& scope.mask = scope.matchBits &&& scope.mask then .stored else .outsideScope
  else .notNewer

/-- The notice changes the slot's content, which is a selection event. -/
def State.pageSelects : Bool := s.pageOutcome n v scope == .stored && (s.pages[n].content.isSome || content.isSome)

end

/-- The slot content that a page leaves. -/
def State.storedPage (page : Page) (publisher : Nat) (s : State) : StoredPage :=
  ⟨page, publisher, page.validity, page.validity.map fun _ => s.now + 60000⟩

theorem State.contentOf_publish (origin : Nat) (page : Page) (s : State) :
    s.contentOf origin (.publish page) = some (s.storedPage page origin) := by
  simp only [State.contentOf, State.storedPage]
  cases page.validity <;> rfl

theorem State.applyPage_of_newer (origin : Nat) (notice : PageNotice) (s : State) :
    s.applyPage origin notice =
      if s.pages[notice.head.1].mark.all fun m => newer notice.head.2.1 m then
        if notice.head.2.2.takesIn s.number then
          let t := s.modSlot notice.head.1 fun _ => { content := s.contentOf origin notice, mark := some notice.head.2.1 }
          (.stored,
            if s.pages[notice.head.1].content.isNone && (s.contentOf origin notice).isNone then t else t.selectBoth)
        else (.outsideScope, s.modSlot notice.head.1 fun x => { x with mark := some notice.head.2.1 })
      else (.notNewer, s) := by
  unfold State.applyPage
  cases hmark : s.pages[notice.head.1].mark with
  | none => simp only [hmark, Option.all_none] <;> rfl
  | some m => simp only [hmark, Option.all_some] <;> rfl

section
variable {notice : PageNotice} {n : Fin 32} {v : Byte} {scope : Scope} {origin : Nat} {content : Option StoredPage} {s : State}
  (hhead : notice.head = (n, v, scope)) (hcontent : s.contentOf origin notice = content)
include hhead hcontent

theorem State.applyPage_eq :
    s.applyPage origin notice =
      (s.pageOutcome n v scope,
        ({ s with pages := s.pagesJudged n v scope content } : State).selectBothIf (s.pageSelects n v scope content)) := by
  obtain rfl : notice.head.1 = n := congrArg Prod.fst hhead
  obtain rfl : notice.head.2.1 = v := congrArg (·.2.1) hhead
  obtain rfl : notice.head.2.2 = scope := congrArg (·.2.2) hhead
  rw [State.applyPage_of_newer, State.pageSelects, hcontent]
  simp only
  by_cases hnew : (s.pages[notice.head.1].mark.all fun m => newer notice.head.2.1 m) = true
  · rw [if_pos hnew]
    by_cases hscope : s.number &&& notice.head.2.2.mask = notice.head.2.2.matchBits &&& notice.head.2.2.mask
    · rw [if_pos (by simpa [Scope.takesIn] using hscope), State.pageOutcome, State.pagesJudged, if_pos hnew, if_pos hscope,
        if_pos hnew, if_pos hscope]
      cases (s.pages[notice.head.1]).content <;> cases content <;> rfl
    · rw [if_neg (by simpa [Scope.takesIn] using hscope), State.pageOutcome, State.pagesJudged, if_pos hnew, if_neg hscope,
        if_pos hnew, if_neg hscope]
      rfl
  · rw [if_neg hnew, State.pageOutcome, State.pagesJudged, if_neg hnew, if_neg hnew]
    rfl

end

/-! ### A page given here (R146 to R148) -/

section
variable {notice : PageNotice} {n : Fin 32} {v : Byte} {scope : Scope} {content : Option StoredPage} {s : State}
  (hhead : notice.head = (n, v, scope)) (hcontent : s.contentOf s.number notice = content)
include hhead hcontent

/-- What a notice given here makes of the state, with its PAGE frame offered. -/
theorem State.applyPage_sent :
    let w := (s.applyPage s.number notice).2.sendOneOff .plain (s.pageFrame notice)
    w = { s with
          pages := s.pagesJudged n v scope content
          faces := (({ s with pages := s.pagesJudged n v scope content } : State).selectBothIf
            (s.pageSelects n v scope content)).faces
          ports := w.ports, deferred := w.deferred, toll := w.toll } ∧
      s.Offered (some .plain) (s.pageFrame notice) w := by
  intro w
  have hframe : classOf (s.pageFrame notice).kind ≠ .voice := State.newFrame_not_voice (k := .page) (by decide) _ _ _ _
  have hw : w = State.sendOneOff .plain (s.pageFrame notice) _ :=
    congrArg (State.sendOneOff .plain (s.pageFrame notice)) (congrArg Prod.snd (State.applyPage_eq hhead hcontent))
  clear_value w
  generalize s.pagesJudged n v scope content = pages at hw ⊢
  generalize s.pageSelects n v scope content = on at hw ⊢
  have hselected := State.selectBothIf_parts on { s with pages := pages }
  generalize (({ s with pages := pages } : State).selectBothIf on) = u at hselected hw ⊢
  have hsent := (State.sendOneOff_sends .plain (s.pageFrame notice) u).parts
  have hsend := State.sendOneOff_offered (tag := .plain) (s := u) hframe
  dsimp only at hw
  rw [← hw] at hsend hsent
  generalize u.faces = faces at hselected
  subst hselected
  exact ⟨hsent, hsend⟩

/-- A command that judges a notice at this station and offers its PAGE frame. -/
theorem pageCommand {c : Command} {args : List Word} {body : State → ResponseCode × Answer × State} {code : ResponseCode}
    {a : Answer} (h : s.Accepts c args.length)
    (hbody : body s = (code, a, (s.applyPage s.number notice).2.sendOneOff .plain (s.pageFrame notice))) :
    let t := s.withImages fun s => s.command c args body
    t = { s with
          pages := s.pagesJudged n v scope content
          faces := t.faces, faults := t.faults, ports := t.ports, deferred := t.deferred, toll := t.toll
          response := ⟨code, c, a⟩ } ∧
      s.FacesFollowPages (s.pageSelects n v scope content) t ∧ s.Offered (some .plain) (s.pageFrame notice) t := by
  intro t
  have hact : s.command c args body =
      State.answered c code a ((s.applyPage s.number notice).2.sendOneOff .plain (s.pageFrame notice)) := by
    rw [h.command_eq, hbody]
  obtain ⟨hparts, hoffered⟩ := State.applyPage_sent hhead hcontent
  have himages : t = _ := State.withImages_parts (fun s => s.command c args body) s
  have hfollow : s.FacesFollowPages (s.pageSelects n v scope content) t := by
    refine State.facesFollowPages_withImages ?_ ?_ ?_
    all_goals rw [hact, hparts]; rfl
  beta_reduce at himages
  generalize s.pagesJudged n v scope content = pages at hparts ⊢
  generalize s.pageSelects n v scope content = on at hparts hfollow ⊢
  generalize (s.applyPage s.number notice).2.sendOneOff .plain (s.pageFrame notice) = w at hact hparts hoffered
  generalize s.command c args body = z at himages hact
  generalize (({ s with pages := pages } : State).selectBothIf on).faces = faces at hparts
  subst hact
  refine ⟨?_, hfollow, ?_⟩
  · rw [himages, hparts]
    rfl
  · rw [himages]
    exact hoffered

end

/-! ### The adjustments of a page (R146) -/

theorem inSignSet_iff (c : Byte) : inSignSet c = true ↔ 32 ≤ c.toNat ∧ c.toNat ≤ 95 := by simp [inSignSet]

theorem signLine_eq (l : List Byte) :
    signLine l = (l.take 18).map fun c => if 32 ≤ c.toNat ∧ c.toNat ≤ 95 then c else 32 := by
  simp only [signLine, inSignSet_iff]

theorem signLine_eq_self_iff (l : List Byte) : signLine l = l ↔ l.length ≤ 18 ∧ ∀ c ∈ l, 32 ≤ c.toNat ∧ c.toNat ≤ 95 := by
  constructor
  · intro h
    refine ⟨?_, fun c hc => ?_⟩
    · rw [← h, signLine, List.length_map, List.length_take]
      exact Nat.min_le_left ..
    · rw [← h, signLine_eq, List.mem_map] at hc
      obtain ⟨x, -, rfl⟩ := hc
      split
      · assumption
      · decide
  · rintro ⟨hlength, hset⟩
    rw [signLine_eq, List.take_of_length_le hlength]
    exact (List.map_congr_left fun c hc => if_pos (hset c hc)).trans (List.map_id l)

/-- Nothing of the page given is adjusted. -/
theorem PublishArgs.adjusted_eq_false_iff (a : PublishArgs) :
    a.adjusted = false ↔ a.priority ≤ 7 ∧ a.validity ≤ 1440 ∧
      ∀ l ∈ [a.line1, a.line2, a.line3], l.length ≤ 18 ∧ ∀ c ∈ l, 32 ≤ c.toNat ∧ c.toNat ≤ 95 := by
  simp only [PublishArgs.adjusted, Bool.or_eq_false_iff, decide_eq_false_iff_not, Nat.not_lt, bne_eq_false_iff_eq,
    signLine_eq_self_iff, List.forall_mem_cons, List.not_mem_nil, false_imp_iff, implies_true, and_true, and_assoc]

/-! ### The statement's parts -/

theorem exec_publishPage {args : List Word} {s : State} :
    exec (.publishPage args) s = .next (s.withImages fun s => s.command .publishPage args (publishBody args)) := rfl

theorem exec_withdrawPage {args : List Word} {s : State} :
    exec (.withdrawPage args) s = .next (s.withImages fun s => s.command .withdrawPage args (withdrawBody args)) := rfl

/-- A command that is refused, images or not. -/
theorem withImages_refused {c : Command} {args : List Word} {body : State → ResponseCode × Answer × State} {s : State}
    (h : s.Accepts c args.length) (hbody : body s = (.badArgument, .none, s)) :
    (s.withImages fun s => s.command c args body) = { s with response := ⟨.badArgument, c, .none⟩ } := by
  have hact : (s.command c args body) = s.answered c .badArgument .none := by rw [h.command_eq, hbody]
  rw [State.withImages_of_answered (act := fun s => s.command c args body) hact]
  rfl

/-- A PAGE frame is judged as its notice (R145). -/
theorem pageFrameTaken {p : Side} {bytes : List Byte} {f : Frame} {s : State} {notice : PageNotice} {n : Fin 32} {v : Byte}
    {scope : Scope} {content : Option StoredPage} (h : s.Arrives p bytes f) (hj : s.joined = true)
    (ht : f.TakenBy .page true s.number) (hp : parsePage f.payload = some notice) (hhead : notice.head = (n, v, scope))
    (hcontent : s.contentOf f.origin notice = content) :
    ∃ t, exec (.lineFrameArrives p bytes) s = .next t ∧
      t = { s.reached p f with
            pages := s.pagesJudged n v scope content, faces := t.faces, faults := t.faults } ∧
      s.FacesFollowPages (s.pageSelects n v scope content) t := by
  have hhanded : (s.reached p f).handTo .page p f.counted = ((s.reached p f).applyPage f.origin notice).2 := by
    simp only [State.handTo, Frame.counted, hp, State.taking]
  refine ⟨_, h.exec_eq ht.1 (by decide) (State.reached_takesKind (by simp) hj ht), ?_⟩
  obtain ⟨ports, map, deferred, toll, faults, lineFlag, hreached⟩ := s.reached_eq p f
  rw [hhanded]
  generalize s.reached p f = u at hreached
  have hpages : u.pagesJudged n v scope content = s.pagesJudged n v scope content := by rw [hreached]; rfl
  have hon : u.pageSelects n v scope content = s.pageSelects n v scope content := by rw [hreached]; rfl
  have hcontent' : u.contentOf f.origin notice = content := by rw [← hcontent, hreached]; rfl
  rw [State.applyPage_eq hhead hcontent', hpages, hon]
  generalize s.pagesJudged n v scope content = pages
  generalize s.pageSelects n v scope content = on
  have hselected := State.selectBothIf_parts on { u with pages := pages }
  refine ⟨?_, State.facesFollowPages_withImages ?_ ?_ ?_⟩
  · have himages := State.withImages_parts (fun _ => ({ u with pages := pages } : State).selectBothIf on) s
    generalize (s.withImages fun _ => ({ u with pages := pages } : State).selectBothIf on) = t at himages ⊢
    rw [himages, hselected]
  · have hsame (g : Face) : State.SameSign g { u with pages := pages } { s with pages := pages } := by
      rw [hreached]
      exact ⟨rfl, rfl, rfl, rfl, rfl⟩
    have hnow : (({ u with pages := pages } : State).selectBothIf on).now = s.now := by rw [hselected, hreached]
    have hpages : (({ u with pages := pages } : State).selectBothIf on).pages = pages := by rw [hselected]
    rw [State.selectBothIf_faces_congr hsame (by rw [hreached]), hnow, hpages]
  · rw [hselected, hreached]
  · rw [hselected, hreached]

/-- Settles O39. -/
theorem pagesAreJudgedStoredAndSent : Obligations.PagesAreJudgedStoredAndSent := by
  refine ⟨fun args s h => ⟨fun hparse => ?_, fun a hparse => ?_⟩, fun args s h => ⟨fun hparse => ?_, fun n scope hparse => ?_⟩,
    fun p bytes f s h hj ht => ⟨fun page hp => ?_, fun n v scope hp => pageFrameTaken h hj ht hp rfl rfl⟩⟩
  · exact congrArg Host.Outcome.next (withImages_refused h (by simp only [publishBody, hparse]))
  · intro v inSet line page
    have hpage : a.page v = page := by simp only [PublishArgs.page, signLine_eq, page, line]
    have hv : a.version.getD (s.pages[a.number]).autoVersion = v := by
      simp only [v, Slot.autoVersion]
      cases s.pages[a.number].mark <;> rfl
    have hbody : publishBody args s =
        (if a.adjusted then .okAdjusted else .ok, .published v (s.pageOutcome a.number v a.scope),
          (s.applyPage s.number (.publish page)).2.sendOneOff .plain (s.pageFrame (.publish page))) := by
      have houtcome := congrArg Prod.fst
        (State.applyPage_eq (n := a.number) (v := v) (scope := a.scope) (notice := .publish page) rfl
          (s.contentOf_publish s.number page))
      simp only [publishBody, hparse, hv, hpage]
      exact congrArg (fun o => (_, Answer.published v o, _)) houtcome
    obtain ⟨hparts, hfollow, hoffered⟩ := pageCommand (n := a.number) (v := v) (scope := a.scope) rfl
      (s.contentOf_publish s.number page) h hbody
    refine ⟨_, exec_publishPage, ?_⟩
    generalize (s.withImages fun s => s.command .publishPage args (publishBody args)) = t at hparts hfollow hoffered ⊢
    have hcode : t.response.code = if a.adjusted then .okAdjusted else .ok := by rw [hparts]
    refine ⟨?_, fun hadjusted => ?_, fun hpriority hvalidity hlines => ?_, hfollow, hoffered⟩
    · rw [hcode]
      exact hparts
    · have : ¬a.adjusted = false := by
        rw [PublishArgs.adjusted_eq_false_iff]
        rintro ⟨hpriority, hvalidity, hlines⟩
        rcases hadjusted with h | h | ⟨l, hl, h⟩
        · omega
        · omega
        · obtain ⟨hlength, hset⟩ := hlines l hl
          rcases h with h | ⟨c, hc, h⟩
          · omega
          · exact h (hset c hc)
      rw [hcode, if_pos (by simpa using this)]
    · have hkept (l : List Byte) (hl : l ∈ [a.line1, a.line2, a.line3]) : line l = l :=
        (signLine_eq l).symm.trans ((signLine_eq_self_iff l).2 (hlines l hl))
      rw [hcode, if_neg (by simp [(PublishArgs.adjusted_eq_false_iff a).2 ⟨hpriority, hvalidity, hlines⟩])]
      exact ⟨rfl, hkept _ (by simp), hkept _ (by simp), hkept _ (by simp)⟩
  · exact congrArg Host.Outcome.next (withImages_refused h (by simp only [withdrawBody, hparse]))
  · intro v
    have hv : (s.pages[n]).autoVersion = v := by
      simp only [v, Slot.autoVersion]
      cases s.pages[n].mark <;> rfl
    have hbody : withdrawBody args s =
        (.ok, .withdrawn v, (s.applyPage s.number (.withdraw n v scope)).2.sendOneOff .plain (s.pageFrame (.withdraw n v scope))) := by
      simp only [withdrawBody, hparse, hv]
    exact ⟨_, exec_withdrawPage, pageCommand (n := n) (v := v) (scope := scope) rfl rfl h hbody⟩
  · exact pageFrameTaken h hj ht hp rfl (s.contentOf_publish f.origin page)

end Sys2Proof.Machine
end

section
/-! Own-sink delivery, said once (R176, R191), and SUBMIT_TOLL (R165, R166, R172, R185). -/
namespace Sys2Proof.Machine
open Sys2Proof

/-! ### Own-sink delivery (R176) -/

/-- What a toll sink delivers of these entries. -/
def State.ownDeliveries (es : List TollEntry) (s : State) : List Delivery := es.map fun e => ⟨s.number, e.sequence, e.content⟩

section
variable {e : TollEntry} {rest : List TollEntry} {s : State}

theorem State.deliverOwn_plain (h : e.content.isReport = false ∨ s.counts.held = none) :
    s.deliverOwn e rest =
      { s with toll := { s.toll with store := rest, delivery := s.toll.delivery ++ s.ownDeliveries [e] } } := by
  rw [State.deliverOwn]
  obtain h | h := h
  · simp only [h, Bool.false_eq_true, if_false]
    rfl
  · split
    · simp only [State.reportRemoved, State.modToll, h]
      rfl
    · rfl

theorem State.deliverOwn_report {r : Report} (h : e.content.isReport = true) (hheld : s.counts.held = some r) :
    s.deliverOwn e rest =
      { s with
        counts := { s.counts with held := none }
        toll := { s.toll with
          store := rest ++ [⟨s.toll.counter, false, 0, .report r⟩], counter := s.toll.counter + 1
          delivery := s.toll.delivery ++ s.ownDeliveries [e] } } := by
  simp only [State.deliverOwn, h, if_true, State.reportRemoved, State.modToll, hheld]
  rfl

theorem State.ownDelivered_nothing (h : s.toll.store = [] ∨ 64 ≤ s.toll.delivery.length) : s.OwnDelivered s := by
  have htake : s.toll.store.take (64 - s.toll.delivery.length) = [] := by
    obtain h | h := h
    · rw [h, List.take_nil]
    · rw [Nat.sub_eq_zero_of_le h, List.take_zero]
  have hdrop : s.toll.store.drop (64 - s.toll.delivery.length) = s.toll.store := by
    obtain h | h := h
    · rw [h, List.drop_nil]
    · rw [Nat.sub_eq_zero_of_le h, List.drop_zero]
  refine ⟨fun _ => ?_, fun r _ hreport => ?_⟩
  · simp only [htake, hdrop, List.map_nil, List.append_nil]
  · simp only [htake, List.not_mem_nil, false_and, exists_false] at hreport

/-- One delivery, and then the others. -/
theorem State.OwnDelivered.of_deliverOwn {t : State} (hstore : s.toll.store = e :: rest) (hroom : s.toll.delivery.length < 64)
    (h : (s.deliverOwn e rest).OwnDelivered t) : s.OwnDelivered t := by
  obtain ⟨k, hk⟩ : ∃ k, 64 - s.toll.delivery.length = k + 1 := ⟨63 - s.toll.delivery.length, by omega⟩
  have hrest : 64 - (s.toll.delivery ++ s.ownDeliveries [e]).length = k := by
    simp only [State.ownDeliveries, List.length_append, List.map_cons, List.map_nil, List.length_singleton]
    omega
  obtain ⟨hplain, hreported⟩ := h
  by_cases hcase : e.content.isReport = false ∨ s.counts.held = none
  · rw [State.deliverOwn_plain hcase] at hplain hreported
    simp only [hrest] at hplain hreported
    refine ⟨fun hnone => ?_, fun r hheld hmem => ?_⟩
    · rw [hk, hstore, List.take_succ_cons] at hnone
      rw [hplain (hnone.imp_right fun hall x hx => hall x (List.mem_cons_of_mem _ hx)), hk, hstore]
      simp [State.ownDeliveries]
    · have he : e.content.isReport = false := hcase.resolve_right (by simp [hheld])
      rw [hk, hstore, List.take_succ_cons] at hmem
      obtain ⟨x, hx, hreport⟩ := hmem
      have hx' : x ∈ rest.take k := (List.mem_cons.1 hx).resolve_left fun hxe => by
        rw [hxe, he] at hreport
        cases hreport
      rw [hreported r hheld ⟨x, hx', hreport⟩, hk, hstore]
      simp [State.ownDeliveries]
  · obtain ⟨he, hheld⟩ := not_or.1 hcase
    obtain ⟨r, hr⟩ := Option.ne_none_iff_exists'.1 hheld
    have he : e.content.isReport = true := by simpa using he
    rw [State.deliverOwn_report he hr] at hplain
    simp only [hrest] at hplain
    rw [hplain (by simp)]
    refine ⟨fun hnone => ?_, fun r' hr' _ => ?_⟩
    · rw [hk, hstore, List.take_succ_cons] at hnone
      obtain hnone | hall := hnone
      · exact absurd hnone hheld
      · exact absurd (hall e List.mem_cons_self) (by simp [he])
    · obtain rfl : r = r' := Option.some.inj (hr.symm.trans hr')
      rw [hk, hstore]
      simp [State.ownDeliveries]

theorem ownDeliveryGo_delivered (n : Nat) (s : State) (h : 64 - s.toll.delivery.length ≤ n) : s.OwnDelivered (ownDeliveryGo n s) := by
  induction n generalizing s with
  | zero => exact State.ownDelivered_nothing (.inr (by omega))
  | succ n ih =>
    rw [ownDeliveryGo]
    split
    next hstore => exact State.ownDelivered_nothing (.inl hstore)
    next e rest hstore =>
      split
      next hroom =>
        refine State.OwnDelivered.of_deliverOwn hstore hroom (ih _ ?_)
        have hlength : (s.deliverOwn e rest).toll.delivery.length = s.toll.delivery.length + 1 := by
          by_cases hcase : e.content.isReport = false ∨ s.counts.held = none
          · simp [State.deliverOwn_plain hcase, State.ownDeliveries]
          · obtain ⟨he, hheld⟩ := not_or.1 hcase
            obtain ⟨r, hr⟩ := Option.ne_none_iff_exists'.1 hheld
            simp [State.deliverOwn_report (by simpa using he) hr, State.ownDeliveries]
        omega
      next hroom => exact State.ownDelivered_nothing (.inr (Nat.not_lt.1 hroom))

end

theorem State.ownDelivery_delivered (s : State) : s.OwnDelivered s.ownDelivery := ownDeliveryGo_delivered 64 s (Nat.sub_le ..)

theorem State.afterEntry_elsewhere {s : State} (h : s.config.sink = false) : s.afterEntry = s.tollTry := by
  rw [State.afterEntry, if_neg (by simp [h])]

/-- What follows an admission does what the statements say of it. -/
theorem State.afterEntry_follows (s : State) :
    (s.config.sink = false → s.TollTried s.afterEntry) ∧ (s.config.sink = true → s.OwnDelivered s.afterEntry) := by
  refine ⟨fun h => ?_, fun h => ?_⟩
  · rw [State.afterEntry_elsewhere h]
    exact s.tollTry_tried
  · rw [State.afterEntry, if_pos h]
    exact s.ownDelivery_delivered

/-! ### A record enters the store (R166, R185) -/

section
variable (r : TollRecord) (s : State)

/-- The state in which the record has been admitted and counted. -/
def State.withRecord : State := (s.enterToll (.record r)).countRecord s.toll.counter r

/-- The counters after the record. -/
def State.countedRecord : Counts :=
  { s.counts with
    lanes := s.counts.lanes.set r.lane (s.counts.lanes[r.lane].add r.vehicleClass r.amount)
    lastRecord := some s.toll.counter }

theorem State.withRecord_eq :
    s.withRecord r =
      { s with
        counts := s.countedRecord r
        toll := { s.toll with
          store := s.toll.store ++ [⟨s.toll.counter, false, 0, .record r⟩], counter := s.toll.counter + 1 } } := rfl

theorem Toll.records_append (t : Toll) (e : TollEntry) (he : e.content.isReport = false) :
    ((t.store ++ [e]).filter fun e => !e.content.isReport).length = t.records + 1 := by
  simp [Toll.records, he]

theorem State.withRecord_records : (s.withRecord r).toll.records = s.toll.records + 1 :=
  s.toll.records_append ⟨s.toll.counter, false, 0, .record r⟩ rfl

end

section
variable {args : List Word} {s : State} {r : TollRecord} (h : s.Accepts .submitToll args.length)
include h

theorem exec_submitToll :
    exec (.submitToll args) s =
      .next ((submitTollBody args s).2.2.answered .submitToll (submitTollBody args s).1 (submitTollBody args s).2.1) := by
  change execSubmitToll args s = _
  rw [execSubmitToll, h.command_eq]

variable (hparse : parseSubmitToll args = some r)
include hparse

theorem exec_submitToll_full (hfull : 256 ≤ s.toll.records) :
    exec (.submitToll args) s = .next { s with response := ⟨.storeFull, .submitToll, .none⟩ } := by
  rw [exec_submitToll h]
  simp only [submitTollBody, hparse, if_pos hfull]
  rfl

/-- A record that the store admits. -/
theorem exec_submitToll_admitted (hroom : s.toll.records < 256) :
    let v := (s.withRecord r).afterEntry
    exec (.submitToll args) s =
      .next { v with
        response :=
          ⟨.ok, .submitToll,
            .submittedToll s.toll.counter v.toll.records
              (if s.config.sink then some (v.toll.store.all fun e => e.sequence != s.toll.counter) else none)⟩ } := by
  intro v
  rw [exec_submitToll h]
  simp only [submitTollBody, hparse, if_neg (Nat.not_le.2 hroom)]
  rfl

end

/-! ### A record sent at once (R172) -/

/-- The toll unit in which no entry waits tries nothing. -/
theorem State.tollTry_stops {s : State}
    (h : (∀ d sink, s.toll.sink ≠ .via d sink) ∨ s.toll.oldestQueued = none ∨ 8 ≤ s.toll.sentCount) : s.tollTry = s := by
  simp only [State.tollTry, State.tollTryTakes, tollTryGo_stops h, State.settle_nil]

section
variable {s : State} {r : TollRecord} {d : Side} {sink : Nat}

theorem State.withRecord_base (r : TollRecord) (s : State) :
    (s.withRecord r).toll.base.getD s.toll.counter = s.toll.base.getD s.toll.counter := by
  rw [State.withRecord_eq]
  simp only [Toll.base]
  cases s.toll.store <;> rfl

theorem State.withRecord_sentCount (r : TollRecord) (s : State) : (s.withRecord r).toll.sentCount = s.toll.sentCount := by
  rw [State.withRecord_eq]
  simp [Toll.sentCount]

theorem State.withRecord_tollFrame (r : TollRecord) (s : State) (sink : Nat) :
    State.tollFrame sink ⟨s.toll.counter, false, 0, .record r⟩ (s.withRecord r) =
      s.newFrame .toll sink 63
        (wordBytes s.toll.counter ++ wordBytes (s.toll.base.getD s.toll.counter) ++ [bitByte s.toll.fresh, 0] ++ r.bytes) := by
  have hpayload : TollFrame.payload ⟨s.toll.counter, (s.withRecord r).toll.base.getD s.toll.counter, s.toll.fresh, .record r⟩ =
      wordBytes s.toll.counter ++ wordBytes (s.toll.base.getD s.toll.counter) ++ [bitByte s.toll.fresh, 0] ++ r.bytes := by
    rw [State.withRecord_base]
    simp [TollFrame.payload]
  exact congrArg (s.newFrame .toll sink 63) hpayload

/-- Behind SENT entries the new one is the oldest QUEUED, and sending it leaves none QUEUED. -/
theorem State.withRecord_oldestQueued (hsent : ∀ x ∈ s.toll.store, x.sent = true ∧ x.sequence ≠ s.toll.counter) :
    (s.withRecord r).toll.oldestQueued = some ⟨s.toll.counter, false, 0, .record r⟩ ∧
      ((s.withRecord r).toll.modEntry s.toll.counter TollEntry.nowSent).store =
        s.toll.store ++ [⟨s.toll.counter, true, 1, .record r⟩] := by
  rw [State.withRecord_eq]
  have hnone : s.toll.store.find? (fun e => !e.sent) = none := List.find?_eq_none.2 fun x hx => by simp [(hsent x hx).1]
  have hkept : (s.toll.store.map fun e => if e.sequence = s.toll.counter then e.nowSent else e) = s.toll.store :=
    (List.map_congr_left fun x hx => if_neg (hsent x hx).2).trans (List.map_id _)
  refine ⟨?_, ?_⟩
  · simp only [Toll.oldestQueued, List.find?_append, hnone, Option.none_or]
    rfl
  · simp only [Toll.modEntry, List.map_append, hkept, List.map_cons, List.map_nil, if_true]
    rfl

theorem State.withRecord_sends (hsink : s.toll.sink = .via d sink)
    (hsent : ∀ x ∈ s.toll.store, x.sent = true ∧ x.sequence ≠ s.toll.counter) (hcount : s.toll.sentCount < 8) (hready : s.Ready d .bl) :
    (s.withRecord r).tollTry =
      { s with
        toll :=
          { s.toll with
            store := s.toll.store ++ [⟨s.toll.counter, true, 1, .record r⟩], counter := s.toll.counter + 1
            resendTimer := some (s.now + 2000) }
        ports := s.ports.set d { s.ports.get d with
          queues := (s.ports.get d).queues.set .bl ((s.ports.get d).queues.bl ++
            [s.newFrame .toll sink 63
              (wordBytes s.toll.counter ++ wordBytes (s.toll.base.getD s.toll.counter) ++ [bitByte s.toll.fresh, 0] ++
                r.bytes)]) }
        counts := s.countedRecord r } := by
  obtain ⟨hup, hbusy, hroom⟩ := hready
  have hoffer := State.offerToll_of_offer (s := s.withRecord r) (e := ⟨s.toll.counter, false, 0, .record r⟩) hup
    (Port.offer_waits (q := .bl) (State.tollFrame sink ⟨s.toll.counter, false, 0, .record r⟩ (s.withRecord r)) hbusy hroom)
  obtain ⟨hoffered, hstore⟩ := State.withRecord_oldestQueued (r := r) hsent
  generalize hw : State.tollGone d _ _ (s.withRecord r) = w at hoffer
  have hdone : w.toll.oldestQueued = none := by
    have hstore' : w.toll.store = s.toll.store ++ [⟨s.toll.counter, true, 1, .record r⟩] := by rw [← hw]; exact hstore
    rw [Toll.oldestQueued, hstore', List.find?_eq_none]
    intro x hx
    obtain hx | hx := List.mem_append.1 hx
    · simp [(hsent x hx).1]
    · simp [List.mem_singleton.1 hx]
  have hgo : tollTryGo 8 (s.withRecord r) = (w, []) := by
    unfold tollTryGo
    simp only [show (s.withRecord r).toll.sink = .via d sink from hsink, hoffered, State.withRecord_sentCount, hcount, if_true,
      hoffer, takesOf, tollTryGo_stops (.inr (.inl hdone)), List.append_nil]
  simp only [State.tollTry, State.tollTryTakes, hgo, State.settle_nil]
  rw [← hw, State.withRecord_tollFrame]
  simp only [State.tollGone, Toll.modEntry] at hstore ⊢
  rw [hstore]
  rfl

end

/-! ### A record at a toll sink (R176) -/

section
variable {s : State} {r : TollRecord} (hrole : s.config.sink = true)
include hrole

theorem State.withRecord_delivered (hstore : s.toll.store = []) (hroom : s.toll.delivery.length < 64) :
    (s.withRecord r).afterEntry =
      { s with
        toll := { s.toll with
          counter := s.toll.counter + 1, delivery := s.toll.delivery ++ [⟨s.number, s.toll.counter, .record r⟩] }
        counts := s.countedRecord r } := by
  obtain ⟨-, hdelivered⟩ := (s.withRecord r).afterEntry_follows
  obtain ⟨hplain, -⟩ := hdelivered hrole
  obtain ⟨k, hk⟩ : ∃ k, 64 - s.toll.delivery.length = k + 1 := ⟨63 - s.toll.delivery.length, by omega⟩
  have hentry : (s.withRecord r).toll.store = [⟨s.toll.counter, false, 0, .record r⟩] := by
    rw [State.withRecord_eq, hstore]
    rfl
  have hwaits : 64 - (s.withRecord r).toll.delivery.length = k + 1 := hk
  rw [hwaits, hentry, List.take_succ_cons, List.take_nil, List.drop_succ_cons, List.drop_nil] at hplain
  rw [hplain (.inr fun e he => by rw [List.mem_singleton.1 he]; rfl), State.withRecord_eq]
  simp only [hstore, List.map_cons, List.map_nil]

theorem State.withRecord_waits (hfull : 64 ≤ s.toll.delivery.length) : (s.withRecord r).afterEntry = s.withRecord r := by
  obtain ⟨-, hdelivered⟩ := (s.withRecord r).afterEntry_follows
  obtain ⟨hplain, -⟩ := hdelivered hrole
  have hk : 64 - (s.withRecord r).toll.delivery.length = 0 := Nat.sub_eq_zero_of_le hfull
  simp only [hk, List.take_zero, List.drop_zero, List.map_nil, List.append_nil] at hplain
  exact hplain (.inr fun e he => absurd he List.not_mem_nil)

end

/-- Settles O42. -/
theorem tollRecordIsAdmittedAndCounted : Obligations.TollRecordIsAdmittedAndCounted := by
  intro args s h
  refine ⟨fun hparse => ?_, fun r hparse => ?_⟩
  · rw [exec_submitToll h]
    simp only [submitTollBody, hparse]
    rfl
  intro q old counted entry
  have hadmitted := exec_submitToll_admitted h hparse
  have hrecords := State.withRecord_records r s
  obtain ⟨htried, hdelivered⟩ := (s.withRecord r).afterEntry_follows
  have hsends : s.config.sink = false → (s.withRecord r).afterEntry = (s.withRecord r).tollTry :=
    fun hsink => State.afterEntry_elsewhere hsink
  /- What the command answers where no frame is sent. -/
  have hstays (hroom : s.toll.records < 256) (hrole : s.config.sink = false)
      (hstop : (s.withRecord r).tollTry = s.withRecord r) :
      exec (.submitToll args) s =
        .next { s with
          toll := { s.toll with store := s.toll.store ++ [entry 0], counter := q + 1 }
          counts := counted
          response := ⟨.ok, .submitToll, .submittedToll q (s.toll.records + 1) none⟩ } := by
    rw [hadmitted hroom, hsends hrole, hstop, hrecords, hrole]
    rfl
  refine ⟨exec_submitToll_full h hparse, fun hroom hrole hsink => ?_, fun hroom hrole d sink hsink hsent hcount hready => ?_,
    fun hroom hrole d sink hsink hcount => ?_, fun hroom => ⟨_, htried, hdelivered, hadmitted hroom⟩,
    fun hrole hstore hroom => ?_, fun hroom hrole hfull hnew => ?_⟩
  · exact hstays hroom hrole (State.tollTry_stops (.inl fun d sink h => by cases hsink.symm.trans h))
  · intro f
    have hrecords' := State.withRecord_sends (r := r) hsink hsent hcount hready
    rw [hadmitted hroom, hsends hrole, hrecords', hrole]
    have hcounted : ({ s.toll with
        store := s.toll.store ++ [⟨s.toll.counter, true, 1, .record r⟩], counter := s.toll.counter + 1
        resendTimer := some (s.now + 2000) } : Toll).records = s.toll.records + 1 :=
      s.toll.records_append ⟨s.toll.counter, true, 1, .record r⟩ rfl
    simp only [hcounted]
    rfl
  · exact hstays hroom hrole (State.tollTry_stops (.inr (.inr (by rw [State.withRecord_sentCount]; exact hcount))))
  · have hroom' : s.toll.records < 256 := by simp [Toll.records, hstore]
    have hown := State.withRecord_delivered (r := r) hrole hstore hroom
    rw [hadmitted hroom', hown, hrole]
    simp only [hstore, Toll.records]
    rfl
  · have hown := State.withRecord_waits (r := r) hrole hfull
    have hstill : ((s.withRecord r).toll.store.all fun e => e.sequence != s.toll.counter) = false := by
      simp [State.withRecord_eq]
    rw [hadmitted hroom, hown, hrecords, hrole, hstill]
    rfl

end Sys2Proof.Machine
end

section
/-! The choice of the sink (R169, R170) and what a change of it does. -/
namespace Sys2Proof.Machine
open Sys2Proof

/-! ### The choice (R169) -/

theorem State.eligible_eq_some_iff (s : State) (d : Side) (e : RoleEntry) :
    s.eligible d = some e ↔ (s.ports.get d).isUp = true ∧ (s.reach.get d).sink = some e := by
  unfold State.eligible
  split
  next h => simp [h]
  next h => simp [h]

section
variable {s : State} {d : Side} {e x : RoleEntry}

theorem State.chooseSink_none (h : ∀ d, s.eligible d = none) : s.chooseSink = .none := by
  simp only [State.chooseSink, h]

theorem State.chooseSink_only (he : s.eligible d = some e) (hother : s.eligible d.other = none) :
    s.chooseSink = .via d e.station := by
  cases d with
  | east => simp only [State.chooseSink, he, show s.eligible .west = none from hother]
  | west => simp only [State.chooseSink, he, show s.eligible .east = none from hother]

theorem State.chooseSink_up (he : s.eligible d = some e) (hx : s.eligible d.other = some x) (hup : (s.ports.get d).state = .up)
    (hother : (s.ports.get d.other).state ≠ .up) : s.chooseSink = .via d e.station := by
  cases d with
  | east =>
    have hup : s.ports.east.state = .up := hup
    have hother : s.ports.west.state ≠ .up := hother
    simp [State.chooseSink, he, show s.eligible .west = some x from hx, hup, hother]
  | west =>
    have hup : s.ports.west.state = .up := hup
    have hother : s.ports.east.state ≠ .up := hother
    simp [State.chooseSink, he, show s.eligible .east = some x from hx, hup, hother]

/-- Of two ports alike the hops decide, and East among equals. -/
theorem State.chooseSink_alike {w : RoleEntry} (he : s.eligible .east = some e) (hw : s.eligible .west = some w)
    (halike : s.ports.east.state = .up ↔ s.ports.west.state = .up) :
    s.chooseSink = if w.hops < e.hops then .via .west w.station else .via .east e.station := by
  by_cases hup : s.ports.east.state = .up
  · simp [State.chooseSink, he, hw, hup, halike.1 hup]
  · simp [State.chooseSink, he, hw, hup, mt halike.2 hup]

theorem State.chooseSink_nearer (he : s.eligible d = some e) (hx : s.eligible d.other = some x)
    (halike : (s.ports.get d).state = .up ↔ (s.ports.get d.other).state = .up) (hhops : e.hops < x.hops) :
    s.chooseSink = .via d e.station := by
  cases d with
  | east => rw [State.chooseSink_alike he hx halike, if_neg (by omega)]
  | west => rw [State.chooseSink_alike hx he halike.symm, if_pos hhops]

end

/-! ### The review (R170) -/

/-- The toll unit with another sink: no entry is SENT. -/
def State.withSink (x : SinkChoice) (s : State) : State :=
  { s with
    toll := { s.toll with sink := x, resendTimer := none, store := s.toll.store.map fun e => { e with sent := false } } }

theorem State.changeSink_eq (x : SinkChoice) (s : State) : s.changeSink x = (s.withSink x).tollTry := rfl

section
variable {s : State} {d : Side} {station : Nat}

theorem State.keepsSink_iff :
    s.keepsSink d station = true ↔
      (∃ e, s.eligible d = some e ∧ e.station = station) ∧
        ¬((s.ports.get d).state = .degraded ∧ (s.eligible d.other).isSome = true ∧ (s.ports.get d.other).state = .up) := by
  unfold State.keepsSink
  cases s.eligible d with
  | none => simp
  | some e => cases s.eligible d.other <;> simp [imp_iff_not_or]

theorem State.reviewedSink_lost (hsink : s.toll.sink = .via d station) (h : ¬s.keepsSink d station = true) :
    s.reviewedSink = s.chooseSink := by
  simp only [State.reviewedSink, hsink, if_neg h]

theorem State.reviewedSink_none (hsink : s.toll.sink = .none) : s.reviewedSink = s.chooseSink := by
  simp only [State.reviewedSink, hsink]

theorem State.reviewSink_same (h : s.reviewedSink = s.toll.sink) : s.reviewSink = s := by
  unfold State.reviewSink
  rw [if_pos h, ite_self]

theorem State.reviewSink_kept (hsink : s.toll.sink = .via d station) (h : s.keepsSink d station = true) : s.reviewSink = s :=
  State.reviewSink_same (by simp only [State.reviewedSink, hsink, if_pos h])

theorem State.reviewSink_changes (hj : s.joined = true) (hrole : s.config.sink = false) (h : s.reviewedSink = s.chooseSink)
    (hne : s.chooseSink ≠ s.toll.sink) : s.reviewSink = (s.withSink s.chooseSink).tollTry := by
  unfold State.reviewSink
  rw [if_pos (by simp [hj, hrole]), h, if_neg hne, State.changeSink_eq]

theorem State.withSink_sequences (x : SinkChoice) (s : State) :
    (s.withSink x).HasEntries (s.toll.store.map fun e => e.sequence) s.toll.fresh :=
  ⟨by simp [State.withSink], rfl⟩

end

/-- Settles O45. -/
theorem sinkChoiceIsStable : Obligations.SinkChoiceIsStable := by
  refine ⟨fun s => ⟨State.chooseSink_none, fun d e => State.chooseSink_only, fun d e x => State.chooseSink_up,
    fun d e x => State.chooseSink_nearer, fun e x he hx halike hhops => ?_⟩, State.eligible_eq_some_iff,
    fun s d station hsink => ?_, fun s hj hrole hne hcause => ?_, fun s hnone hchoose => ?_, fun s => State.reviewSink_eq_self⟩
  · rw [State.chooseSink_alike he hx halike, if_neg (by omega)]
  · intro kept
    refine ⟨fun hkept => State.reviewSink_kept hsink (State.keepsSink_iff.2 hkept), fun hlost hj hrole hne => ?_⟩
    have hreview := State.reviewSink_changes hj hrole (State.reviewedSink_lost hsink (mt State.keepsSink_iff.1 hlost)) hne
    rw [hreview]
    obtain ⟨hsequences, -⟩ := (sendKept_hasEntries _ _).tollTry (s.withSink_sequences s.chooseSink)
    refine ⟨(sendKept_hasSink s.chooseSink).tollTry rfl, hsequences, fun hnone => ?_⟩
    rw [hnone]
    exact State.tollTry_stops (.inl fun d sink h => by cases h)
  · have hreviewed : s.reviewedSink = s.chooseSink := by
      obtain hnone | ⟨d, station, hsink, hlost⟩ := hcause
      · exact State.reviewedSink_none hnone
      · refine State.reviewedSink_lost hsink (mt State.keepsSink_iff.1 ?_)
        rintro ⟨⟨e, he, hstation⟩, hkept⟩
        exact hlost.elim (fun h => h e he hstation) hkept
    rw [State.reviewSink_changes hj hrole hreviewed hne]
    exact (s.withSink s.chooseSink).tollTry_tried
  · exact State.reviewSink_same (by rw [State.reviewedSink_none hnone, hchoose, hnone])

end Sys2Proof.Machine
end

section
/-! Epoch marks, snapshots and merges (R186 to R191). -/
namespace Sys2Proof.Machine
open Sys2Proof

/-! ### What the toll unit's work leaves -/

/-- The toll unit's work owes no image. -/
theorem State.withImages_tollWork {p : Side} {f : Frame} {s v : State} (h : (s.reached p f).TollWork v) :
    (s.withImages fun _ => v) = v := by
  refine State.withImages_of_imageKey_eq fun g => ?_
  rw [← s.reached_imageKey p f g]
  obtain ⟨u, counts, hline, rfl⟩ := h
  exact hline.imageKey g

theorem State.TollWork.number {s t : State} (h : s.TollWork t) : t.number = s.number := by
  obtain ⟨u, counts, ⟨_, _, _, rfl, -⟩, rfl⟩ := h
  rfl

/-! ### A mark is applied (R187, R189) -/

section
variable (e : Word) (s : State)

/-- The counters zeroed under the new epoch. -/
def State.zeroedCounts : Counts := { s.counts with lanes := Vector.replicate 8 zeroLane, epoch := some e }

/-- The snapshot of the live counters. -/
def State.snapshotAt : Report := ⟨s.counts.epoch, e, s.counts.lastRecord, s.counts.lanes⟩

/-- The state in which the snapshot has entered the store as a report. -/
def State.withReport : State :=
  { s with
    counts := s.zeroedCounts e
    toll := { s.toll with
      store := s.toll.store ++ [⟨s.toll.counter, false, 0, .report (s.snapshotAt e)⟩], counter := s.toll.counter + 1 } }

theorem State.applyMark_eq : s.applyMark e = ({ s with counts := s.zeroedCounts e } : State).placeReport (s.snapshotAt e) := rfl

variable {e s}

theorem State.applyMark_enters (h : reportIn s.toll.store = none) : s.applyMark e = (s.withReport e).afterEntry := by
  rw [State.applyMark_eq, State.placeReport]
  simp only [h]
  rfl

theorem State.applyMark_merges {x : TollEntry} {r : Report} (h : reportIn s.toll.store = some (x, r)) (hx : x.sendCount = 0) :
    s.applyMark e =
      { s with
        counts := s.zeroedCounts e
        toll :=
          { s.toll with
            store := s.toll.store.map fun y =>
              if y.sequence = x.sequence then { y with content := .report (r.merge (s.snapshotAt e)) } else y } } := by
  rw [State.applyMark_eq, State.placeReport]
  simp only [h, if_pos hx]
  rfl

theorem State.applyMark_holds {x : TollEntry} {r : Report} (h : reportIn s.toll.store = some (x, r)) (hx : x.sendCount ≠ 0) :
    s.applyMark e =
      { s with
        counts :=
          { s.zeroedCounts e with
            held := some (match s.counts.held with | none => s.snapshotAt e | some h => h.merge (s.snapshotAt e)) } } := by
  rw [State.applyMark_eq, State.placeReport]
  simp only [h, if_neg hx] <;> rfl

theorem State.withReport_delivered (hstore : s.toll.store = []) (hrole : s.config.sink = true)
    (hroom : s.toll.delivery.length < 64) (hheld : s.counts.held = none) :
    s.applyMark e =
      { s with
        counts := s.zeroedCounts e
        toll :=
          { s.toll with
            counter := s.toll.counter + 1
            delivery := s.toll.delivery ++ [⟨s.number, s.toll.counter, .report (s.snapshotAt e)⟩] } } := by
  obtain ⟨-, hdelivered⟩ := (s.withReport e).afterEntry_follows
  obtain ⟨hplain, -⟩ := hdelivered hrole
  obtain ⟨k, hk⟩ : ∃ k, 64 - s.toll.delivery.length = k + 1 := ⟨63 - s.toll.delivery.length, by omega⟩
  have hentry : (s.withReport e).toll.store = [⟨s.toll.counter, false, 0, .report (s.snapshotAt e)⟩] := by
    rw [State.withReport, hstore]
    rfl
  have hwaits : 64 - (s.withReport e).toll.delivery.length = k + 1 := hk
  rw [hwaits, hentry, List.take_succ_cons, List.take_nil, List.drop_succ_cons, List.drop_nil] at hplain
  rw [State.applyMark_enters (by rw [hstore]; rfl), hplain (.inl hheld), State.withReport]
  simp only [hstore, List.map_cons, List.map_nil]

end

/-! ### Merging (R190) -/

theorem LaneCount.merge_saturated (a b : LaneCount) :
    (a.merge b).saturated = true ↔
      a.saturated = true ∨ b.saturated = true ∨ (∃ i : Fin 5, (a.merge b).classes[i] = 65535) ∨ (a.merge b).sum = 4294967295 := by
  have hclass (i : Fin 5) : (a.merge b).classes[i] = min 65535 (a.classes[i] + b.classes[i]) := by
    simp [LaneCount.merge]
  have htop (i : Fin 5) : (a.merge b).classes[i] = 65535 ↔ 65535 ≤ a.classes[i] + b.classes[i] := by
    rw [hclass]
    omega
  have hsum : (a.merge b).sum = 4294967295 ↔ 4294967295 ≤ a.sum + b.sum := by
    change min 4294967295 (a.sum + b.sum) = 4294967295 ↔ _
    omega
  have hany : ((List.range 5).any fun i => decide (65535 ≤ a.classes.toList.getD i 0 + b.classes.toList.getD i 0)) = true ↔
      ∃ i : Fin 5, 65535 ≤ a.classes[i] + b.classes[i] := by
    simp only [List.any_eq_true, List.mem_range, decide_eq_true_eq]
    constructor
    · rintro ⟨i, hi, h⟩
      exact ⟨⟨i, hi⟩, by simpa [List.getD_eq_getElem?_getD, hi] using h⟩
    · rintro ⟨i, h⟩
      exact ⟨i, i.isLt, by simpa [List.getD_eq_getElem?_getD, i.isLt] using h⟩
  simp only [htop, hsum, ← hany]
  simp only [LaneCount.merge, Bool.or_eq_true, decide_eq_true_eq, or_assoc]

/-! ### Newer marks (R186) -/

theorem newer_word_iff (a b : Word) : newer a b = true ↔ 1 ≤ (a - b).toNat ∧ (a - b).toNat ≤ 32767 := by
  simp [newer]

theorem State.takeEpoch_of_newer {e : Word} {s : State} (h : s.counts.epoch = none ∨ ∃ x, s.counts.epoch = some x ∧
    newer e x = true) : s.takeEpoch e = s.applyMark e := by
  refine if_pos ?_
  obtain h | ⟨x, h, hnew⟩ := h
  · simp only [Counts.isNewer, h]
  · simp only [Counts.isNewer, h, hnew]

theorem State.takeEpoch_of_old {e x : Word} {s : State} (h : s.counts.epoch = some x) (hold : newer e x = false) :
    s.takeEpoch e = s := by
  refine if_neg ?_
  simp only [Counts.isNewer, h, hold, Bool.false_eq_true, not_false_eq_true]

theorem State.reached_counts (p : Side) (f : Frame) (s : State) : (s.reached p f).counts = s.counts := by
  obtain ⟨_, _, _, _, _, _, h⟩ := s.reached_eq p f
  rw [h]

/-- A taken EPOCH (R186). -/
theorem State.Arrives.exec_epoch {p : Side} {bytes : List Byte} {f : Frame} {e : Word} {s : State} (h : s.Arrives p bytes f)
    (hj : s.joined = true) (ht : f.TakenBy .epoch true s.number) (hp : parseWord f.payload = some e) :
    exec (.lineFrameArrives p bytes) s = .next ((s.reached p f).takeEpoch e) := by
  have hhanded : (s.reached p f).handTo .epoch p f.counted = (s.reached p f).takeEpoch e := by
    simp only [State.handTo, Frame.counted, hp, State.taking]
  rw [h.exec_eq ht.1 (by decide) (State.reached_takesKind (by simp) hj ht), hhanded,
    State.withImages_tollWork (State.takeEpoch_tollWork e _)]

/-! ### The statement -/

/-- ISSUE_EPOCH (R188). -/
theorem exec_issueEpoch {s : State} {seed : Word} (h : s.Accepts .issueEpoch 1) :
    let e := match s.counts.epoch with | none => seed | some x => x + 1
    ∃ t, exec (.issueEpoch [seed]) s = .next t ∧
      t = { s.applyMark e with
            ports := t.ports, deferred := t.deferred, toll := t.toll
            response := ⟨.ok, .issueEpoch, .epoch e⟩ } ∧
      (s.applyMark e).Offered (some .plain) (s.broadcast63 .epoch (wordBytes e)) t := by
  intro e
  have he : s.counts.epoch.elim seed (· + 1) = e := by
    simp only [e]
    cases s.counts.epoch <;> rfl
  have hframe : (s.applyMark e).broadcast63 .epoch (wordBytes e) = s.broadcast63 .epoch (wordBytes e) := by
    simp only [State.broadcast63, State.newFrame, (State.applyMark_tollWork e s).number]
  have hexec : exec (.issueEpoch [seed]) s =
      .next (((s.applyMark e).sendOneOff .plain (s.broadcast63 .epoch (wordBytes e))).answered .issueEpoch .ok (.epoch e)) := by
    change execIssueEpoch [seed] s = _
    rw [execIssueEpoch, State.Accepts.command_eq (args := [seed]) h]
    simp only [issueEpochBody, he, hframe]
  have hsent := (State.sendOneOff_sends .plain (s.broadcast63 .epoch (wordBytes e)) (s.applyMark e)).parts
  refine ⟨_, hexec, ?_, State.sendOneOff_offered (State.broadcast63_not_voice (k := .epoch) (by decide) _ _)⟩
  generalize (s.applyMark e).sendOneOff .plain (s.broadcast63 .epoch (wordBytes e)) = t at hsent ⊢
  generalize s.applyMark e = u at hsent ⊢
  rw [hsent]
  rfl

/-- Settles O46. -/
theorem epochMarkTakesASnapshot : Obligations.EpochMarkTakesASnapshot := by
  refine ⟨fun s e => ?_, fun a b => ⟨rfl, rfl, fun h => ?_, fun q h => ?_, fun l => ?_⟩, fun s seed => exec_issueEpoch,
    fun p bytes f e s h hj ht hp => ?_⟩
  · intro snapshot zeroed
    refine ⟨fun hnone hrole hsink => ?_, fun hnone => ?_, State.withReport_delivered, fun x r hreport => ⟨fun hx => ?_,
      fun hx hheld => ?_, fun hx held hheld => ?_⟩⟩
    · rw [State.applyMark_enters hnone, State.afterEntry_elsewhere (s := s.withReport e) hrole]
      exact State.tollTry_stops (.inl fun d sink h => by cases hsink.symm.trans h)
    · rw [State.applyMark_enters hnone]
      exact (s.withReport e).afterEntry_follows
    · exact State.applyMark_merges hreport hx
    · rw [State.applyMark_holds hreport hx, hheld]
      rfl
    · rw [State.applyMark_holds hreport hx, hheld]
      rfl
  · simp only [Report.merge, h]
  · simp only [Report.merge, h]
  · have hlane : (a.merge b).lanes[l] = a.lanes[l].merge b.lanes[l] := by simp [Report.merge]
    rw [hlane]
    exact ⟨fun i => by simp [LaneCount.merge], rfl, LaneCount.merge_saturated _ _⟩
  · have hepoch : (s.reached p f).counts.epoch = s.counts.epoch := by rw [State.reached_counts]
    rw [h.exec_epoch hj ht hp]
    refine ⟨fun hnone => ?_, fun x hx => ⟨fun hlow hhigh => ?_, fun hold => ?_⟩⟩
    · rw [State.takeEpoch_of_newer (.inl (hepoch.trans hnone))]
    · rw [State.takeEpoch_of_newer (.inr ⟨x, hepoch.trans hx, (newer_word_iff e x).2 ⟨hlow, hhigh⟩⟩)]
    · rw [State.takeEpoch_of_old (hepoch.trans hx)]
      rw [Bool.eq_false_iff, ne_eq, newer_word_iff]
      rintro ⟨hlow, hhigh⟩
      obtain rfl | hold := hold
      · simp at hlow
      · omega

end Sys2Proof.Machine
end

section
/-! The toll sink: the origin table, the judgement of a TOLL and its acknowledgement (R178 to R180). -/
namespace Sys2Proof.Machine
open Sys2Proof

/-! ### The origin table (R178) -/

section
variable {origin : Nat} {f : TollFrame} {e : OriginEntry}

/-- The entry of an origin heard for the first time, or afresh. -/
def TollFrame.afresh (origin : Nat) (f : TollFrame) : OriginEntry := ⟨origin, f.base, false, f.fresh⟩

theorem originFor_unknown (h : f.sequence = f.base) : originFor origin f none = some (f.afresh origin) := by
  unfold originFor
  cases hf : f.fresh <;> simp [h, TollFrame.afresh, hf]

theorem originFor_unknown_gap (h : f.sequence ≠ f.base) : originFor origin f none = none := by
  unfold originFor
  cases f.fresh <;> simp [h]

theorem originFor_continues (hf : f.fresh = false) : originFor origin f (some e) = some { e with fresh := false } := by
  simp only [originFor, hf]

theorem originFor_restarts (hf : f.fresh = true) (he : e.fresh = false) :
    originFor origin f (some e) = if f.sequence = f.base then some (f.afresh origin) else none := by
  simp [originFor, hf, he, TollFrame.afresh]

theorem originFor_fresh (hf : f.fresh = true) (he : e.fresh = true) :
    originFor origin f (some e) =
      if f.sequence = f.base ∧ older f.base e.expected = true then some (f.afresh origin) else some e := by
  simp [originFor, hf, he, TollFrame.afresh]

end

/-! ### The judgement (R179) -/

section
variable {room : Bool} {f : TollFrame} {entry : OriginEntry}

/-- The sequence that a TOLL is judged against: the window base where that is newer than the one expected. -/
def TollFrame.expects (f : TollFrame) (entry : OriginEntry) : Word := if newer f.base entry.expected then f.base else entry.expected

theorem judgeToll_eq :
    judgeToll room f entry =
      let e : OriginEntry := { entry with expected := f.expects entry }
      let through : Option Word := if entry.deliveredBefore then some (f.expects entry - 1) else none
      if f.sequence = f.expects entry then
        if room then ⟨{ e with expected := f.sequence + 1, deliveredBefore := true }, true, some f.sequence⟩
        else ⟨e, false, through⟩
      else if older f.sequence (f.expects entry) then ⟨e, false, some (f.expects entry - 1)⟩
      else ⟨e, false, through⟩ := by
  simp only [judgeToll, TollFrame.expects]
  split <;> rfl

theorem not_older_self (q : Word) : older q q = false := by simp [older, newer]

end

/-! ### A TOLL taken at a toll sink -/

section
variable {p : Side} {bytes : List Byte} {f : Frame} {x : TollFrame} {s : State}

theorem State.takeToll_tollWork (origin : Nat) (x : TollFrame) (s : State) : s.TollWork (s.takeToll origin x) := by
  unfold State.takeToll
  split
  · exact (State.LineWork.rfl' s).toTollWork
  · simp only
    split
    · exact (State.LineWork.modToll s _).toTollWork
    · exact ((State.LineWork.modToll s _).trans (State.send_lineWork _ _)).toTollWork

theorem State.Arrives.exec_toll (h : s.Arrives p bytes f) (hj : s.joined = true) (hrole : s.config.sink = true)
    (ht : f.TakenBy .toll false s.number) (hp : parseToll f.payload = some x) :
    exec (.lineFrameArrives p bytes) s = .next ((s.reached p f).takeToll f.origin x) := by
  obtain ⟨hkind, htarget⟩ := ht
  replace htarget : f.target = s.number := htarget.resolve_right (by simp)
  have hopen : (s.reached p f).takesKind .toll f.counted = true := by
    change ((s.reached p f).joined && (s.reached p f).config.sink && f.target == (s.reached p f).number) = true
    rw [State.reached_joined, State.reached_config, State.reached_number, hj, hrole, htarget]
    simp
  have hhanded : (s.reached p f).handTo .toll p f.counted = (s.reached p f).takeToll f.origin x := by
    simp only [State.handTo, Frame.counted, hp, State.taking]
  rw [h.exec_eq hkind (by decide) hopen, hhanded, State.withImages_tollWork (State.takeToll_tollWork ..)]

end

/-! ### What a frame for this station finds at a toll sink -/

theorem State.reviewIfChanged_atSink {s : State} (hrole : s.config.sink = true) (before : State) : s.reviewIfChanged before = s := by
  unfold State.reviewIfChanged
  rw [State.reviewSink_eq_self (.inr hrole), ite_self]

theorem State.recordOutcome_toll_atSink {s : State} (hrole : s.config.sink = true) (p : Side) (good : Bool) :
    (s.recordOutcome p good).toll = s.toll := by
  unfold State.recordOutcome
  dsimp only
  generalize testedState _ _ = st
  obtain h | h := State.setPortState_cases p st (s.modPort p fun x => { x with history := addOutcome good x.history })
  · rw [h, State.reviewIfChanged_atSink]
    · rfl
    · exact hrole
  · rw [h, State.reviewIfChanged_atSink]
    · rfl
    · exact hrole

theorem State.reached_toll_atSink {s : State} (hrole : s.config.sink = true) (p : Side) {f : Frame} (htarget : f.target = s.number) :
    (s.reached p f).toll = s.toll := by
  have hnumber : (s.heard p f).number = s.number := by
    obtain ⟨hnumber, -⟩ := s.recordOutcome_frame p true
    exact hnumber
  have hown : s.reached p f = s.heard p f := by
    rw [State.reached, State.relay, if_neg]
    rintro ⟨hother, -⟩
    exact hother (htarget.trans hnumber.symm)
  rw [hown]
  exact State.recordOutcome_toll_atSink hrole p true

/-! ### The taken TOLL -/

section
variable {origin : Nat} {x : TollFrame} {s : State} {e : OriginEntry}

/-- The toll unit after this judgement. -/
def Toll.judged (origin : Nat) (x : TollFrame) (j : Judgement) (t : Toll) : Toll :=
  { t with
    origins := setOrigin j.entry t.origins
    delivery := if j.delivered then t.delivery ++ [⟨origin, x.sequence, x.content⟩] else t.delivery }

theorem State.takeToll_silent (h : originFor origin x (s.toll.originEntry origin) = some e)
    (hack : (judgeToll (decide (s.toll.delivery.length < 64)) x e).ack = none) :
    s.takeToll origin x =
      { s with toll := s.toll.judged origin x (judgeToll (decide (s.toll.delivery.length < 64)) x e) } := by
  simp only [State.takeToll, h, hack] <;> rfl

theorem State.takeToll_acks (h : originFor origin x (s.toll.originEntry origin) = some e) {n : Word}
    (hack : (judgeToll (decide (s.toll.delivery.length < 64)) x e).ack = some n) :
    s.takeToll origin x =
      ({ s with toll := s.toll.judged origin x (judgeToll (decide (s.toll.delivery.length < 64)) x e) } : State).send
        (s.newFrame .tollAck origin 63 (wordBytes n)) := by
  simp only [State.takeToll, h, hack] <;> rfl

end

/-- What an offer says of the line does not depend on the toll unit but for its sink. -/
theorem State.Offered.with_toll {f : Frame} {u t : State} {toll : Toll} (h : ({ u with toll := toll } : State).Offered none f t)
    (hsink : t.toll.sink = toll.sink) : ({ u with toll := t.toll } : State).Offered none f t := by
  obtain ⟨hroom, hfull⟩ := h
  refine ⟨fun hsome hquiet => ?_, fun hall => ?_⟩
  · obtain ⟨hports, hdeferred, -⟩ := hroom hsome fun p hp => (hquiet p hp).imp_right fun ⟨hqueues, hdeferred, hoff⟩ =>
      ⟨hqueues, hdeferred, fun d => by
        have := hoff d
        simp only [State.sinkOn, hsink] at this ⊢
        exact this⟩
    exact ⟨hports, hdeferred, rfl⟩
  · obtain ⟨hports, -, hdeferred⟩ := hfull hall
    exact ⟨hports, rfl, hdeferred⟩

/-- A TOLL that the origin table lets in, judged and acknowledged (R179, R180). -/
theorem tollJudged {p : Side} {bytes : List Byte} {f : Frame} {x : TollFrame} {s : State} {e : OriginEntry} (h : s.Arrives p bytes f)
    (hj : s.joined = true) (hrole : s.config.sink = true) (ht : f.TakenBy .toll false s.number)
    (hp : parseToll f.payload = some x) (he : originFor f.origin x (s.toll.originEntry f.origin) = some e) :
    let j := judgeToll (decide (s.toll.delivery.length < 64)) x e
    ∃ t, exec (.lineFrameArrives p bytes) s = .next t ∧
      t = { s.reached p f with ports := t.ports, deferred := t.deferred, toll := t.toll } ∧
      t.toll.origins = setOrigin j.entry s.toll.origins ∧
      t.toll.delivery =
        (if j.delivered then s.toll.delivery ++ [⟨f.origin, x.sequence, x.content⟩] else s.toll.delivery) ∧
      (s.toll.sink = .own → t.toll = { s.toll with origins := t.toll.origins, delivery := t.toll.delivery }) ∧
      (j.ack = none → t.ports = (s.reached p f).ports ∧ t.deferred = (s.reached p f).deferred) ∧
      ∀ n, j.ack = some n →
        ({ s.reached p f with toll := t.toll } : State).Offered none (s.newFrame .tollAck f.origin 63 (wordBytes n)) t := by
  intro j
  refine ⟨_, h.exec_toll hj hrole ht hp, ?_⟩
  have htoll := State.reached_toll_atSink hrole p (ht.2.resolve_right (by simp))
  have hnumber := s.reached_number (p := p) (f := f)
  generalize s.reached p f = u at htoll hnumber
  rw [← htoll] at he
  have hj' : judgeToll (decide (u.toll.delivery.length < 64)) x e = j := by rw [htoll]
  cases hack : j.ack with
  | none =>
    rw [State.takeToll_silent he (by rw [hj']; exact hack), hj', htoll]
    exact ⟨rfl, rfl, rfl, fun _ => rfl, fun _ => ⟨rfl, rfl⟩, fun n hn => (by cases hn)⟩
  | some n =>
    have hframe : u.newFrame .tollAck f.origin 63 (wordBytes n) = s.newFrame .tollAck f.origin 63 (wordBytes n) := by
      simp only [State.newFrame, hnumber]
    rw [State.takeToll_acks he (by rw [hj']; exact hack), hj', htoll, hframe]
    generalize htollj : s.toll.judged f.origin x j = toll
    have hsent := (State.send_sends (s.newFrame .tollAck f.origin 63 (wordBytes n)) { u with toll := toll }).parts
    obtain ⟨hdelivery, horigins⟩ := (sendKept_hasTables toll.delivery toll.origins).send
      (s := { u with toll := toll }) (s.newFrame .tollAck f.origin 63 (wordBytes n)) ⟨rfl, rfl⟩
    have hrest (hown : toll.sink = .own) := (sendKept_hasTollAtRest toll).send
      (s := { u with toll := toll }) (s.newFrame .tollAck f.origin 63 (wordBytes n))
      ⟨rfl, fun d sink h => by cases hown.symm.trans h⟩
    have hoffered := State.send_offered (s := { u with toll := toll })
      (State.newFrame_not_voice (k := .tollAck) (by decide) f.origin 63 (wordBytes n) s)
    have hsink := (sendKept_hasSink toll.sink).send (s := { u with toll := toll }) (s.newFrame .tollAck f.origin 63 (wordBytes n)) rfl
    generalize ({ u with toll := toll } : State).send (s.newFrame .tollAck f.origin 63 (wordBytes n)) = t at *
    refine ⟨hsent, horigins.trans ?_, hdelivery.trans ?_, fun hown => ?_, fun hnone => (by cases hnone), fun m hm => ?_⟩
    · rw [← htollj]
      rfl
    · rw [← htollj]
      rfl
    · obtain ⟨hkept, -⟩ := hrest (by rw [← htollj]; exact hown)
      rw [hkept, ← htollj]
      rfl
    · obtain rfl := Option.some.inj hm
      exact hoffered.with_toll hsink

/-- Settles O43. -/
theorem tollIsDeliveredInSequence : Obligations.TollIsDeliveredInSequence := by
  refine ⟨fun origin f => ?_, fun room f entry => ?_, fun p bytes f x s h hj hrole ht hp => ⟨fun hnone => ?_, fun e he =>
    tollJudged h hj hrole ht hp he⟩⟩
  · intro afresh
    refine ⟨fun _ => originFor_unknown, originFor_unknown_gap, fun hf e => originFor_continues hf, fun _ => originFor_unknown,
      fun hf e he => ⟨fun hseq => ?_, fun hseq => ?_⟩, fun hf e he => ⟨fun hseq hold => ?_, fun hseq => ?_⟩⟩
    · rw [originFor_restarts hf he, if_pos hseq]
      rfl
    · rw [originFor_restarts hf he, if_neg hseq]
    · rw [originFor_fresh hf he, if_pos ⟨hseq, hold⟩]
      rfl
    · rw [originFor_fresh hf he, if_neg]
      rintro ⟨hbase, hold⟩
      obtain hseq | hseq := hseq
      · exact hseq hbase
      · rw [hold] at hseq
        cases hseq
  · intro e j through
    have hj : j = _ := judgeToll_eq
    simp only at hj
    refine ⟨fun (hseq : f.sequence = f.expects entry) hroom => ?_, fun (hseq : f.sequence = f.expects entry) hroom => ?_,
      fun (hold : older f.sequence (f.expects entry) = true) => ?_,
      fun (hseq : f.sequence ≠ f.expects entry) (hold : older f.sequence (f.expects entry) = false) => ?_⟩
    · rw [hj, if_pos hseq, if_pos hroom]
    · rw [hj, if_pos hseq, if_neg (by simp [hroom])]
      rfl
    · have hne : f.sequence ≠ f.expects entry := fun heq => by
        rw [← heq, not_older_self] at hold
        cases hold
      rw [hj, if_neg hne, if_pos hold]
      rfl
    · rw [hj, if_neg hseq, if_neg (Bool.eq_false_iff.1 hold)]
      rfl
  · rw [h.exec_toll hj hrole ht hp]
    have htoll := State.reached_toll_atSink hrole p (ht.2.resolve_right (by simp))
    rw [← htoll] at hnone
    simp only [State.takeToll, hnone]

end Sys2Proof.Machine
end

section
/-! Acknowledgements (R174, R175, R191) and what leaves a toll sink's delivery queue (R181). -/
namespace Sys2Proof.Machine
open Sys2Proof

/-! ### A TOLLACK (R174) -/

section
variable (n : Word) (s : State)

/-- The entries that a TOLLACK leaves. -/
def State.unacked : List TollEntry := s.toll.store.filter fun e => !atOrBefore e.sequence n

/-- The toll unit after a TOLLACK, with these entries behind those left. -/
def State.ackedToll (more : List TollEntry) : Toll :=
  { s.toll with
    store := s.unacked n ++ more, counter := s.toll.counter + BitVec.ofNat 16 more.length, fresh := false
    resendTimer := if ∃ e ∈ s.unacked n, e.sent = true then some (s.now + 2000) else none }

/-- The state in which sending is tried after a TOLLACK. -/
def State.acked : State :=
  let t := s.modToll fun t => t.acknowledged n
  let t := if s.toll.store.any fun e => atOrBefore e.sequence n && e.content.isReport then t.reportRemoved else t
  t.modToll fun x => { x with resendTimer := if x.sentCount = 0 then none else t.startTimer 2000 }

theorem Toll.acknowledges_iff (t : Toll) :
    t.acknowledges n = true ↔
      (∃ e ∈ t.store, atOrBefore e.sequence n = true) ∧
        ∃ e, t.store.getLast? = some e ∧ atOrBefore n e.sequence = true := by
  unfold Toll.acknowledges
  rw [Bool.and_eq_true, List.any_eq_true]
  refine and_congr_right fun _ => ?_
  cases t.store.getLast? <;> simp

theorem Toll.sentCount_eq_zero_iff (t : Toll) : t.sentCount = 0 ↔ ¬∃ e ∈ t.store, e.sent = true := by
  simp [Toll.sentCount, List.filter_eq_nil_iff]

/-- The resend timer runs on while an entry is SENT. -/
theorem Toll.timer_while_sent (t : Toll) (timer : Timer) :
    (if t.sentCount = 0 then none else timer) = if ∃ e ∈ t.store, e.sent = true then timer else none := by
  by_cases h : ∃ e ∈ t.store, e.sent = true
  · rw [if_neg (mt t.sentCount_eq_zero_iff.1 (not_not.2 h)), if_pos h]
  · rw [if_pos (t.sentCount_eq_zero_iff.2 h), if_neg h]

variable {n s}

theorem State.takeTollAck_ignored (h : s.config.sink = true ∨ ¬s.toll.acknowledges n = true) : s.takeTollAck n = s := by
  refine if_neg ?_
  rintro ⟨hrole, hack⟩
  obtain h | h := h
  · rw [hrole] at h
    cases h
  · exact h hack

theorem State.takeTollAck_acted (hrole : s.config.sink = false) (hack : s.toll.acknowledges n = true) :
    s.takeTollAck n = (s.acked n).tollTry := if_pos ⟨hrole, hack⟩

theorem State.acked_of_plain
    (h : (∀ e ∈ s.toll.store, atOrBefore e.sequence n = true → e.content.isReport = false) ∨ s.counts.held = none) :
    s.acked n = { s with toll := s.ackedToll n [] } := by
  have hremoved : (if s.toll.store.any fun e => atOrBefore e.sequence n && e.content.isReport then
      (s.modToll fun t => t.acknowledged n).reportRemoved else s.modToll fun t => t.acknowledged n) =
      s.modToll fun t => t.acknowledged n := by
    obtain h | h := h
    · rw [if_neg]
      simpa using h
    · have hnone : (s.modToll fun t => t.acknowledged n).counts.held = none := h
      rw [State.reportRemoved, hnone]
      exact ite_self _
  unfold State.acked
  simp only [hremoved, Toll.timer_while_sent]
  simp only [State.modToll, Toll.acknowledged, State.ackedToll, State.unacked, List.append_nil, List.length_nil,
    State.startTimer, BitVec.add_zero] <;> rfl

theorem State.acked_of_report {r : Report} (hheld : s.counts.held = some r)
    (h : ∃ e ∈ s.toll.store, atOrBefore e.sequence n = true ∧ e.content.isReport = true) :
    s.acked n =
      { s with
        toll := s.ackedToll n [⟨s.toll.counter, false, 0, .report r⟩], counts := { s.counts with held := none } } := by
  have hsome : (s.modToll fun t => t.acknowledged n).counts.held = some r := hheld
  have hany : (s.toll.store.any fun e => atOrBefore e.sequence n && e.content.isReport) = true := by simpa using h
  unfold State.acked
  simp only [hany, if_true, State.reportRemoved, hsome, Toll.timer_while_sent]
  simp only [State.enterToll, State.modToll, State.modCounts, Toll.acknowledged, State.ackedToll, State.unacked,
    List.mem_append, List.mem_singleton, or_and_right, exists_or, exists_eq_left, Bool.false_eq_true, or_false,
    List.length_singleton]
  rfl

end

theorem State.Arrives.exec_tollAck {p : Side} {bytes : List Byte} {f : Frame} {n : Word} {s : State} (h : s.Arrives p bytes f)
    (hj : s.joined = true) (ht : f.TakenBy .tollAck false s.number) (hp : parseWord f.payload = some n) :
    exec (.lineFrameArrives p bytes) s = .next ((s.reached p f).takeTollAck n) := by
  have hhanded : (s.reached p f).handTo .tollAck p f.counted = (s.reached p f).takeTollAck n := by
    simp only [State.handTo, Frame.counted, hp, State.taking]
  rw [h.exec_own hj (by simp) ht, hhanded, State.withImages_tollWork (State.takeTollAck_tollWork ..)]

/-! ### FETCH_DELIVERY (R181) -/

theorem exec_fetchDelivery {s : State} (h : s.Accepts .fetchDelivery 0) :
    exec (.fetchDelivery []) s =
      .next ((fetchDeliveryBody s).2.2.answered .fetchDelivery (fetchDeliveryBody s).1 (fetchDeliveryBody s).2.1) :=
  congrArg Host.Outcome.next (h.command_eq (args := []) fetchDeliveryBody)

/-- The head of the delivery queue taken, with the toll sink's own entries moved up. -/
theorem exec_fetchDelivery_head {s : State} (h : s.Accepts .fetchDelivery 0) {e : Delivery} {es : List Delivery}
    (hlist : s.toll.delivery = e :: es) :
    let u : State := { s with toll := { s.toll with delivery := es } }
    exec (.fetchDelivery []) s = .next { u.ownDelivery with response := ⟨.ok, .fetchDelivery, .delivery e es.length⟩ } := by
  intro u
  rw [exec_fetchDelivery h]
  simp only [fetchDeliveryBody, hlist]
  rfl

theorem deliveriesFetched (s : State) (h : s.Accepts .fetchDelivery 0) :
    (s.toll.delivery = [] → exec (.fetchDelivery []) s = .next { s with response := ⟨.empty, .fetchDelivery, .none⟩ }) ∧
    ∀ e es, s.toll.delivery = e :: es →
      let u : State := { s with toll := { s.toll with delivery := es } }
      let answered (t : Toll) (c : Counts) : Result :=
        .next { s with toll := t, counts := c, response := ⟨.ok, .fetchDelivery, .delivery e es.length⟩ }
      (∃ v : State, u.OwnDelivered v ∧
        exec (.fetchDelivery []) s = .next { v with response := ⟨.ok, .fetchDelivery, .delivery e es.length⟩ }) ∧
      (s.toll.store = [] → exec (.fetchDelivery []) s = answered { s.toll with delivery := es } s.counts) ∧
      (es.length = 63 → ∀ x xs, s.toll.store = x :: xs → (x.content.isReport = false ∨ s.counts.held = none) →
        exec (.fetchDelivery []) s =
          answered { s.toll with store := xs, delivery := es ++ [⟨s.number, x.sequence, x.content⟩] } s.counts) ∧
      (es.length = 63 → ∀ x xs r, s.toll.store = x :: xs → x.content.isReport = true → s.counts.held = some r →
        exec (.fetchDelivery []) s =
          answered
            { s.toll with
              store := xs ++ [⟨s.toll.counter, false, 0, .report r⟩], counter := s.toll.counter + 1
              delivery := es ++ [⟨s.number, x.sequence, x.content⟩] }
            { s.counts with held := none }) := by
  refine ⟨fun hempty => ?_, fun e es hlist => ?_⟩
  · rw [exec_fetchDelivery h]
    simp only [fetchDeliveryBody, hempty]
    rfl
  intro u answered
  have hexec : exec (.fetchDelivery []) s = _ := exec_fetchDelivery_head h hlist
  have hdelivered : u.OwnDelivered u.ownDelivery := u.ownDelivery_delivered
  refine ⟨⟨_, hdelivered, hexec⟩, fun hstore => ?_, fun hlength x xs hstore hplain => ?_,
    fun hlength x xs r hstore hreport hheld => ?_⟩
  all_goals obtain ⟨hnone, hreported⟩ := hdelivered
  · have hu : u.toll.store = [] := hstore
    have hrest : u.ownDelivery = u := by simp only [State.ownDelivery, ownDeliveryGo, hu]
    rw [hexec, hrest]
  · have hu : u.toll.store = x :: xs := hstore
    have hroom : 64 - u.toll.delivery.length = 1 := by rw [show u.toll.delivery.length = 63 from hlength]
    rw [hroom, hu, List.take_succ_cons, List.take_zero, List.drop_succ_cons, List.drop_zero] at hnone
    rw [hexec, hnone (hplain.symm.imp id fun hx e he => by rw [List.mem_singleton.1 he]; exact hx)]
    rfl
  · have hu : u.toll.store = x :: xs := hstore
    have hroom : 64 - u.toll.delivery.length = 1 := by rw [show u.toll.delivery.length = 63 from hlength]
    have hfirst := hreported r hheld
    rw [hroom, hu] at hfirst
    rw [hexec, hfirst ⟨x, by simp, hreport⟩]
    rfl

end Sys2Proof.Machine
end

section
/-! Resends (R173): every SENT entry offered again, and those that the BL refuses returned to QUEUED. -/
namespace Sys2Proof.Machine
open Sys2Proof

/-! ### The entries of a resend -/

/-- An entry after a resend of the entries `es`, of which `out` went out. -/
def TollEntry.resent (out es : List TollEntry) (x : TollEntry) : TollEntry :=
  if x.sequence ∈ out.map (·.sequence) then x.nowSent
  else if x.sequence ∈ es.map (·.sequence) then { x with sent := false } else x

theorem TollEntry.resent_nil (x : TollEntry) : x.resent [] [] = x := by simp [TollEntry.resent]

theorem TollEntry.resent_cons {out es : List TollEntry} {e : TollEntry} (hes : out ⊆ es)
    (hnew : e.sequence ∉ es.map (·.sequence)) (x : TollEntry) :
    (if x.sequence = e.sequence then x.nowSent else x).resent out es = x.resent (e :: out) (e :: es) := by
  have hout : e.sequence ∉ out.map (·.sequence) := fun h => hnew (List.map_subset _ hes h)
  by_cases hx : x.sequence = e.sequence
  · have hkept : x.nowSent.sequence = e.sequence := hx
    simp only [TollEntry.resent, hkept, if_neg hout, if_neg hnew, hx, List.map_cons, List.mem_cons, true_or, if_true]
  · simp only [TollEntry.resent, List.map_cons, List.mem_cons, hx, false_or, if_false]

section
variable {d : Side} {sink : Nat} {s : State}

/-- The state after a resend of the entries `es` at a busy port, of which `out` went out. -/
def State.resends (d : Side) (sink : Nat) (out es : List TollEntry) (s : State) : State :=
  { s with
    toll := { s.toll with
      resendTimer := if out = [] then s.toll.resendTimer else some (s.now + 2000)
      store := s.toll.store.map (TollEntry.resent out es) }
    ports := s.ports.set d
      { s.ports.get d with queues := { (s.ports.get d).queues with
        bl := (s.ports.get d).queues.bl ++ out.map (s.tollFrame sink) } } }

theorem State.resends_nil (d : Side) (sink : Nat) (es : List TollEntry) (s : State) :
    s.resends d sink [] es =
      { s with toll := { s.toll with store := s.toll.store.map (TollEntry.resent [] es) } } := by
  simp only [State.resends, if_true, List.map_nil, List.append_nil]
  cases d <;> rfl

theorem State.resends_nothing (d : Side) (sink : Nat) (s : State) : s.resends d sink [] [] = s := by
  have hid : s.toll.store.map (TollEntry.resent [] []) = s.toll.store :=
    (List.map_congr_left fun x _ => x.resent_nil).trans (List.map_id _)
  rw [State.resends_nil, hid]

/-- What was sent for one entry leaves the frames of the others as they would be. -/
theorem State.tollFrame_of_gone {x : Port} {e : TollEntry} (y : TollEntry) :
    State.tollFrame sink y (s.tollGone d x e) = s.tollFrame sink y := by
  have hbase : (s.tollGone d x e).toll.base = s.toll.base := by
    change (s.toll.modEntry e.sequence TollEntry.nowSent).base = _
    simp only [Toll.base, ← List.head?_map, Toll.modEntry_sequences _ e.sequence (f := TollEntry.nowSent) fun _ => rfl]
  simp only [State.tollFrame, hbase]
  rfl

/-- At the first refusal the entry and the newer ones return to QUEUED. -/
theorem resendGo_refused (h : (s.ports.get d).isUp = false ∨ 16 ≤ (s.ports.get d).queues.bl.length) (es : List TollEntry) :
    resendGo d sink es s = (s.resends d sink [] es, []) := by
  cases es with
  | nil => rw [State.resends_nothing, resendGo]
  | cons e es =>
    rw [State.resends_nil]
    have hunsent (x : TollEntry) : (if (e :: es).any (fun y => y.sequence == x.sequence) then { x with sent := false } else x) =
        x.resent [] (e :: es) := by
      have hmem : ((e :: es).any fun y => y.sequence == x.sequence) = true ↔ x.sequence ∈ (e :: es).map (·.sequence) := by
        rw [List.any_eq_true, List.mem_map]
        exact exists_congr fun y => and_congr_right fun _ => beq_iff_eq
      rw [TollEntry.resent, List.map_nil, if_neg List.not_mem_nil]
      exact if_congr hmem rfl rfl
    simp only [resendGo, State.offerToll_refused h, Bool.false_eq_true, if_false, hunsent]
    rfl

theorem State.resends_cons_store {e : TollEntry} {out es : List TollEntry} (hes : out ⊆ es)
    (hnew : e.sequence ∉ es.map (·.sequence)) (y : Port) :
    (s.tollGone d y e).toll.store.map (TollEntry.resent out es) = s.toll.store.map (TollEntry.resent (e :: out) (e :: es)) := by
  change (s.toll.store.map fun x => if x.sequence = e.sequence then x.nowSent else x).map _ = _
  rw [List.map_map]
  exact List.map_congr_left fun x _ => TollEntry.resent_cons hes hnew x

/-- The other entries after the first of a resend has gone out. -/
theorem State.resends_cons {e : TollEntry} {out es : List TollEntry} (hes : out ⊆ es)
    (hnew : e.sequence ∉ es.map (·.sequence)) {y : Port} {f : Frame} (hf : f = s.tollFrame sink e)
    (hy : y = { s.ports.get d with queues := { (s.ports.get d).queues with bl := (s.ports.get d).queues.bl ++ [f] } }) :
    (s.tollGone d y e).resends d sink out es = s.resends d sink (e :: out) (e :: es) := by
  have hport : (s.tollGone d y e).ports.get d = y := PerSide.get_set_same ..
  have hstore := State.resends_cons_store (s := s) (d := d) hes hnew y
  have hframes : out.map (State.tollFrame sink · (s.tollGone d y e)) = out.map (s.tollFrame sink) :=
    List.map_congr_left fun x _ => State.tollFrame_of_gone x
  unfold State.resends
  rw [hport, hstore, hframes, hy, hf]
  simp only [State.tollGone, PerSide.set_set, List.append_assoc, List.singleton_append, List.map_cons, Toll.modEntry, ite_self]
  rfl

theorem resendGo_busy (hup : (s.ports.get d).isUp = true) (hbusy : (s.ports.get d).sending.isSome = true) {es : List TollEntry}
    (hnodup : (es.map (·.sequence)).Nodup) :
    resendGo d sink es s = (s.resends d sink (es.take (16 - (s.ports.get d).queues.bl.length)) es, []) := by
  induction es generalizing s with
  | nil => rw [List.take_nil, State.resends_nothing, resendGo]
  | cons e es ih =>
    rw [List.map_cons, List.nodup_cons] at hnodup
    by_cases hroom : (s.ports.get d).queues.bl.length < 16
    · have hoffer := State.offerToll_of_offer (e := e) hup (Port.offer_waits (q := .bl) (s.tollFrame sink e) hbusy hroom)
      generalize hy : ({ s.ports.get d with queues := _ } : Port) = y at hoffer
      replace hy := hy.symm
      have hport : (s.tollGone d y e).ports.get d = y := PerSide.get_set_same ..
      obtain ⟨k, hk⟩ : ∃ k, 16 - (s.ports.get d).queues.bl.length = k + 1 :=
        ⟨15 - (s.ports.get d).queues.bl.length, by omega⟩
      have hleft : 16 - y.queues.bl.length = k := by
        have hlength : y.queues.bl.length = (s.ports.get d).queues.bl.length + 1 := by
          rw [hy]
          exact List.length_append ..
        omega
      have hrest := ih (s := s.tollGone d y e) (by rw [hport, hy]; exact hup) (by rw [hport, hy]; exact hbusy) hnodup.2
      rw [hport, hleft, State.resends_cons (List.take_subset _ _) hnodup.1 rfl hy] at hrest
      rw [hk, List.take_succ_cons, resendGo]
      simp only [hoffer, if_true, hrest, takesOf, List.append_nil]
    · rw [Nat.sub_eq_zero_of_le (Nat.not_lt.1 hroom), List.take_zero]
      exact resendGo_refused (.inr (Nat.not_lt.1 hroom)) _

end

/-! ### The toll unit after a resend (R173) -/

/-- The toll unit after a resend of all SENT entries, of which `out` went out. -/
def Toll.resent (out : List TollEntry) (timer : Timer) (t : Toll) : Toll :=
  { t with
    resendTimer := if out = [] then none else timer
    store := t.store.map fun e =>
      if e ∈ out then { e with sendCount := min 255 (e.sendCount + 1) } else { e with sent := false } }

section
variable {t : Toll} {out : List TollEntry} (hnodup : (t.store.map fun e => e.sequence).Nodup)
  (hout : out.Sublist (t.store.filter fun e => e.sent))
include hnodup hout

theorem Toll.resent_store :
    t.store.map (TollEntry.resent out (t.store.filter fun e => e.sent)) =
      t.store.map fun e =>
        if e ∈ out then { e with sendCount := min 255 (e.sendCount + 1) } else { e with sent := false } := by
  refine List.map_congr_left fun x hx => ?_
  have hmem {es : List TollEntry} (hes : es ⊆ t.store) : x.sequence ∈ es.map (·.sequence) ↔ x ∈ es := by
    refine ⟨fun h => ?_, fun h => List.mem_map_of_mem h⟩
    obtain ⟨y, hy, hsame⟩ := List.mem_map.1 h
    exact List.inj_on_of_nodup_map hnodup (hes hy) hx hsame ▸ hy
  have hsub : out ⊆ t.store := fun y hy => List.mem_of_mem_filter (hout.subset hy)
  rw [TollEntry.resent]
  simp only [hmem hsub, hmem List.filter_sublist.subset, List.mem_filter, hx, true_and]
  by_cases ho : x ∈ out
  · have hsent : x.sent = true := (List.mem_filter.1 (hout.subset ho)).2
    rw [if_pos ho, if_pos ho, TollEntry.nowSent]
    simp only [hsent]
  · rw [if_neg ho, if_neg ho]
    split
    · rfl
    next hs =>
      have hunsent : x.sent = false := by simpa using hs
      simp only [← hunsent]

omit hnodup in
/-- An entry is SENT after the resend exactly where one went out. -/
theorem Toll.resent_sent (timer : Timer) : (∃ e ∈ (t.resent out timer).store, e.sent = true) ↔ out ≠ [] := by
  have hsub : out ⊆ t.store := fun y hy => List.mem_of_mem_filter (hout.subset hy)
  constructor
  · rintro ⟨e, he, hsent⟩ rfl
    obtain ⟨x, -, rfl⟩ := List.mem_map.1 he
    simp at hsent
  · intro hne
    obtain ⟨x, hx⟩ := List.exists_mem_of_ne_nil out hne
    have hsent : x.sent = true := (List.mem_filter.1 (hout.subset hx)).2
    refine ⟨_, List.mem_map_of_mem (hsub hx), ?_⟩
    rw [if_pos hx]
    exact hsent

end

/-- A resend at a busy port, with the timer stopped where no entry is left SENT. -/
theorem State.resends_stopped {d : Side} {sink : Nat} {s : State} {out : List TollEntry}
    (hnodup : (s.toll.store.map fun e => e.sequence).Nodup) (hout : out.Sublist (s.toll.store.filter fun e => e.sent)) :
    (s.resends d sink out (s.toll.store.filter fun e => e.sent)).stopIfNoneSent =
      { s with
        toll := s.toll.resent out (some (s.now + 2000))
        ports := s.ports.set d
          { s.ports.get d with queues := { (s.ports.get d).queues with
            bl := (s.ports.get d).queues.bl ++ out.map (s.tollFrame sink) } } } := by
  have hstore := Toll.resent_store hnodup hout
  have hsent := Toll.resent_sent hout (some (s.now + 2000))
  have hcount : (s.resends d sink out (s.toll.store.filter fun e => e.sent)).toll.sentCount = 0 ↔ out = [] := by
    rw [Toll.sentCount_eq_zero_iff]
    change (¬∃ e ∈ s.toll.store.map (TollEntry.resent out (s.toll.store.filter fun e => e.sent)), e.sent = true) ↔ _
    rw [hstore]
    exact (not_congr hsent).trans not_not
  unfold State.stopIfNoneSent
  by_cases hnone : out = []
  · rw [if_pos (hcount.2 hnone)]
    simp only [State.resends, State.modToll, hstore, Toll.resent, if_pos hnone]
  · rw [if_neg (mt hcount.1 hnone)]
    simp only [State.resends, hstore, Toll.resent, if_neg hnone]

/-! ### The resend timer expires -/

section
variable {s : State} {due : Nat} {d : Side} {sink : Nat} (hreset : s.resetHeld = false) (hdue : s.toll.resendTimer = some due)
  (hsink : s.toll.sink = .via d sink) (hnodup : (s.toll.store.map fun e => e.sequence).Nodup)
include hreset hdue hsink

theorem exec_resendTimerExpiry :
    exec .resendTimerExpiry s =
      .next ((resendGo d sink (s.toll.store.filter fun e => e.sent) (s.clockTo due)).1.stopIfNoneSent.settle
        (resendGo d sink (s.toll.store.filter fun e => e.sent) (s.clockTo due)).2) := by
  change execResendTimerExpiry s = _
  rw [execResendTimerExpiry, hdue, State.onTimer_running due _ s hreset, State.resendEnds]
  simp only [State.clockTo_toll, hsink]

include hnodup

/-- At a busy port the oldest go out while the BL has room. -/
theorem exec_resend_busy (hup : (s.ports.get d).isUp = true) (hbusy : (s.ports.get d).sending.isSome = true) :
    let x := s.ports.get d
    let out := (s.toll.store.filter fun e => e.sent).take (16 - x.queues.bl.length)
    exec .resendTimerExpiry s =
      .next { s with
        now := max s.now due, toll := s.toll.resent out (some (max s.now due + 2000))
        ports := s.ports.set d { x with queues := { x.queues with bl := x.queues.bl ++ out.map (s.tollFrame sink) } } } := by
  have hsent : ((s.toll.store.filter fun e => e.sent).map (·.sequence)).Nodup :=
    (List.filter_sublist.map _).nodup hnodup
  rw [exec_resendTimerExpiry hreset hdue hsink, resendGo_busy (s := s.clockTo due) hup hbusy hsent]
  simp only [State.settle_nil]
  exact congrArg Host.Outcome.next (State.resends_stopped (s := s.clockTo due) hnodup (List.take_sublist _ _))

/-- At a port that is not in use every SENT entry returns to QUEUED. -/
theorem exec_resend_down (hdown : (s.ports.get d).isUp = false) :
    exec .resendTimerExpiry s =
      .next { s with
        now := max s.now due
        toll := { s.toll with resendTimer := none, store := s.toll.store.map fun e => { e with sent := false } } } := by
  have hstopped := State.resends_stopped (s := s.clockTo due) (d := d) (sink := sink) hnodup (List.nil_sublist _)
  rw [exec_resendTimerExpiry hreset hdue hsink, resendGo_refused (s := s.clockTo due) (.inl hdown)]
  simp only [State.settle_nil]
  refine congrArg Host.Outcome.next (hstopped.trans ?_)
  simp only [Toll.resent, if_true, List.not_mem_nil, if_false, List.map_nil, List.append_nil]
  cases d <;> rfl

end

/-! ### A resend at an IDLE transmitter (R41, R173) -/

/-- After a take from the BL at the sink's port, with nothing deferred, sending is tried. -/
theorem State.settle_bl_take {u : State} {d : Side} {sink : Nat} (hdeferred : u.deferred = []) (hsink : u.toll.sink = .via d sink)
    (hnodup : (u.toll.store.map fun e => e.sequence).Nodup) (hup : (u.ports.get d).isUp = true)
    (hbusy : (u.ports.get d).sending.isSome = true) : u.settle [(d, .bl)] = u.tollTry := by
  have hon : u.sinkOn d = true := by simp [State.sinkOn, hsink]
  have htakes := State.tollTryTakes_busy hsink hnodup hup hbusy
  have htake : u.onTake (d, .bl) = (u.tollTryTakes.1, []) := by
    simp only [State.onTake, State.reoffer_none .bulk hdeferred, hon, if_true, htakes, List.append_nil]
  simp only [State.settle, settleGo, htake, List.append_nil, State.tollTry, htakes]

section
variable {d : Side} {sink : Nat} {s : State} {first : TollEntry} {rest : List TollEntry}
  (hnodup : (s.toll.store.map fun e => e.sequence).Nodup) (hsent : (s.toll.store.filter fun e => e.sent) = first :: rest)
  (hup : (s.ports.get d).isUp = true) (hidle : (s.ports.get d).sending = none)
  (hempty : (s.ports.get d).queues = emptyQueues) (hlength : (first :: rest).length ≤ 8)

/-- The state after all SENT entries went out at an IDLE transmitter, which took the first at once. -/
def State.resendsIdle (d : Side) (sink : Nat) (first : TollEntry) (rest : List TollEntry) (s : State) : State :=
  { s with
    toll := s.toll.resent (first :: rest) (some (s.now + 2000))
    ports := s.ports.set d
      { s.ports.get d with
        sending := some (s.tollFrame sink first), waitBL := 0
        queues := { (s.ports.get d).queues with bl := rest.map (s.tollFrame sink) } } }

include hnodup hsent hup hidle hempty hlength

theorem resendGo_idle :
    (resendGo d sink (first :: rest) s).1 = s.resendsIdle d sink first rest ∧ (resendGo d sink (first :: rest) s).2 = [(d, .bl)] := by
  have hoffer := State.offerToll_of_offer (e := first) hup
    (Port.offer_idle (f := s.tollFrame sink first) .bl hidle hempty (.inl hup))
  have hafter : (s.ports.get d).afterOffer .bl (s.tollFrame sink first) =
      { s.ports.get d with sending := some (s.tollFrame sink first), waitBL := 0 } := by
    simp [Port.afterOffer, hidle]
  generalize (s.ports.get d).afterOffer .bl (s.tollFrame sink first) = y at hoffer hafter
  have hport : (s.tollGone d y first).ports.get d = y := PerSide.get_set_same ..
  have hsequences : ((first :: rest).map (·.sequence)).Nodup := hsent ▸ (List.filter_sublist.map _).nodup hnodup
  rw [List.map_cons, List.nodup_cons] at hsequences
  have hrest := resendGo_busy (sink := sink) (s := s.tollGone d y first) (by rw [hport, hafter]; exact hup)
    (by rw [hport, hafter]; rfl) hsequences.2
  have hroom : 16 - y.queues.bl.length = 16 := by rw [hafter]; simp [hempty, emptyQueues]
  rw [List.length_cons] at hlength
  rw [hport, hroom, List.take_of_length_le (by omega)] at hrest
  have hstore := State.resends_cons_store (s := s) (d := d) (List.Subset.refl rest) hsequences.1 y
  have hresent := Toll.resent_store (out := first :: rest) hnodup (by rw [hsent])
  rw [hsent] at hresent
  have hframes : rest.map (State.tollFrame sink · (s.tollGone d y first)) = rest.map (s.tollFrame sink) :=
    List.map_congr_left fun x _ => State.tollFrame_of_gone x
  rw [resendGo]
  simp only [hoffer, if_true, hrest, takesOf, List.append_nil, and_true]
  unfold State.resends
  rw [hstore, hresent, hport, hframes, hafter, State.resendsIdle]
  simp only [State.tollGone, PerSide.set_set, hempty, emptyQueues, List.nil_append, Toll.modEntry, Toll.resent, ite_self,
    reduceCtorEq, if_false]

/-- Then sending is tried. -/
theorem State.resend_idle (hdeferred : s.deferred = []) (hsink : s.toll.sink = .via d sink) :
    (resendGo d sink (first :: rest) s).1.stopIfNoneSent.settle (resendGo d sink (first :: rest) s).2 =
      (s.resendsIdle d sink first rest).tollTry := by
  obtain ⟨hstate, htakes⟩ := resendGo_idle (sink := sink) hnodup hsent hup hidle hempty hlength
  rw [hstate, htakes]
  have hstill : (s.resendsIdle d sink first rest).stopIfNoneSent = s.resendsIdle d sink first rest := by
    unfold State.stopIfNoneSent
    rw [if_neg]
    rw [Toll.sentCount_eq_zero_iff, not_not]
    exact (Toll.resent_sent (t := s.toll) (by rw [hsent]) _).2 (by simp)
  rw [hstill]
  have hport : (s.resendsIdle d sink first rest).ports.get d = _ := PerSide.get_set_same ..
  refine State.settle_bl_take (sink := sink) hdeferred hsink ?_ (by rw [hport]; exact hup) (by rw [hport]; rfl)
  simp only [State.resendsIdle, Toll.resent, List.map_map]
  convert hnodup using 2
  refine funext fun x => ?_
  simp only [Function.comp]
  split <;> rfl

end

/-! ### The statement -/

/-- The resend timer's expiry, by the state of the sink's port (R173). -/
theorem resendTimerExpires (s : State) (due : Nat) (d : Side) (sink : Nat) (hreset : s.resetHeld = false)
    (hdue : s.toll.resendTimer = some due) (hsink : s.toll.sink = .via d sink)
    (hnodup : (s.toll.store.map fun e => e.sequence).Nodup) :
    let now' := max s.now due
    let sent := s.toll.store.filter fun e => e.sent
    let x := s.ports.get d
    (x.isUp = true → x.sending.isSome = true → sent ≠ [] → x.queues.bl.length + sent.length ≤ 16 →
      exec .resendTimerExpiry s =
        .next { s with
          now := now'
          ports := s.ports.set d { x with queues := x.queues.set .bl (x.queues.bl ++ sent.map (s.tollFrame sink)) }
          toll :=
            { s.toll with
              resendTimer := some (now' + 2000)
              store := s.toll.store.map fun e =>
                if e.sent then { e with sendCount := min 255 (e.sendCount + 1) } else e } }) ∧
    (x.isUp = true → x.sending = none → x.queues = emptyQueues → s.deferred = [] → sent.length ≤ 8 →
      ∀ first rest, sent = first :: rest → ∃ t, exec .resendTimerExpiry s = .next t ∧
        ({ s with
           now := now', toll := s.toll.resent sent (some (now' + 2000))
           ports := s.ports.set d
             { x with
               sending := some (s.tollFrame sink first), waitBL := 0
               queues := { x.queues with bl := rest.map (s.tollFrame sink) } } } : State).TollTried t) := by
  intro now' sent x
  refine ⟨fun hup hbusy hne hroom => ?_, fun hup hidle hempty hdeferred hlength first rest hfirst => ?_⟩
  · have hroom' : (s.ports.get d).queues.bl.length + (s.toll.store.filter fun e => e.sent).length ≤ 16 := hroom
    rw [exec_resend_busy hreset hdue hsink hnodup hup hbusy, List.take_of_length_le (by omega)]
    have hstore : (s.toll.store.map fun e =>
        if e ∈ sent then { e with sendCount := min 255 (e.sendCount + 1) } else { e with sent := false }) =
        s.toll.store.map fun e => if e.sent then { e with sendCount := min 255 (e.sendCount + 1) } else e := by
      refine List.map_congr_left fun e he => ?_
      cases hs : e.sent with
      | false =>
        rw [if_neg (by simp [sent, hs]), if_neg (by decide)]
        exact congrArg (fun b => { e with sent := b }) hs.symm
      | true => rw [if_pos (by simp [sent, he, hs]), if_pos rfl]
    simp only [Toll.resent, sent, if_neg hne]
    rw [hstore]
    rfl
  · have hidle := State.resend_idle (s := s.clockTo due) (sink := sink) hnodup hfirst hup hidle hempty (hfirst ▸ hlength) hdeferred hsink
    have hexec := exec_resendTimerExpiry hreset hdue hsink
    rw [show (s.toll.store.filter fun e => e.sent) = first :: rest from hfirst, hidle] at hexec
    refine ⟨_, hexec, ?_⟩
    rw [hfirst]
    exact State.tollTry_tried ((s.clockTo due).resendsIdle d sink first rest)

/-- Settles O44. -/
theorem tollEntriesAreAckedResentAndFetched : Obligations.TollEntriesAreAckedResentAndFetched := by
  refine ⟨fun p bytes f n s h hj ht hp => ?_, fun s due d sink hreset hdue hsink hnodup => ?_, deliveriesFetched⟩
  · intro u named left timer
    have hexec : exec (.lineFrameArrives p bytes) s = .next (u.takeTollAck n) := h.exec_tollAck hj ht hp
    have hconfig : u.config = s.config := s.reached_config p f
    have hcounts : u.counts = s.counts := State.reached_counts p f s
    have hnow : u.now = s.now := s.reached_now p f
    clear_value u
    have hack : u.toll.acknowledges n = true ↔ named := Toll.acknowledges_iff n u.toll
    have hacted (hrole : s.config.sink = false) (hnamed : named) :
        exec (.lineFrameArrives p bytes) s = .next (u.acked n).tollTry := by
      rw [hexec, State.takeTollAck_acted (by rw [hconfig]; exact hrole) (hack.2 hnamed)]
    have htoll (more : List TollEntry) : u.ackedToll n more =
        { u.toll with
          store := left ++ more, counter := u.toll.counter + BitVec.ofNat 16 more.length, fresh := false
          resendTimer := timer left } := by
      rw [State.ackedToll, hnow]
      rfl
    have hplain (h : (∀ e ∈ u.toll.store, atOrBefore e.sequence n = true → e.content.isReport = false) ∨ s.counts.held = none) :
        u.acked n = { u with toll := u.ackedToll n [] } := State.acked_of_plain (by rw [hcounts]; exact h)
    have hreport {r : Report} (hheld : s.counts.held = some r)
        (h : ∃ e ∈ u.toll.store, atOrBefore e.sequence n = true ∧ e.content.isReport = true) :
        u.acked n =
          { u with
            toll := u.ackedToll n [⟨u.toll.counter, false, 0, .report r⟩], counts := { s.counts with held := none } } := by
      rw [State.acked_of_report (by rw [hcounts]; exact hheld) h, hcounts]
    refine ⟨fun hignored => ?_, fun hrole hnamed => ?_, fun hrole hnamed hnone => ?_, fun hrole hnamed => ?_⟩
    · rw [hexec, State.takeTollAck_ignored]
      rw [hconfig]
      exact hignored.imp_right (mt hack.1)
    · intro acked
      refine ⟨_, hacted hrole hnamed, fun h => ?_, fun r hheld h => ?_⟩
      · have htried := (u.acked n).tollTry_tried
        rw [hplain h, htoll] at htried ⊢
        exact htried
      · have htried := (u.acked n).tollTry_tried
        rw [hreport hheld h, htoll] at htried ⊢
        exact htried
    · have hstops (hs : (u.acked n).toll.sink = u.toll.sink) : (u.acked n).tollTry = u.acked n :=
        State.tollTry_stops (.inl fun d sink h => by cases hnone.symm.trans (hs.symm.trans h))
      refine ⟨fun h => ?_, fun r hheld h => ?_⟩
      · rw [hacted hrole hnamed, hstops (by rw [hplain h]; rfl), hplain h, htoll]
        simp only [List.append_nil, List.length_nil, BitVec.add_zero]
      · rw [hacted hrole hnamed, hstops (by rw [hreport hheld h]; rfl), hreport hheld h, htoll]
        rfl
    · have hentries (v : State) (more : List TollEntry) (hv : v.toll = u.ackedToll n more)
          (hmore : ∀ x ∈ more, x.sequence = u.toll.counter) : v.tollTry.toll.fresh = false ∧
          ∀ e ∈ v.tollTry.toll.store, ∃ x, (x ∈ left ∨ x.sequence = u.toll.counter) ∧ e.sequence = x.sequence := by
        obtain ⟨hsequences, hfresh⟩ := (sendKept_hasEntries (v.toll.store.map fun e => e.sequence) v.toll.fresh).tollTry
          (s := v) ⟨rfl, rfl⟩
        refine ⟨by rw [hfresh, hv]; rfl, fun e he => ?_⟩
        have hmem := List.mem_map_of_mem (f := fun e : TollEntry => e.sequence) he
        rw [hsequences, hv] at hmem
        obtain ⟨x, hx, hsame⟩ := List.mem_map.1 hmem
        exact ⟨x, (List.mem_append.1 hx).imp id (hmore x), hsame.symm⟩
      refine ⟨_, hacted hrole hnamed, ?_⟩
      by_cases h : (∀ e ∈ u.toll.store, atOrBefore e.sequence n = true → e.content.isReport = false) ∨ s.counts.held = none
      · exact hentries _ [] (by rw [hplain h]) (by simp)
      · obtain ⟨hsome, hheld⟩ := not_or.1 h
        obtain ⟨r, hr⟩ := Option.ne_none_iff_exists'.1 hheld
        exact hentries _ [⟨u.toll.counter, false, 0, .report r⟩] (by rw [hreport hr (by simpa using hsome)]) (by simp)
  · intro now' sent frame
    obtain ⟨hbusy, hidle⟩ := resendTimerExpires s due d sink hreset hdue hsink hnodup
    refine ⟨hbusy, ?_, exec_resend_down hreset hdue hsink hnodup⟩
    intro x resent
    exact ⟨exec_resend_busy hreset hdue hsink hnodup, hidle⟩

end Sys2Proof.Machine
end

section
/-! The read commands (R27, R28, R62, R84 to R86, R111, R117, R140, R161, R162, R182, R193, R201): each answers from the state,
and the few that clear a flag or a mark clear their own. -/
namespace Sys2Proof.Machine
open Sys2Proof

/-! ### Commands that are accepted -/

/-- A command that is accepted in both states by every role runs its body. -/
theorem next_inBoth {c : Command} {args : List Word} {s : State} (h : s.resetHeld = false)
    (hstate : ∀ joined, c.acceptedIn joined = true) (hrole : c.roleHeld s.config = true)
    (hcount : c.takesCount args.length = true) (body : State → ResponseCode × Answer × State) :
    (Host.Outcome.next (s.command c args body) : Result) =
      .next ((body s).2.2.answered c (body s).1 (body s).2.1) :=
  congrArg Host.Outcome.next (State.Accepts.command_eq ⟨h, hstate s.joined, hrole, hcount⟩ body)

/-- A command of JOINED runs its body there. -/
theorem next_inJoined {c : Command} {args : List Word} {s : State} (h : s.resetHeld = false) (hj : s.joined = true)
    (hstate : c.acceptedIn true = true) (hrole : c.roleHeld s.config = true) (hcount : c.takesCount args.length = true)
    (body : State → ResponseCode × Answer × State) :
    (Host.Outcome.next (s.command c args body) : Result) =
      .next ((body s).2.2.answered c (body s).1 (body s).2.1) :=
  congrArg Host.Outcome.next (State.Accepts.command_eq ⟨h, hj ▸ hstate, hrole, hcount⟩ body)

/-! ### The fitted ports and lanes -/

theorem State.fittedBoxes_length (s : State) : s.fittedBoxes.length = min 4 s.config.boxes := by
  unfold State.fittedBoxes
  generalize s.config.boxes = n
  match n with
  | 0 | 1 | 2 | 3 => rfl
  | n + 4 => rw [List.filter_eq_self.2 fun b _ => decide_eq_true (by omega)]; simp [boxIndices]

theorem State.fittedBoxes_getElem {s : State} {b : Fin 4} (h : b.val < s.config.boxes) : s.fittedBoxes[b.val]? = some b := by
  unfold State.fittedBoxes
  generalize s.config.boxes = n at h ⊢
  match n with
  | 1 | 2 | 3 => revert b; decide
  | n + 4 =>
    rw [List.filter_eq_self.2 fun b _ => decide_eq_true (by omega)]
    clear h
    revert b
    decide

theorem State.fittedLanes_length (s : State) : s.fittedLanes.length = min 2 s.config.lanes := by
  unfold State.fittedLanes State.laneFitted
  generalize s.config.lanes = n
  match n with
  | 0 | 1 => rfl
  | n + 2 => rw [List.filter_eq_self.2 fun b _ => decide_eq_true (by omega)]; simp [laneIndices]

theorem State.fittedLanes_getElem {s : State} {l : Fin 2} (h : l.val < s.config.lanes) : s.fittedLanes[l.val]? = some l := by
  unfold State.fittedLanes State.laneFitted
  generalize s.config.lanes = n at h ⊢
  match n with
  | 1 => revert l; decide
  | n + 2 =>
    rw [List.filter_eq_self.2 fun b _ => decide_eq_true (by omega)]
    clear h
    revert l
    decide

/-! ### Reports -/

theorem circuitIndices_getElem (c : Fin 16) : circuitIndices[c.val]? = some c := by
  rw [circuitIndices_eq]
  simp

theorem parseFin_of_le {n w : Nat} (h : n ≤ w) : parseFin n w = none := dif_neg (by omega)

theorem IncidentSide.isAhead_iff (x : IncidentSide) (f : Face) : x.isAhead f = true ↔ x = .own ∨ x = .ahead f := by
  cases x <;> simp [IncidentSide.isAhead]

theorem Toll.queued_eq (t : Toll) : t.store.length - t.sentCount = (t.store.filter fun e => !e.sent).length := by
  have h := List.length_eq_length_filter_add (l := t.store) fun e => e.sent
  simp only [Toll.sentCount]
  omega

theorem reportIn_of_none {es : List TollEntry} (h : ∀ e ∈ es, e.content.isReport = false) : reportIn es = none := by
  cases hes : reportIn es with
  | none => rfl
  | some x =>
    obtain ⟨hmem, hcontent⟩ := reportIn_some hes
    have hnot := h _ hmem
    rw [hcontent] at hnot
    cases hnot

theorem reportIn_eq_none_iff {es : List TollEntry} :
    reportIn es = none ↔ ∀ e ∈ es, e.content.isReport = false := ⟨reportIn_none, reportIn_of_none⟩

theorem State.sinkReport_none {s : State} (h : s.toll.sink = .none) : s.sinkReport = .none := by
  rw [State.sinkReport, h]

theorem State.sinkReport_own {s : State} (h : s.toll.sink = .own) : s.sinkReport = .own := by
  rw [State.sinkReport, h]

theorem State.sinkReport_via {s : State} {d : Side} {station : Nat} (h : s.toll.sink = .via d station) :
    ∃ hops, s.sinkReport = .via d station hops ∧
      ∀ e, (s.reach.get d).sink = some e → e.station = station → hops = some e.hops :=
  ⟨_, by rw [State.sinkReport, h], fun e he hstation => by simp [he, hstation]⟩

theorem reportIn_first {before after : List TollEntry} {e : TollEntry} {r : Report}
    (h : ∀ x ∈ before, x.content.isReport = false) (he : e.content = .report r) :
    reportIn (before ++ e :: after) = some (e, r) := by
  induction before with
  | nil =>
    rw [List.nil_append]
    unfold reportIn
    rw [he]
  | cons x xs ih =>
    have hx := h x (by simp)
    rw [List.cons_append]
    unfold reportIn
    cases hc : x.content with
    | report _ => rw [hc] at hx; cases hx
    | record _ => exact ih fun y hy => h y (by simp [hy])

theorem State.signReport_eq (f : Face) (s : State) :
    s.signReport f =
      let u := s.faces.get f
      if s.config.fitted f then
        some
          { dark := u.dark, faulted := u.faulted, lit := !u.dark && !u.faulted
            roundel := if u.dark ∨ (s.speed.faces.get f).d = (s.config.vmax : Int) then none
              else some (s.speed.faces.get f).d
            shown := u.selector.shown.map fun i => (i, s.itemPriority i)
            rotation := u.selector.rotation, top := u.selector.top
            dwellTenths := min 30 (s.timeLeft u.selector.dwellTimer / 100)
            flashed := u.selector.shown.elim .none fun i => s.itemFlash i
            phaseOn := u.selector.flashOn, lastImage := u.image.map fun i => i.sequence, awaited := u.awaited.length
            missing := u.missing, lastAnswer := u.lastAnswer }
      else none := by
  unfold State.signReport State.lit State.roundel
  by_cases hfitted : s.config.fitted f = true
  · simp only [hfitted, if_true, Bool.true_and, ite_or]
  · simp [hfitted]

/-! ### What the commands answer -/

theorem exec_readMap {s : State} (h : s.resetHeld = false) (w : Word) :
    (1 ≤ w.toNat → w.toNat ≤ 63 → ∃ entries : List MapReport,
      exec (.readMap [w]) s = .next { s with response := ⟨.ok, .readMap, .map entries⟩ } ∧
      entries =
        ((s.map.filter fun e => w.toNat ≤ e.station).take 31).map fun e =>
          ⟨e.station, e.port, e.distance, min 99 ((s.now - e.heardAt) / 100)⟩) ∧
    (w.toNat = 0 ∨ 63 < w.toNat →
      exec (.readMap [w]) s = .next { s with response := ⟨.badArgument, .readMap, .none⟩ }) := by
  have hrun : exec (.readMap [w]) s = _ := next_inBoth h (fun _ => rfl) rfl rfl (readMapBody [w])
  rw [hrun, readMapBody]
  refine ⟨fun hlow hhigh => ⟨_, ?_, rfl⟩, fun hout => ?_⟩
  · rw [if_pos ((isStation_iff _).2 ⟨hlow, hhigh⟩)]
    rfl
  · rw [if_neg (by rw [isStation_iff]; omega)]
    rfl

theorem exec_readPage {s : State} (h : s.resetHeld = false) (hj : s.joined = true) (w : Word) :
    (∀ n : Fin 32, w.toNat = n.val →
      exec (.readPage [w]) s =
        .next { s with
          response :=
            ⟨.ok, .readPage,
              .page ⟨s.pages[n].mark, s.pages[n].content.map fun c => (c.page, c.publisher, c.remaining)⟩⟩ }) ∧
    (32 ≤ w.toNat → exec (.readPage [w]) s = .next { s with response := ⟨.badArgument, .readPage, .none⟩ }) := by
  have hrun : exec (.readPage [w]) s = _ := next_inJoined h hj rfl rfl rfl (readPageBody [w])
  rw [hrun, readPageBody]
  refine ⟨fun n hn => ?_, fun hwide => ?_⟩
  · rw [parseFin_of_toNat hn]
    rfl
  · rw [parseFin_of_le hwide]
    rfl

theorem exec_readTollStore {s : State} (h : s.resetHeld = false) (hj : s.joined = true) (w : Word) :
    (w.toNat ≤ 63 →
      exec (.readTollStore [w]) s =
        .next { s with response := ⟨.ok, .readTollStore, .tollStore (s.tollReport w.toNat)⟩ }) ∧
    (64 ≤ w.toNat →
      exec (.readTollStore [w]) s = .next { s with response := ⟨.badArgument, .readTollStore, .none⟩ }) := by
  have hrun : exec (.readTollStore [w]) s = _ := next_inJoined h hj rfl rfl rfl (readTollStoreBody [w])
  rw [hrun, readTollStoreBody]
  refine ⟨fun hstation => ?_, fun hwide => ?_⟩
  · rw [if_pos hstation]
    rfl
  · rw [if_neg (by omega)]
    rfl

/-- Settles O51: every read command runs its body on the state (`next_inBoth`, `next_inJoined`), and what it answers is read
off its report. -/
theorem readCommandsAnswerFromTheState : Obligations.ReadCommandsAnswerFromTheState := by
  refine ⟨fun s h => ?_, fun s h hj => ?_⟩
  · intro tenths seconds left
    refine ⟨next_inBoth (c := .fetch) h (fun _ => rfl) rfl rfl _,
      ⟨next_inBoth (c := .readFaults) h (fun _ => rfl) rfl rfl _, _, rfl, latchedWord_getLsbD _, latchedWord_toNat_le _⟩,
      next_inBoth (c := .readLine) h (fun _ => rfl) rfl rfl _, exec_readMap h, fun hj => ⟨?_, ?_, fun hanswering => ?_⟩⟩
    · refine ⟨_, _, next_inJoined (c := .readCircuits) h hj rfl rfl rfl _, by simp [circuitIndices_eq],
        by rw [List.length_map, s.fittedBoxes_length], fun c => ?_, fun b hb => ?_⟩
      · rw [List.getElem?_map, circuitIndices_getElem, Option.map_some]
        refine congrArg some ?_
        unfold State.circuitReport
        cases s.circuits[c] <;> rfl
      · rw [List.getElem?_map, State.fittedBoxes_getElem hb]
        rfl
    · refine ⟨_, _, next_inJoined (c := .readCalls) h hj rfl rfl rfl _, by rw [List.length_map, s.fittedBoxes_length],
        by rw [List.length_map, s.fittedLanes_length], fun b hb => ?_, fun l hl => ?_⟩
      · rw [List.getElem?_map, State.fittedBoxes_getElem hb]
        rfl
      · rw [List.getElem?_map, State.fittedLanes_getElem hl]
        rfl
    · exact next_inJoined (c := .readOffers) h hj rfl hanswering rfl _
  · intro left reading warned speedOf signOf
    have hreading (k : ReadingKind) : s.readingReport k = reading (readingCode k) := by
      simp only [reading, State.readingReport, State.reading]
      cases (s.readings.kinds[readingCode k]).submittedAt <;> rfl
    have hspeed (f : Face) : s.faceSpeedReport f = speedOf f := by
      simp only [speedOf, State.faceSpeedReport, State.advertNow]
      cases (s.speed.faces.get f).advert <;> rfl
    have hsign (f : Face) : s.signReport f = signOf f := by
      rw [State.signReport_eq]
      simp only [signOf]
      cases (s.faces.get f).selector.shown <;> rfl
    refine ⟨⟨⟨nearestAhead .east s.incidents.table, nearestAhead .west s.incidents.table⟩,
        next_inJoined (c := .readIncidents) h hj rfl rfl rfl _, fun f => ?_⟩, ?_, ?_, exec_readPage h hj, ?_, fun w => ?_, ?_⟩
    · have hget : (PerSide.mk (nearestAhead .east s.incidents.table) (nearestAhead .west s.incidents.table)).get f =
          nearestAhead f s.incidents.table := by cases f <;> rfl
      rw [hget]
      refine ⟨nearestAhead_eq_none_iff.trans (forall₂_congr fun e _ => ?_), fun d hd => ?_⟩
      · rw [← not_or, ← IncidentSide.isAhead_iff, Bool.not_eq_true]
      · simpa only [IncidentSide.isAhead_iff] using nearestAhead_eq_some_iff.1 hd
    · refine (next_inJoined (c := .readReadings) h hj rfl rfl rfl _).trans ?_
      simp only [hreading, List.map_cons, List.map_nil] <;> rfl
    · refine (next_inJoined (c := .readSpeed) h hj rfl rfl rfl _).trans ?_
      simp only [hspeed] <;> rfl
    · refine (next_inJoined (c := .readSign) h hj rfl rfl rfl _).trans ?_
      simp only [hsign] <;> rfl
    · refine ⟨fun hstation => ⟨s.tollReport w.toNat, (exec_readTollStore h hj w).1 hstation, rfl, rfl, ?_, rfl,
        s.toll.queued_eq, rfl, fun hsink => ?_, fun hsink => ?_, fun d station hsink => ?_, rfl, rfl, rfl,
        fun hsink => if_neg (by rw [hsink]; decide), fun hsink => if_pos hsink⟩, (exec_readTollStore h hj w).2⟩
      · exact (Option.map_eq_none_iff).trans reportIn_eq_none_iff
      · exact State.sinkReport_none hsink
      · exact State.sinkReport_own hsink
      · exact State.sinkReport_via hsink
    · refine ⟨_, next_inJoined (c := .readCounters) h hj rfl rfl rfl _, fun hnone => ?_,
        fun before after e r hstore hbefore he => ?_⟩
      · rw [reportIn_of_none hnone]
        rfl
      · rw [hstore, reportIn_first hbefore he]
        rfl

end Sys2Proof.Machine
end

section
/-! Cabinet frames (R195, R196): the tests of a frame, and the encoder read back. -/
namespace Sys2Proof.Machine
open Sys2Proof

/-! ### Words and their bytes -/

@[simp] theorem hiByte_wordOf (a b : Byte) : hiByte (wordOf a b) = a := (List.cons.inj (wordBytes_wordOf a b)).1

@[simp] theorem loByte_wordOf (a b : Byte) : loByte (wordOf a b) = b :=
  (List.cons.inj (List.cons.inj (wordBytes_wordOf a b)).2).1

theorem toNat_wordOf (a b : Byte) : (wordOf a b).toNat = 256 * a.toNat + b.toNat := by
  have h : (wordOf a b).toNat = a.toNat <<< 8 ||| b.toNat := BitVec.toNat_append a b
  rw [h, ← Nat.shiftLeft_add_eq_or_of_lt b.isLt, Nat.shiftLeft_eq]
  omega

theorem toNat_hiByte (w : Word) : (hiByte w).toNat = w.toNat / 256 := by
  rw [hiByte, BitVec.extractLsb'_toNat, Nat.shiftRight_eq_div_pow]
  omega

theorem toNat_loByte (w : Word) : (loByte w).toNat = w.toNat % 256 := by
  rw [loByte, BitVec.extractLsb'_toNat]
  rfl

@[simp] theorem wordOf_hiByte_loByte (w : Word) : wordOf (hiByte w) (loByte w) = w :=
  BitVec.eq_of_toNat_eq (by rw [toNat_wordOf, toNat_hiByte, toNat_loByte]; omega)

/-! ### Codes -/

theorem commandOf_code (c : Command) : commandOf c.code = some c := by cases c <;> rfl

theorem code_of_commandOf {n : Nat} {c : Command} (h : commandOf n = some c) : c.code = n :=
  eq_of_beq (List.find?_some (p := fun c : Command => c.code == n) h)

theorem commandOf_eq_none {n : Nat} (h : ∀ c : Command, c.code ≠ n) : commandOf n = none :=
  List.find?_eq_none.2 fun c _ hc => h c (eq_of_beq hc)

/-! ### The tests of R196 -/

theorem frameFault_short {w : Word} {rest : List Word} (h : rest.length < (loByte w).toNat + 1) :
    frameFault (w :: rest) = some .frameShort := by
  simp only [frameFault, List.length_cons]
  rw [if_pos (by omega)]

/-- A frame that is long enough is judged by its check, then by its code. -/
theorem frameFault_full {w : Word} {args : List Word} (h : args.length = (loByte w).toNat) (check : Word)
    (ignored : List Word) :
    frameFault (w :: (args ++ check :: ignored)) =
      if crcWords (w :: args) ≠ check then some .crcFault
      else if (commandOf (hiByte w).toNat).isNone then some .unknownCommand else none := by
  simp only [frameFault, List.length_cons, List.length_append, ← h]
  rw [if_neg (by omega), List.take_succ_cons, List.take_left, List.getD_cons_succ,
    List.getD_append_right _ _ _ _ (Nat.le_refl _), Nat.sub_self, List.getD_cons_zero]

theorem exec_cabinetFrameFault {s : State} (h : s.resetHeld = false) {words : List Word} {code : ResponseCode}
    (hfault : frameFault words = some code) :
    exec (.cabinetFrameFault words) s = .next { s with response := ⟨code, .fetch, .none⟩ } := by
  change execCabinetFrameFault words s = _
  rw [execCabinetFrameFault, State.unlessHeld_running h, hfault]
  rfl

theorem exec_cabinetFrameFault_good {s : State} (h : s.resetHeld = false) {words : List Word}
    (hgood : frameFault words = none) : exec (.cabinetFrameFault words) s = .next s := by
  change execCabinetFrameFault words s = _
  rw [execCabinetFrameFault, State.unlessHeld_running h, hgood]

/-! ### The decoder -/

theorem decodeCabinetFrame_encode {c : Command} {args : List Word} (h : args.length ≤ 255) (extra : List Word) :
    decodeCabinetFrame (encodeCabinetFrame c args ++ extra) = commandRow c args := by
  generalize hw : wordOf (byteOf c.code) (byteOf args.length) = w
  have hlen : args.length = (loByte w).toNat := by rw [← hw, loByte_wordOf, toNat_byteOf (by omega)]
  have hcode : commandOf (hiByte w).toNat = some c := by
    rw [← hw, hiByte_wordOf, toNat_byteOf (c.code_lt.trans (by decide)), commandOf_code]
  have hwords : encodeCabinetFrame c args ++ extra = w :: (args ++ crcWords (w :: args) :: extra) := by
    simp [encodeCabinetFrame, hw]
  have hgood : frameFault (w :: (args ++ crcWords (w :: args) :: extra)) = none := by
    rw [frameFault_full hlen]
    simp [hcode]
  rw [hwords, decodeCabinetFrame, hgood, hcode, ← hlen, List.take_left]
  rfl

/-- A frame that fails no test is one that the encoder made, whatever follows it. -/
theorem encoded_of_frameFault_eq_none {w : Word} {rest : List Word} (h : frameFault (w :: rest) = none) :
    ∃ c args extra, args.length ≤ 255 ∧ w :: rest = encodeCabinetFrame c args ++ extra := by
  have hlong : (loByte w).toNat + 1 ≤ rest.length := by
    by_contra hshort
    rw [frameFault_short (by omega)] at h
    cases h
  obtain ⟨args, tail, rfl, hlen⟩ : ∃ args tail, rest = args ++ tail ∧ args.length = (loByte w).toNat :=
    ⟨_, _, (List.take_append_drop (loByte w).toNat rest).symm, by simp; omega⟩
  obtain ⟨check, ignored, rfl⟩ := List.exists_cons_of_length_pos (l := tail) (by simp at hlong; omega)
  rw [frameFault_full hlen] at h
  split at h
  · cases h
  · rename_i hcheck
    split at h
    · cases h
    · rename_i hknown
      obtain ⟨c, hc⟩ : ∃ c, commandOf (hiByte w).toNat = some c :=
        Option.isSome_iff_exists.1 (by simpa [Option.isSome_iff_ne_none] using hknown)
      refine ⟨c, args, ignored, by omega, ?_⟩
      have hw : wordOf (byteOf c.code) (byteOf args.length) = w := by
        rw [code_of_commandOf hc, hlen, byteOf_toNat, byteOf_toNat, wordOf_hiByte_loByte]
      rw [encodeCabinetFrame, hw, not_not.1 hcheck]
      simp

theorem decodeCabinetFrame_fault {words : List Word} {code : ResponseCode} (h : frameFault words = some code) :
    decodeCabinetFrame words = .cabinetFrameFault words := by
  cases words with
  | nil => rfl
  | cons w rest => rw [decodeCabinetFrame, h]; rfl

/-- Settles O48: the tests of a frame are those of its length, its check and its code (`frameFault_short`, `frameFault_full`),
and what fails none is what the encoder makes (`encoded_of_frameFault_eq_none`). -/
theorem cabinetFramesAreReadOrFault : Obligations.CabinetFramesAreReadOrFault := by
  refine ⟨fun s h => ⟨exec_cabinetFrameFault h rfl, fun w rest => ⟨fun hshort =>
    exec_cabinetFrameFault h (frameFault_short hshort), ?_⟩⟩, fun c args extra hlen =>
    decodeCabinetFrame_encode hlen extra, fun words hother => ?_⟩
  · rintro args ignored check rfl hlen
    have hfault := frameFault_full hlen check ignored
    refine ⟨fun hcheck => ?_, ?_, ?_⟩
    · exact exec_cabinetFrameFault h (hfault.trans (if_pos (Ne.symm hcheck)))
    · rintro rfl hcodes
      rw [if_neg (not_not.2 rfl), commandOf_eq_none hcodes] at hfault
      exact exec_cabinetFrameFault h hfault
    · rintro c rfl hcode
      rw [if_neg (not_not.2 rfl), ← hcode, commandOf_code] at hfault
      exact exec_cabinetFrameFault_good h hfault
  · cases hfault : frameFault words with
    | some code => exact decodeCabinetFrame_fault hfault
    | none =>
      cases words with
      | nil => cases hfault
      | cons w rest =>
        obtain ⟨c, args, extra, hlen, hwords⟩ := encoded_of_frameFault_eq_none hfault
        exact absurd hwords (hother c args extra hlen)

end Sys2Proof.Machine
end

section
/-! The payloads of the line, the circuits and calls and the road state (R24, R47, R67, R68, R71, R89, R105, R109, R115, R136),
read back field by field. -/
namespace Sys2Proof.Machine
open Sys2Proof

/-! ### Fields -/

@[simp] theorem parseBit_bitByte (b : Bool) : parseBit (bitByte b) = some b := by cases b <;> rfl

theorem parseFin_byteOf {n : Nat} (h : n ≤ 256) (i : Fin n) : parseFin n (byteOf i.val).toNat = some i :=
  parseFin_of_toNat (toNat_byteOf (by omega))

@[simp] theorem parseCircuit_circuitByte (c : Fin 16) : parseCircuit (circuitByte c) = some c := by
  rw [parseCircuit, circuitByte, toNat_byteOf (by omega), if_neg (by omega), Nat.add_sub_cancel]
  exact parseFin_of_toNat rfl

/-- The two flags of a byte are its lowest bits. -/
theorem flagsByte_reads (a b : Bool) :
    (byteOf ((if a then 1 else 0) + (if b then 2 else 0))).toNat ≤ 3 ∧
      (byteOf ((if a then 1 else 0) + (if b then 2 else 0))).getLsbD 0 = a ∧
      (byteOf ((if a then 1 else 0) + (if b then 2 else 0))).getLsbD 1 = b := by
  cases a <;> cases b <;> decide

/-- The circuit field of a VOICE frame: the number in the low bits, the direction in bit 7, and bits 5 and 6 zero. -/
theorem circuitField_reads (c : Fin 16) (toward : Bool) :
    let field := circuitByte c ||| (if toward then 0x80 else 0)
    parseCircuit (field &&& 0x1F) = some c ∧ field.getLsbD 7 = toward ∧ field.getLsbD 5 = false ∧
      field.getLsbD 6 = false := by
  revert c toward
  decide

theorem parseRole_reads {r : Option RoleEntry}
    (h : ∀ e ∈ r, 1 ≤ e.station ∧ e.station ≤ 63 ∧ 1 ≤ e.hops ∧ e.hops ≤ 63) :
    ∃ st hops, roleBytes r = [st, hops] ∧ parseRole st hops = some r := by
  cases r with
  | none => exact ⟨0, 0, rfl, rfl⟩
  | some e =>
    obtain ⟨hlow, hhigh, hnear, hfar⟩ := h e rfl
    have hstation : (byteOf e.station).toNat = e.station := toNat_byteOf (by omega)
    have hhops : (byteOf e.hops).toNat = e.hops := toNat_byteOf (by omega)
    have hnone : ¬(byteOf e.station = 0 ∧ byteOf e.hops = 0) := fun h => by
      have := congrArg BitVec.toNat h.1
      rw [hstation] at this
      simp at this
      omega
    refine ⟨_, _, rfl, ?_⟩
    rw [parseRole, if_neg hnone, hstation, hhops, (isStation_iff _).2 ⟨hlow, hhigh⟩, (isStation_iff _).2 ⟨hnear, hfar⟩]
    rfl

theorem parseAdvert_reads {v : Int} (h : IsAdvert v) : parseAdvert (BitVec.ofInt 8 v) = some v := by
  obtain ⟨hlow, hhigh, hten⟩ := h
  obtain ⟨n, rfl⟩ := Int.eq_ofNat_of_zero_le (by omega : 0 ≤ v)
  have hn : (BitVec.ofInt 8 n).toNat = n := by simp; omega
  rw [parseAdvert, hn, if_pos (by omega)]

@[simp] theorem readingKindOf_code (k : ReadingKind) : readingKindOf (byteOf (readingCode k).val).toNat = some k := by
  cases k <;> rfl

/-! ### Payloads -/

variable (more : List Byte)

theorem parseProbe_reads {x : ProbeFields}
    (ha : ∀ r ∈ x.answeringBeyond, 1 ≤ r.station ∧ r.station ≤ 63 ∧ 1 ≤ r.hops ∧ r.hops ≤ 63)
    (hs : ∀ r ∈ x.sinkBeyond, 1 ≤ r.station ∧ r.station ≤ 63 ∧ 1 ≤ r.hops ∧ r.hops ≤ 63) :
    parseProbe (x.payload ++ more) = some x := by
  obtain ⟨a1, a2, hab, har⟩ := parseRole_reads ha
  obtain ⟨s1, s2, hsb, hsr⟩ := parseRole_reads hs
  obtain ⟨hsmall, hbit0, hbit1⟩ := flagsByte_reads x.answering x.sink
  simp only [ProbeFields.payload, hab, hsb, List.cons_append, List.nil_append, parseProbe, parseBit_bitByte, har, hsr,
    Option.bind_eq_bind, Option.bind_some, if_pos hsmall, hbit0, hbit1]

theorem parseVoice_reads {v : Voice} (h : v.samples.length = 160) : parseVoice (v.payload ++ more) = some v := by
  obtain ⟨c, toward, callId, sequence, samples⟩ := v
  obtain ⟨hcircuit, hdirection, hbit5, hbit6⟩ := circuitField_reads c toward
  rw [Voice.payload]
  generalize (circuitByte c ||| if toward = true then 0x80 else 0) = field at hcircuit hdirection hbit5 hbit6 ⊢
  have hlong : 163 ≤ (field :: callId :: sequence :: (samples ++ more)).length := by
    simp only [List.length_append, List.length_cons, h]
    omega
  have hshown : parseVoiceShown (field :: callId :: sequence :: (samples ++ more)) = some (c, toward) := by
    rw [parseVoiceShown, if_pos hlong]
    simp only [byteAt, List.getD_cons_zero, hcircuit, hdirection, Option.map_some]
  change parseVoice (field :: callId :: sequence :: (samples ++ more)) = _
  rw [parseVoice, hshown]
  simp only [byteAt, List.getD_cons_zero, List.getD_cons_succ, hbit5, hbit6, Bool.or_false, Bool.false_eq_true, if_false,
    List.drop_succ_cons, List.drop_zero, List.take_left' h]

theorem parseOffer_reads {o : OfferFields} (hlow : 1 ≤ o.count) (hhigh : o.count ≤ 255) :
    parseOffer (o.payload ++ more) = some o := by
  have hcount : (byteOf o.count).toNat = o.count := toNat_byteOf (by omega)
  simp only [OfferFields.payload, List.cons_append, parseOffer, parseFin_byteOf (by decide : 4 ≤ 256),
    parseCircuit_circuitByte, Option.bind_eq_bind, Option.bind_some, hcount]
  rw [if_neg (by omega)]

theorem parseClear_reads {o : Nat} (hlow : 1 ≤ o) (hhigh : o ≤ 63) (i : Byte) :
    parseClear (clearPayload o i ++ more) = some (o, i) := by
  simp only [clearPayload, List.cons_append, parseClear, toNat_byteOf (by omega : o < 256)]
  rw [if_pos ((isStation_iff o).2 ⟨hlow, hhigh⟩)]

theorem parseReading_reads {k : ReadingKind} {r : PendingReading} (hlow : readingLow k ≤ r.value)
    (hhigh : r.value ≤ readingHigh k) : parseReading (readingPayload k r ++ more) = some (k, r) := by
  have hrange : -400 ≤ readingLow k ∧ readingHigh k ≤ 2000 := by cases k <;> decide
  have hvalue : (BitVec.ofInt 16 r.value).toInt = r.value := by
    rw [BitVec.toInt_ofInt]
    exact Int.bmod_eq_of_le (by omega) (by omega)
  simp only [readingPayload, wordBytes, List.cons_append, List.nil_append, parseReading, readingKindOf_code,
    parseBit_bitByte, wordOf_hiByte_loByte, hvalue, Option.bind_eq_bind, Option.bind_some]
  rw [if_pos ⟨hlow, hhigh⟩]

theorem parseSpeed_reads {x : SpeedFields} (he : IsAdvert x.e) (hw : IsAdvert x.w) :
    parseSpeed (x.payload ++ more) = some x := by
  obtain ⟨hsmall, hbit0, hbit1⟩ := flagsByte_reads x.litE x.litW
  simp only [SpeedFields.payload, List.cons_append, parseSpeed, parseAdvert_reads he, parseAdvert_reads hw,
    Option.bind_eq_bind, Option.bind_some, if_pos hsmall, hbit0, hbit1]

end Sys2Proof.Machine
end

section
/-! The payloads of PAGE and TOLL frames (R144, R171, R192), read back field by field. -/
namespace Sys2Proof.Machine
open Sys2Proof

/-! ### Strings and numbers -/

theorem takeString_reads {max : Nat} (hmax : max ≤ 255) {l : List Byte} (h : l.length ≤ max) (rest : List Byte) :
    takeString max (stringBytes l ++ rest) = some (l, rest) := by
  have hlen : (byteOf l.length).toNat = l.length := toNat_byteOf (by omega)
  rw [stringBytes, List.cons_append, takeString, hlen, if_pos (by simp; omega), List.take_left, List.drop_left]

theorem toNat_nat16 {n : Nat} (h : n ≤ 65535) : (BitVec.ofNat 16 n).toNat = n := by
  rw [BitVec.toNat_ofNat]
  omega

/-! ### Pages (R144) -/

theorem parseScope_reads {x : Scope} (hlow : 1 ≤ x.matchBits) (hhigh : x.matchBits ≤ 63) (hmask : x.mask ≤ 63)
    (hnear : 1 ≤ x.hopLimit) (hfar : x.hopLimit ≤ 63) :
    parseScope (byteOf x.matchBits).toNat (byteOf x.mask).toNat (byteOf x.hopLimit).toNat = some x := by
  rw [toNat_byteOf (by omega), toNat_byteOf (by omega), toNat_byteOf (by omega), parseScope,
    if_pos ⟨hlow, hhigh, hmask, hnear, hfar⟩]

theorem facesOf_reads {e w : Bool} (h : e = true ∨ w = true) : facesOf (byteOf (facesCode e w)).toNat = some (e, w) := by
  cases e <;> cases w
  case false.false => simp at h
  all_goals rfl

theorem flashOf_reads (x : Flash) : flashOf (byteOf x.code).toNat = some x := by cases x <;> rfl

theorem boundOf_reads (x : Option Warning) : boundOf (byteOf (boundCode x)).toNat = some x := by
  rcases x with _ | x
  · rfl
  · cases x <;> rfl

/-- A validity is a number of minutes from 1 on, or until withdrawn as 0. -/
theorem validity_reads {v : Option Nat} (h : ∀ n ∈ v, 1 ≤ n ∧ n ≤ 1440) :
    (BitVec.ofNat 16 (v.getD 0)).toNat ≤ 1440 ∧
      (if (BitVec.ofNat 16 (v.getD 0)).toNat = 0 then none else some (BitVec.ofNat 16 (v.getD 0)).toNat) = v := by
  cases v with
  | none => exact ⟨by decide, rfl⟩
  | some n =>
    obtain ⟨hlow, hhigh⟩ := h n rfl
    rw [Option.getD_some, toNat_nat16 (by omega), if_neg (by omega)]
    exact ⟨hhigh, rfl⟩

theorem parsePage_publish {p : Page} (more : List Byte) (hprio : 1 ≤ p.priority ∧ p.priority ≤ 7)
    (hfaces : p.faceE = true ∨ p.faceW = true) (hpict : p.pictogram ≤ 31) (hvalid : ∀ v ∈ p.validity, 1 ≤ v ∧ v ≤ 1440)
    (hscope : parseScope (byteOf p.scope.matchBits).toNat (byteOf p.scope.mask).toNat (byteOf p.scope.hopLimit).toNat =
      some p.scope)
    (hlines : ∀ l ∈ [p.line1, p.line2, p.line3], l.length ≤ 18 ∧ ∀ c ∈ l, 32 ≤ c.toNat ∧ c.toNat ≤ 95) :
    parsePage (p.payload ++ more) = some (.publish p) := by
  obtain ⟨hminutes, hvalidity⟩ := validity_reads hvalid
  have hpriority : (byteOf p.priority).toNat = p.priority := toNat_byteOf (by omega)
  have hnonzero : byteOf p.priority ≠ 0 := fun h => by
    rw [h] at hpriority
    have : (0 : Byte).toNat = 0 := rfl
    omega
  have hsigns : (p.line1 ++ p.line2 ++ p.line3).all inSignSet = true := by
    simp only [List.mem_cons, List.not_mem_nil, or_false, forall_eq_or_imp, forall_eq] at hlines
    obtain ⟨⟨-, h1⟩, ⟨-, h2⟩, -, h3⟩ := hlines
    simp only [List.all_append, List.all_eq_true, Bool.and_eq_true, inSignSet, decide_eq_true_eq]
    exact ⟨⟨h1, h2⟩, h3⟩
  have hread (l : List Byte) (hl : l ∈ [p.line1, p.line2, p.line3]) (rest : List Byte) :
      takeString 18 (stringBytes l ++ rest) = some (l, rest) := takeString_reads (by decide) (hlines l hl).1 rest
  obtain ⟨tail, htail⟩ : ∃ tail, tail = stringBytes p.line1 ++ (stringBytes p.line2 ++ (stringBytes p.line3 ++ more)) :=
    ⟨_, rfl⟩
  have hlong : 3 ≤ tail.length := by rw [htail]; simp [stringBytes]; omega
  have hbytes : p.payload ++ more =
      byteOf p.number.val :: p.version :: byteOf p.priority :: byteOf (facesCode p.faceE p.faceW) :: byteOf p.pictogram ::
        byteOf p.flash.code :: hiByte (BitVec.ofNat 16 (p.validity.getD 0)) ::
        loByte (BitVec.ofNat 16 (p.validity.getD 0)) :: byteOf (boundCode p.bound) :: byteOf p.scope.matchBits ::
        byteOf p.scope.mask :: byteOf p.scope.hopLimit :: tail := by
    rw [htail]
    simp [Page.payload, nat16Bytes, wordBytes]
  rw [hbytes]
  simp only [parsePage, byteAt, wordAt, List.getD_cons_zero, List.getD_cons_succ, parseFin_byteOf (by decide : 32 ≤ 256),
    hscope, List.length_cons, facesOf_reads hfaces, flashOf_reads, boundOf_reads, List.drop_succ_cons, List.drop_zero,
    wordOf_hiByte_loByte, hpriority, Option.bind_eq_bind, Option.bind_some, hvalidity]
  rw [if_neg (by omega), if_neg hnonzero, htail, hread p.line1 (by simp), Option.bind_some, hread p.line2 (by simp),
    Option.bind_some, hread p.line3 (by simp), Option.bind_some, toNat_byteOf (by omega),
    if_pos ⟨hpict, hminutes, hsigns⟩]

theorem parsePage_withdraw (more : List Byte) (n : Fin 32) (v : Byte) {x : Scope}
    (hscope : parseScope (byteOf x.matchBits).toNat (byteOf x.mask).toNat (byteOf x.hopLimit).toNat = some x) :
    parsePage (withdrawalPayload n v x ++ more) = some (.withdraw n v x) := by
  simp only [withdrawalPayload, List.cons_append, List.nil_append, parsePage, byteAt, List.getD_cons_zero,
    List.getD_cons_succ, parseFin_byteOf (by decide : 32 ≤ 256), hscope, List.length_cons, Option.bind_eq_bind,
    Option.bind_some]
  rw [if_neg (by simp), if_pos trivial]

/-! ### Places (R192) -/

theorem byteAt_add (bs : List Byte) (i j : Nat) : byteAt bs (i + j) = byteAt (bs.drop i) j := by
  simp only [byteAt, List.getD_eq_getElem?_getD, List.getElem?_drop]

theorem wordAt_add (bs : List Byte) (i j : Nat) : wordAt bs (i + j) = wordAt (bs.drop i) j := by
  simp only [wordAt, ← byteAt_add, Nat.add_assoc]

theorem laneCountAt_eq (bs : List Byte) (i : Nat) : laneCountAt bs i = laneCountAt (bs.drop i) 0 := by
  simp only [laneCountAt, byteAt_add bs i, wordAt_add bs i, Nat.zero_add]

/-- In a row of pieces of the same length each stands at its multiple. -/
theorem drop_flatMap {α β : Type} {f : α → List β} {k : Nat} (hf : ∀ x, (f x).length = k) (l : List α) (i : Nat)
    (h : i < l.length) (rest : List β) :
    ∃ tail, (l.flatMap f ++ rest).drop (k * i) = f l[i] ++ tail := by
  induction l generalizing i with
  | nil => simp at h
  | cons x xs ih =>
    cases i with
    | zero => exact ⟨xs.flatMap f ++ rest, by simp⟩
    | succ i =>
      obtain ⟨tail, htail⟩ := ih i (by simpa using h)
      refine ⟨tail, ?_⟩
      rw [List.flatMap_cons, List.append_assoc, Nat.mul_succ, Nat.add_comm, ← List.drop_drop, List.drop_left' (hf x),
        htail]
      rfl

theorem wordAt_bytes (w : Word) (rest : List Byte) : wordAt (hiByte w :: loByte w :: rest) 0 = w := wordOf_hiByte_loByte w

theorem LaneCount.bytes_length (l : LaneCount) : l.bytes.length = 15 := by
  simp [LaneCount.bytes, nat32Bytes, nat16Bytes, wordBytes]

theorem LaneCount.bytes_append (l : LaneCount) (rest : List Byte) :
    l.bytes ++ rest = l.classes.toList.flatMap nat16Bytes ++
      (nat16Bytes (l.sum / 65536) ++ nat16Bytes (l.sum % 65536) ++ bitByte l.saturated :: rest) := by
  simp [LaneCount.bytes, nat32Bytes]

theorem LaneCount.bytes_drop (l : LaneCount) (rest : List Byte) :
    (l.bytes ++ rest).drop 10 =
      nat16Bytes (l.sum / 65536) ++ nat16Bytes (l.sum % 65536) ++ bitByte l.saturated :: rest := by
  rw [l.bytes_append, List.drop_left' (by simp [nat16Bytes, wordBytes])]

theorem LaneCount.class_reads {l : LaneCount} (h : l.Within) (rest : List Byte) (i : Fin 5) :
    (wordAt (l.bytes ++ rest) (2 * i.val)).toNat = l.classes[i] := by
  obtain ⟨tail, htail⟩ := drop_flatMap (k := 2) (f := nat16Bytes) (fun _ => rfl) l.classes.toList i.val (by simp)
    (nat16Bytes (l.sum / 65536) ++ nat16Bytes (l.sum % 65536) ++ bitByte l.saturated :: rest)
  rw [← Nat.add_zero (2 * i.val), wordAt_add, l.bytes_append, htail]
  exact (congrArg BitVec.toNat (wordAt_bytes _ tail)).trans ((toNat_nat16 (by simpa using h.1 i)).trans (by simp))

theorem LaneCount.flag_reads (l : LaneCount) (rest : List Byte) :
    byteAt (l.bytes ++ rest) 14 = bitByte l.saturated := by
  rw [show 14 = 10 + 4 from rfl, byteAt_add, l.bytes_drop]
  rfl

theorem laneCountAt_reads {l : LaneCount} (h : l.Within) (rest : List Byte) : laneCountAt (l.bytes ++ rest) 0 = l := by
  have hclass := LaneCount.class_reads h rest
  have hflag := l.flag_reads rest
  have hhigh : wordAt (l.bytes ++ rest) 10 = BitVec.ofNat 16 (l.sum / 65536) := by
    rw [← Nat.add_zero 10, wordAt_add, l.bytes_drop]
    exact wordAt_bytes _ _
  have hlow : wordAt (l.bytes ++ rest) 12 = BitVec.ofNat 16 (l.sum % 65536) := by
    rw [show 12 = 10 + 2 from rfl, wordAt_add, l.bytes_drop]
    exact wordAt_bytes _ (bitByte l.saturated :: rest)
  obtain ⟨-, hsum⟩ := h
  obtain ⟨classes, sum, saturated⟩ := l
  change sum ≤ 4294967295 at hsum
  rw [laneCountAt]
  simp only [Nat.zero_add, hclass, hhigh, hlow, hflag, LaneCount.mk.injEq]
  refine ⟨Vector.ext fun i hi => by simp, ?_, ?_⟩
  · rw [toNat_nat16 (by omega), toNat_nat16 (by omega)]
    omega
  · cases saturated <;> rfl

/-! ### Reports (R192) -/

theorem parsePresence_reads (x : Option Word) (bs rest : List Byte) (i : Nat) (h : bs.drop i = presenceBytes x ++ rest) :
    parsePresence bs i = some x := by
  rw [parsePresence, ← Nat.add_zero i, byteAt_add, Nat.add_zero, wordAt_add, h]
  cases x with
  | none => rfl
  | some w => exact congrArg (fun v => some (some v)) (wordAt_bytes w rest)

theorem parseReport_reads {r : Report} (h : ∀ i : Fin 8, r.lanes[i].Within) (more : List Byte) :
    parseReport (r.bytes ++ more) = some r := by
  obtain ⟨first, last, sequence, lanes⟩ := r
  have hpresence (x : Option Word) : (presenceBytes x).length = 3 := by cases x <;> rfl
  generalize hbs : (⟨first, last, sequence, lanes⟩ : Report).bytes ++ more = bs
  have h0 : bs.drop 0 = presenceBytes first ++ (wordBytes last ++ (presenceBytes sequence ++
      (lanes.toList.flatMap LaneCount.bytes ++ more))) := by simp [← hbs, Report.bytes]
  have h3 : bs.drop 3 = wordBytes last ++ (presenceBytes sequence ++ (lanes.toList.flatMap LaneCount.bytes ++ more)) := by
    rw [← List.drop_zero (l := bs), h0, List.drop_left' (hpresence _)]
  have h5 : bs.drop 5 = presenceBytes sequence ++ (lanes.toList.flatMap LaneCount.bytes ++ more) := by
    rw [show bs.drop 5 = (bs.drop 3).drop 2 from (List.drop_drop (i := 2) (j := 3)).symm, h3]
    rfl
  have h8 : bs.drop 8 = lanes.toList.flatMap LaneCount.bytes ++ more := by
    rw [show bs.drop 8 = (bs.drop 5).drop 3 from (List.drop_drop (i := 3) (j := 5)).symm, h5, List.drop_left' (hpresence _)]
  have hlane (i : Fin 8) : ∃ tail, bs.drop (8 + 15 * i.val) = lanes[i].bytes ++ tail := by
    obtain ⟨tail, htail⟩ := drop_flatMap LaneCount.bytes_length lanes.toList i.val (by simp) more
    exact ⟨tail, by rw [← List.drop_drop, h8, htail]; simp⟩
  have hlast : wordAt bs 3 = last := by
    rw [← Nat.add_zero 3, wordAt_add, h3]
    exact wordAt_bytes _ _
  have hlanes : (Vector.ofFn fun i : Fin 8 => laneCountAt bs (8 + 15 * i.val)) = lanes := by
    refine Vector.ext fun i hi => ?_
    obtain ⟨tail, htail⟩ := hlane ⟨i, hi⟩
    rw [Vector.getElem_ofFn, laneCountAt_eq, htail]
    exact laneCountAt_reads (h ⟨i, hi⟩) tail
  have hflags : (List.range 8).all (fun i => (parseBit (byteAt bs (8 + 15 * i + 14))).isSome) = true := by
    refine List.all_eq_true.2 fun i hi => ?_
    obtain ⟨tail, htail⟩ := hlane ⟨i, List.mem_range.1 hi⟩
    rw [byteAt_add, htail, LaneCount.flag_reads, parseBit_bitByte]
    rfl
  have hlong : 128 ≤ bs.length := by
    obtain ⟨tail, htail⟩ := hlane 7
    have hlength := congrArg List.length htail
    rw [List.length_drop, List.length_append, LaneCount.bytes_length] at hlength
    have : (7 : Fin 8).val = 7 := rfl
    omega
  rw [parseReport, parsePresence_reads first bs _ 0 h0, parsePresence_reads sequence bs _ 5 h5]
  simp only [Option.bind_eq_bind, Option.bind_some, hlast, hlanes]
  rw [if_pos ⟨hlong, hflags⟩]

/-! ### Records and TOLL frames (R171) -/

/-- What stands behind a record's tag: whether a plate is there, and the plate. -/
def plateBytes : Option (List Byte) → List Byte
  | none => [0]
  | some p => 1 :: p

theorem TollRecord.bytes_eq (r : TollRecord) :
    r.bytes = byteOf (r.lane.val + 1) :: byteOf (r.vehicleClass.val + 1) :: hiByte (BitVec.ofNat 16 r.amount) ::
      loByte (BitVec.ofNat 16 r.amount) :: (r.timestamp ++ (stringBytes r.tag ++ plateBytes r.plate)) := by
  unfold TollRecord.bytes
  cases r.plate <;> simp [nat16Bytes, wordBytes, plateBytes]

theorem parseRecord_reads {r : TollRecord} (hamount : r.amount ≤ 65535) (hstamp : r.timestamp.length = 6)
    (hshort : 4 ≤ r.tag.length) (hlong : r.tag.length ≤ 12) (hplate : ∀ p ∈ r.plate, p.length = 8) (more : List Byte) :
    parseRecord (r.bytes ++ more) = some r := by
  have hbytes : r.bytes ++ more = byteOf (r.lane.val + 1) :: byteOf (r.vehicleClass.val + 1) ::
      hiByte (BitVec.ofNat 16 r.amount) :: loByte (BitVec.ofNat 16 r.amount) ::
        (r.timestamp ++ (stringBytes r.tag ++ (plateBytes r.plate ++ more))) := by
    rw [r.bytes_eq]
    simp
  have htag := takeString_reads (by decide : 12 ≤ 255) hlong (plateBytes r.plate ++ more)
  have hdrop : (r.timestamp ++ (stringBytes r.tag ++ (plateBytes r.plate ++ more))).drop 6 =
      stringBytes r.tag ++ (plateBytes r.plate ++ more) := List.drop_left' hstamp
  have hlane : parseFin 8 r.lane.val = some r.lane := parseFin_of_toNat rfl
  have hclass : parseFin 5 r.vehicleClass.val = some r.vehicleClass := parseFin_of_toNat rfl
  rw [hbytes, parseRecord]
  simp only [byteAt, wordAt, List.getD_cons_zero, List.getD_cons_succ, wordOf_hiByte_loByte, List.drop_succ_cons,
    List.drop_zero, hdrop, List.take_left' hstamp, toNat_byteOf (show r.lane.val + 1 < 256 by omega),
    toNat_byteOf (show r.vehicleClass.val + 1 < 256 by omega), Nat.add_sub_cancel, hlane, hclass, htag,
    Nat.add_eq_zero_iff, one_ne_zero, and_false, if_false, Option.bind_eq_bind, Option.bind_some, toNat_nat16 hamount]
  rw [if_neg (by omega)]
  obtain ⟨lane, vehicleClass, amount, timestamp, tag, plate⟩ := r
  cases plate with
  | none => rfl
  | some p =>
    have hp : p.length = 8 := hplate p rfl
    simp [plateBytes, hp, parseBit, List.take_left' hp]

theorem parseToll_reads {t : TollFrame} {bytes : List Byte} {more : List Byte}
    (hpayload : t.payload = wordBytes t.sequence ++ wordBytes t.base ++ bitByte t.fresh :: bitByte t.content.isReport :: bytes)
    (hcontent : (if t.content.isReport then (parseReport (bytes ++ more)).map TollContent.report
      else (parseRecord (bytes ++ more)).map TollContent.record) = some t.content) :
    parseToll (t.payload ++ more) = some t := by
  have hbytes : t.payload ++ more = hiByte t.sequence :: loByte t.sequence :: hiByte t.base :: loByte t.base ::
      bitByte t.fresh :: bitByte t.content.isReport :: (bytes ++ more) := by
    rw [hpayload]
    simp [wordBytes]
  rw [hbytes, parseToll]
  simp only [byteAt, wordAt, List.getD_cons_zero, List.getD_cons_succ, parseBit_bitByte, wordOf_hiByte_loByte,
    Option.bind_eq_bind, Option.bind_some, List.drop_succ_cons, List.drop_zero, List.length_cons]
  rw [if_neg (by omega)]
  cases hreport : t.content.isReport <;> rw [hreport] at hcontent
  case false => exact congrArg (Option.bind · _) hcontent
  case true => exact congrArg (Option.bind · _) hcontent

/-- Settles O54, payload by payload. -/
theorem payloadsReadBack : Obligations.PayloadsReadBack := by
  intro more
  refine ⟨fun x => parseProbe_reads more, fun v => parseVoice_reads more, fun c held => ?_, parseCircuit_circuitByte,
    fun o => parseOffer_reads more, fun i l => ?_, fun i b => ?_, fun i b => ?_, fun o i hlow hhigh =>
    parseClear_reads more hlow hhigh i, fun k r => parseReading_reads more, fun x => parseSpeed_reads more,
    fun p hlow hhigh hfaces hpict hvalid hm hm' hk hh hh' hlines =>
      parsePage_publish more ⟨hlow, hhigh⟩ hfaces hpict hvalid (parseScope_reads hm hm' hk hh hh') hlines,
    fun n v x hm hm' hk hh hh' => parsePage_withdraw more n v (parseScope_reads hm hm' hk hh hh'),
    fun q base fresh r hamount hstamp hshort hlong hplate => ?_, fun q base fresh r hlanes => ?_,
    fun w => congrArg some (wordOf_hiByte_loByte w)⟩
  · simp [claimPayload, parseClaim]
  · simp [takePayload, parseTake, parseFin_byteOf (by decide : 2 ≤ 256)]
  · simp [refusePayload, hangupPayload, parseIdBit]
  · simp [incidentPayload, parseIncident, parseFin_byteOf (by decide : 4 ≤ 256)]
  · refine parseToll_reads (bytes := r.bytes) rfl ?_
    rw [parseRecord_reads hamount hstamp hshort hlong hplate]
    rfl
  · refine parseToll_reads (bytes := r.bytes) rfl ?_
    rw [parseReport_reads hlanes]
    rfl

end Sys2Proof.Machine
end

section
/-! CONFIGURE (R205): the words of a configuration, and the configuration of its words. -/
namespace Sys2Proof.Machine
open Sys2Proof

/-! ### The ranges of R205 -/

/-- The ranges of R205, with the speed limits listed. -/
theorem StationConfig.valid_iff (c : StationConfig) :
    c.valid = true ↔
      c.boxes ≤ 4 ∧ c.lanes ≤ 2 ∧ (c.lanes ≠ 0 → c.answering = true) ∧
        c.vmax ∈ [60, 70, 80, 90, 100, 110, 120, 130] ∧ c.vmin ∈ [40, 50, 60, 70, 80] ∧ c.vmin + 20 ≤ c.vmax ∧
          1 ≤ c.incidentReach ∧ c.incidentReach ≤ 7 := by
  have hmax : c.vmax ∈ [60, 70, 80, 90, 100, 110, 120, 130] ↔ 60 ≤ c.vmax ∧ c.vmax ≤ 130 ∧ c.vmax % 10 = 0 := by
    simp only [List.mem_cons, List.not_mem_nil, or_false]
    omega
  have hmin : c.vmin ∈ [40, 50, 60, 70, 80] ↔ 40 ≤ c.vmin ∧ c.vmin ≤ 80 ∧ c.vmin % 10 = 0 := by
    simp only [List.mem_cons, List.not_mem_nil, or_false]
    omega
  rw [hmax, hmin]
  simp [StationConfig.valid, and_assoc, or_iff_not_imp_left]

/-! ### The words (R205) -/

theorem sideBits_reads (e w : Bool) :
    bitByte e ||| bitByte w <<< 1 = byteOf ((if e then 1 else 0) + (if w then 2 else 0)) := by
  cases e <;> cases w <;> rfl

theorem roleBits_reads (a s c : Bool) :
    bitByte a ||| bitByte s <<< 1 ||| bitByte c <<< 2 =
      byteOf ((if a then 1 else 0) + (if s then 2 else 0) + (if c then 4 else 0)) := by
  cases a <;> cases s <;> cases c <;> rfl

/-- A byte with no bit above the lowest two is its two flags. -/
theorem sideBits_of_le {b : Byte} (h : b.toNat ≤ 3) :
    byteOf ((if b.getLsbD 0 then 1 else 0) + (if b.getLsbD 1 then 2 else 0)) = b := by
  obtain ⟨n, hn, rfl⟩ : ∃ n, n < 4 ∧ b = byteOf n := ⟨b.toNat, by omega, (byteOf_toNat b).symm⟩
  revert n
  decide

theorem roleBits_of_le {b : Byte} (h : b.toNat ≤ 7) :
    byteOf ((if b.getLsbD 0 then 1 else 0) + (if b.getLsbD 1 then 2 else 0) + (if b.getLsbD 2 then 4 else 0)) = b := by
  obtain ⟨n, hn, rfl⟩ : ∃ n, n < 8 ∧ b = byteOf n := ⟨b.toNat, by omega, (byteOf_toNat b).symm⟩
  revert n
  decide

theorem parseConfig_words {c : StationConfig} (h : c.valid = true) : parseConfig (configWords c) = some c := by
  have hvalid := h
  obtain ⟨hboxes, hlanes, -, hmax, hmin, -, -, hreach⟩ := c.valid_iff.1 h
  have hmax : c.vmax < 256 := by
    simp only [List.mem_cons, List.not_mem_nil, or_false] at hmax
    omega
  have hmin : c.vmin < 256 := by
    simp only [List.mem_cons, List.not_mem_nil, or_false] at hmin
    omega
  obtain ⟨hside, heast, hwest⟩ := flagsByte_reads c.faceE c.faceW
  have hroles : ∀ a s k : Bool,
      let b := byteOf ((if a then 1 else 0) + (if s then 2 else 0) + (if k then 4 else 0))
      b.toNat ≤ 7 ∧ b.getLsbD 0 = a ∧ b.getLsbD 1 = s ∧ b.getLsbD 2 = k := by decide
  obtain ⟨hsmall, hanswering, hsink, hcollector⟩ := hroles c.answering c.sink c.collector
  simp only [configWords, parseConfig, hiByte_wordOf, loByte_wordOf, heast, hwest, hanswering, hsink, hcollector,
    toNat_byteOf (show c.boxes < 256 by omega), toNat_byteOf (show c.lanes < 256 by omega), toNat_byteOf hmax,
    toNat_byteOf hmin, toNat_byteOf (show c.incidentReach < 256 by omega)]
  rw [if_pos ⟨hside, hsmall, trivial, hvalid⟩]

/-- What CONFIGURE takes is the words of the configuration it reads. -/
theorem words_of_parseConfig {args : List Word} {c : StationConfig} (h : parseConfig args = some c) :
    c.valid = true ∧ args = configWords c := by
  match args with
  | [w1, w2, w3, w4] =>
    simp only [parseConfig, Option.ite_none_right_eq_some, Option.some.injEq] at h
    obtain ⟨⟨hside, hroles, hzero, hvalid⟩, rfl⟩ := h
    refine ⟨hvalid, ?_⟩
    simp only [configWords, sideBits_of_le hside, roleBits_of_le hroles, byteOf_toNat, wordOf_hiByte_loByte, ← hzero]
  | [] | [_] | [_, _] | [_, _, _] | _ :: _ :: _ :: _ :: _ :: _ => simp [parseConfig] at h

/-! ### CONFIGURE (R205) -/

section
variable {args : List Word} {s : State} (h : s.resetHeld = false) (hj : s.joined = false)
include h hj

theorem exec_configure_taken {c : StationConfig} (hparse : parseConfig args = some c) :
    exec (.configure args) s = .next { s with config := c, response := ⟨.ok, .configure, .config c⟩ } := by
  have hcount : args.length = 4 := by rw [(words_of_parseConfig hparse).2]; rfl
  have haccepts : s.Accepts .configure args.length := ⟨h, by rw [hj]; rfl, rfl, by rw [hcount]; rfl⟩
  change (.next (s.command .configure args (configureBody args)) : Result) = _
  rw [haccepts.command_eq, configureBody, hparse]
  rfl

theorem exec_configure_refused (hparse : parseConfig args = none) :
    exec (.configure args) s = .next { s with response := ⟨.badArgument, .configure, .none⟩ } := by
  by_cases hcount : Command.takesCount .configure args.length = true
  · have haccepts : s.Accepts .configure args.length := ⟨h, by rw [hj]; rfl, rfl, hcount⟩
    change (.next (s.command .configure args (configureBody args)) : Result) = _
    rw [haccepts.command_eq, configureBody, hparse]
    rfl
  · exact exec_commandRow_of_refusal (c := .configure) h
      (State.refusal_of_count (by rw [hj]; rfl) rfl (Bool.eq_false_iff.2 hcount))

end

end Sys2Proof.Machine
end

section
/-! What the beginning and the end of calls and lanes, selections, images and the SPEED keep, as JOIN and RESTART put them
together: a property that every sending keeps, and that speaks of no record of the call, circuit, speed and sign units. -/
namespace Sys2Proof.Machine
open Sys2Proof

/-- The property is kept by every sending and by every change of the records of the job units. Only a frame of no tag that a
withdrawal names stays deferred for sure. -/
structure JobKept (P : State → Prop) : Prop where
  send : ∀ s f, P s → P (s.send f)
  sendOneOff : ∀ s tag f, P s → P (s.sendOneOff tag f)
  withdraw : ∀ s tag, tag ≠ .plain → P s → P (s.withdraw tag)
  put : ∀ (s : State) circuits claims calls callUnit playout incidents speed warnings faces faults, P s →
    P { s with
      circuits := circuits, claims := claims, calls := calls, callUnit := callUnit, playout := playout
      incidents := incidents, speed := speed, warnings := warnings, faces := faces, faults := faults }

namespace JobKept

variable {P : State → Prop} (K : JobKept P) {s : State}
include K

/-- A step that changes records of the job units alone. -/
theorem of_eq {t : State}
    (e : t = { s with
      circuits := t.circuits, claims := t.claims, calls := t.calls, callUnit := t.callUnit, playout := t.playout
      incidents := t.incidents, speed := t.speed, warnings := t.warnings, faces := t.faces, faults := t.faults })
    (h : P s) : P t := e ▸ K.put s _ _ _ _ _ _ _ _ _ _ h

/-! ### Speed, signs and incidents -/

theorem buildSpeed (h : P s) : P s.buildSpeed := K.of_eq rfl (K.send s _ h)

theorem select (g : Face) (h : P s) : P (s.select g) := K.of_eq (by rw [State.select_eq]) h

theorem setWarnings (w : Warnings) (h : P s) : P (s.setWarnings w) := K.of_eq (by rw [State.setWarnings_eq]) h

theorem evaluate (timer : Bool) (h : P s) : P (s.evaluate timer) := by
  have hassessed : P (s.assessed timer) := K.of_eq (by rw [State.assessed_parts]) h
  by_cases hstands : s.speedStands timer
  · rw [State.evaluate_of_stands timer s hstands]
    exact hassessed
  · rw [State.evaluate_of_moves timer s hstands]
    exact K.buildSpeed hassessed

theorem enterIncident (e : Incident) (h : P s) : P (s.enterIncident e) := by
  have htable (table : List Incident) : P (s.withTable table) := K.of_eq rfl h
  obtain hsame | hkept | ⟨table, cause, hchanged⟩ := s.enterIncident_cases e
  · rw [hsame]
    exact h
  · rw [hkept]
    exact htable _
  · rw [hchanged]
    unfold State.incidentsChanged
    dsimp only
    split
    · exact K.evaluate false (K.setWarnings _ (htable table))
    · exact K.setWarnings _ (htable table)

theorem imagesNow (h : P s) : P s.imagesNow := by
  obtain ⟨faces, faults, himages⟩ := s.imagesNow_imageWork
  rw [himages]
  exact K.of_eq rfl h

theorem startSelection (g : Face) (h : P s) : P (s.startSelection g) := K.select g (K.of_eq rfl h)

theorem startSelecting (g : Face) (h : P s) : P (s.startSelecting g) := by
  unfold State.startSelecting
  split
  · exact K.startSelection g h
  · exact h

theorem restartFace (g : Face) (h : P s) : P (s.restartFace g) := by
  unfold State.restartFace
  split
  · exact K.startSelection g (K.of_eq rfl h)
  · exact h

/-! ### Calls and lanes -/

theorem putCall (b : Fin 4) (r : CallRecord) (h : P s) : P (s.putCall b r) := by
  unfold State.putCall
  dsimp only
  split
  · split
    · exact K.of_eq (s := s) rfl h
    · exact K.of_eq (s := s) rfl h
  · split
    · exact K.withdraw _ _ (by simp) (K.of_eq (s := s) rfl h)
    · exact K.of_eq (s := s) rfl h

theorem putLane (l : Fin 2) (r : OpLane) (h : P s) : P (s.putLane l r) := by
  unfold State.putLane
  dsimp only
  generalize (if r.state = s.callUnit.lanes[l].state then r else { r with changedAt := s.now }) = x
  split
  · exact K.of_eq (s := s) rfl h
  · split
    · exact K.withdraw _ _ (by simp) (K.of_eq (s := s) rfl h)
    · exact K.of_eq (s := s) rfl h

theorem chooseCircuit (b : Fin 4) (h : P s) : P (s.chooseCircuit b) := by
  unfold State.chooseCircuit
  split
  · exact K.of_eq rfl h
  · exact K.sendOneOff _ _ _ (K.of_eq (s := s) rfl h)

theorem wantCircuit (b : Fin 4) (h : P s) : P (s.wantCircuit b) := K.chooseCircuit b (K.of_eq (s := s) rfl h)

theorem ownNotice (callId : Byte) (b : Fin 4) (h : P s) : P (s.ownNotice callId b) := K.enterIncident _ h

theorem beginCall (b : Fin 4) (h : P s) : P (s.beginCall b) := by
  unfold State.beginCall
  exact K.wantCircuit b (K.ownNotice _ b (K.sendOneOff _ _ _ (K.putCall b _ (K.of_eq (s := s) rfl h))))

theorem beginIfOffHook (b : Fin 4) (h : P s) : P (s.beginIfOffHook b) := by
  unfold State.beginIfOffHook
  split
  · exact K.beginCall b h
  · exact h

theorem beginCalls (h : P s) : P s.beginCalls :=
  List.foldlRecOn (motive := P) boxIndices _ h fun _ h b _ => K.beginIfOffHook b h

theorem releaseCall (b : Fin 4) (h : P s) : P (s.releaseCall b) := by
  unfold State.releaseCall
  dsimp only
  split
  · exact K.of_eq (s := s) rfl h
  · exact K.sendOneOff _ _ _ (K.withdraw _ _ (by simp) (K.of_eq (s := s) rfl h))

theorem endCall (b : Fin 4) (h : P s) : P (s.endCall b) := by
  refine K.putCall b _ (K.releaseCall b ?_)
  unfold State.hangupPartner
  dsimp only
  split
  · exact K.sendOneOff _ _ _ h
  · exact h

theorem restartCall (b : Fin 4) (h : P s) : P (s.restartCall b) := by
  unfold State.restartCall
  split
  · exact h
  · exact K.endCall b h

theorem restartLane (l : Fin 2) (h : P s) : P (s.restartLane l) := by
  refine K.putLane l _ ?_
  unfold State.hangupCaller
  dsimp only
  split
  · exact h
  · split
    · exact K.sendOneOff _ _ _ h
    · exact h

end JobKept

/-- What every offer, deferral and try of the toll unit keeps, and the records of the job units do not enter. -/
theorem SendKept.jobKept {P : State → Prop} (K : SendKept P)
    (put : ∀ (s : State) circuits claims calls callUnit playout incidents speed warnings faces faults, P s →
      P { s with
        circuits := circuits, claims := claims, calls := calls, callUnit := callUnit, playout := playout
        incidents := incidents, speed := speed, warnings := warnings, faces := faces, faults := faults }) :
    JobKept P where
  send _ f h := K.send f h
  sendOneOff _ tag f h := K.sendOneOff tag f h
  withdraw s _ _ h := K.deferred s _ h
  put := put

/-! ### What is not theirs -/

/-- From `s` to `t` nothing changed but queues, the deferred list, the toll entries' states and records of the job units. -/
structure State.JobWork (s t : State) : Prop where
  parts : t = { s with
    circuits := t.circuits, claims := t.claims, calls := t.calls, callUnit := t.callUnit, playout := t.playout
    incidents := t.incidents, speed := t.speed, warnings := t.warnings, faces := t.faces, faults := t.faults
    ports := t.ports, deferred := t.deferred, toll := t.toll }
  link : ∀ p, (s.ports.get p).SameLink (t.ports.get p)
  toll : t.toll = { s.toll with store := t.toll.store, resendTimer := t.toll.resendTimer }

theorem State.JobWork.rfl' (s : State) : s.JobWork s := ⟨rfl, fun _ => Port.SameLink.rfl' _, rfl⟩

theorem jobKept_jobWork (s : State) : JobKept s.JobWork := by
  refine SendKept.jobKept ⟨fun t d f h => ?_, fun t ds h => ?_, fun t d sink store timer _ _ h => ?_⟩ fun t _ _ _ _ _ _ _ _ _ _ h => ?_
  all_goals obtain ⟨hparts, hlink, htoll⟩ := h
  · have hwork := t.offerPort_lineWork d f
    have hkept := t.offerPort_toll d f
    obtain ⟨ports, deferred, toll, hwork, hports⟩ := hwork
    generalize (t.offerPort d f).state = u at hwork hkept ⊢
    subst hwork
    refine ⟨?_, fun p => (hlink p).trans (hports p), ?_⟩
    · rw [hparts]
    · exact hkept ▸ htoll
  · exact ⟨by rw [hparts], hlink, htoll⟩
  · exact ⟨by rw [hparts], hlink, by rw [htoll]⟩
  · exact ⟨by rw [hparts], hlink, htoll⟩

end Sys2Proof.Machine
end

section
/-! The calls that begin together, in ascending index (R65, R88, R206). -/
namespace Sys2Proof.Machine
open Sys2Proof

/-- A call begins at this port where its record is IDLE: the port is fitted and the handset off-hook. -/
def State.begins (s : State) (b : Fin 4) : Bool := decide (b.val < s.config.boxes) && s.calls[b].offHook

/-- The number of ports below `n` at which a call begins. -/
def State.begunBefore (n : Nat) (s : State) : Nat :=
  (([0, 1, 2, 3] : List (Fin 4)).filter fun x => decide (x.val < n) && s.begins x).length

theorem State.begunBefore_succ (b : Fin 4) (s : State) :
    s.begunBefore (b.val + 1) = s.begunBefore b.val + if s.begins b then 1 else 0 := by
  unfold State.begunBefore
  generalize s.begins = p
  revert p b
  decide

/-! ### One call -/

section
variable {b : Fin 4} {s : State}

theorem State.beginIfOffHook_eq (hj : s.joined = true) (hidle : s.calls[b].state = .idle) :
    s.beginIfOffHook b = if s.begins b then s.beginCall b else s := by
  rw [State.beginIfOffHook, hj, hidle, State.begins, State.boxFitted]
  simp only [Bool.true_and, beq_self_eq_true, Bool.and_true]

variable (hidle : s.calls[b].state = .idle)
include hidle

theorem State.beginCall_callUnit :
    (s.beginCall b).callUnit = { s.callUnit with nextCallId := s.callUnit.nextCallId + 1, callsChanged := true } := by
  rw [State.beginCall_parts hidle, State.noticed_parts]
  rfl

theorem State.beginCall_stays :
    (s.beginCall b).joined = s.joined ∧ (s.beginCall b).config = s.config ∧ (s.beginCall b).now = s.now ∧
      (s.beginCall b).faults = s.faults := by
  rw [State.beginCall_parts hidle, State.noticed_parts]
  exact ⟨rfl, rfl, rfl, rfl⟩

/-- The call wants a circuit, and what other stations hold stays. -/
theorem State.beginCall_circuits :
    (∃ wait, (s.beginCall b).claims = s.claims.set b ⟨true, 0, wait⟩) ∧
      ∀ c : Fin 16, s.circuits[c] ≠ .free → (s.beginCall b).circuits[c] = s.circuits[c] := by
  cases hfree : s.lowestFree with
  | none =>
    obtain ⟨hcircuits, -, hclaims, -⟩ := State.beginCall_waits hidle (State.lowestFree_eq_none_iff.1 hfree)
    exact ⟨⟨_, hclaims⟩, fun c _ => by rw [hcircuits]⟩
  | some c =>
    have hlowest := State.lowestFree_eq_some_iff.1 hfree
    obtain ⟨hcircuits, -, hclaims, -⟩ := State.beginCall_claims hidle hlowest
    refine ⟨⟨_, hclaims⟩, fun d hd => ?_⟩
    have hne : c.val ≠ d.val := fun e => hd (Fin.ext e ▸ hlowest.1)
    rw [hcircuits]
    exact Vector.getElem_set_ne c.isLt d.isLt hne

end

/-! ### All of them -/

/-- From `s` to `t` the calls at the ports below `n` have begun, as far as their handsets are off-hook. -/
structure State.CallsBegun (n : Nat) (s t : State) : Prop where
  joined : t.joined = s.joined
  config : t.config = s.config
  now : t.now = s.now
  faults : t.faults = s.faults
  stays : ∀ b : Fin 4, n ≤ b.val ∨ s.begins b = false → t.calls[b] = s.calls[b]
  begun : ∀ b : Fin 4, b.val < n → s.begins b = true →
    (∃ circuit, t.calls[b] =
      { s.begunCall b circuit with callId := some (s.callUnit.nextCallId + BitVec.ofNat 8 (s.begunBefore b.val)) }) ∧
      t.claims[b].wanted = true ∧ t.callUnit.callsChanged = true
  callUnit : t.callUnit = { s.callUnit with
    nextCallId := s.callUnit.nextCallId + BitVec.ofNat 8 (s.begunBefore n), callsChanged := t.callUnit.callsChanged }
  marked : s.callUnit.callsChanged = true → t.callUnit.callsChanged = true
  circuits : ∀ c : Fin 16, s.circuits[c] ≠ .free → t.circuits[c] = s.circuits[c]

theorem State.CallsBegun.start (s : State) : s.CallsBegun 0 s where
  joined := rfl
  config := rfl
  now := rfl
  faults := rfl
  stays _ _ := rfl
  begun _ h := absurd h (Nat.not_lt_zero _)
  callUnit := by
    have hzero : s.begunBefore 0 = 0 := by simp [State.begunBefore]
    rw [hzero]
    simp
  marked h := h
  circuits _ _ := rfl

/-- The beginning of calls is told of what the records, the configuration, the clock and the circuits are. -/
theorem State.CallsBegun.of_eq {n : Nat} {s s' t : State} (h : s.CallsBegun n t) (hjoined : s.joined = s'.joined)
    (hconfig : s.config = s'.config) (hnow : s.now = s'.now) (hcalls : s.calls = s'.calls)
    (hunit : s.callUnit = s'.callUnit) (hcircuits : s.circuits = s'.circuits)
    (hfaults : s.faults = s'.faults) : s'.CallsBegun n t := by
  have hbegins : s.begins = s'.begins := funext fun b => by rw [State.begins, State.begins, hconfig, hcalls]
  have hbefore (m : Nat) : s.begunBefore m = s'.begunBefore m := by rw [State.begunBefore, State.begunBefore, hbegins]
  obtain ⟨kjoined, kconfig, know, kfaults, kstays, kbegun, kunit, kmarked, kcircuits⟩ := h
  simp only [State.begunCall, hbegins, hbefore, hnow, hcalls, hunit, hcircuits] at *
  exact ⟨kjoined.trans hjoined, kconfig.trans hconfig, know, kfaults.trans hfaults, kstays, kbegun, kunit, kmarked, kcircuits⟩

theorem State.CallsBegun.step {b : Fin 4} {s t : State} (h : s.CallsBegun b.val t) (hj : s.joined = true)
    (hidle : s.calls[b].state = .idle) : s.CallsBegun (b.val + 1) (t.beginIfOffHook b) := by
  have hcall := h.stays b (.inl (Nat.le_refl _))
  have hidle' : t.calls[b].state = .idle := by rw [hcall, hidle]
  have hbegins : t.begins b = s.begins b := by rw [State.begins, State.begins, h.config, hcall]
  have hcount := s.begunBefore_succ b
  rw [State.beginIfOffHook_eq (h.joined.trans hj) hidle', hbegins]
  cases hb : s.begins b with
  | false =>
    rw [hb] at hcount
    refine { h with
      stays := fun x hx => h.stays x (hx.imp_left (by omega))
      begun := fun x hx hbx => h.begun x ?_ hbx
      callUnit := by rw [hcount]; exact h.callUnit }
    have hne : x ≠ b := fun e => by rw [e, hb] at hbx; cases hbx
    have := Fin.val_ne_of_ne hne
    omega
  | true =>
    rw [hb] at hcount
    obtain ⟨hjoined, hconfig, hnow, hfaults⟩ := State.beginCall_stays hidle'
    obtain ⟨⟨wait, hclaims⟩, hcircuits⟩ := State.beginCall_circuits hidle'
    have hcalls := State.beginCall_calls hidle'
    have hunit := State.beginCall_callUnit hidle'
    have hnext : t.callUnit.nextCallId = s.callUnit.nextCallId + BitVec.ofNat 8 (s.begunBefore b.val) := by rw [h.callUnit]
    simp only [if_true]
    generalize t.beginCall b = u at *
    have hother {x : Fin 4} (hne : b.val ≠ x.val) : u.calls[x] = t.calls[x] ∧ u.claims[x] = t.claims[x] := by
      rw [hcalls, hclaims]
      exact ⟨Vector.getElem_set_ne b.isLt x.isLt hne, Vector.getElem_set_ne b.isLt x.isLt hne⟩
    refine ⟨hjoined.trans h.joined, hconfig.trans h.config, hnow.trans h.now,
      hfaults.trans h.faults, fun x hx => ?_, fun x hx hbx => ?_, ?_,
      fun _ => by rw [hunit], fun c hc => ?_⟩
    · have hne : b.val ≠ x.val := fun e => by
        obtain hx | hx := hx
        · omega
        · rw [← Fin.ext e, hb] at hx
          cases hx
      rw [(hother hne).1]
      exact h.stays x (hx.imp_left (by omega))
    · have hmark : u.callUnit.callsChanged = true := by rw [hunit]
      by_cases hne : b.val = x.val
      · obtain rfl := Fin.ext hne
        refine ⟨⟨u.calls[b].circuit, ?_⟩, ?_, hmark⟩
        · have hset : u.calls[b] = t.begunCall b u.calls[b].circuit := by
            conv_lhs => rw [hcalls]
            exact Vector.getElem_set_self b.isLt
          rw [hset, State.begunCall, hcall, hnext, h.now]
          rfl
        · rw [hclaims]
          simp
      · obtain ⟨hcall', hwanted, -⟩ := h.begun x (by omega) hbx
        rw [(hother hne).1, (hother hne).2]
        exact ⟨hcall', hwanted, hmark⟩
    · rw [hunit, h.callUnit, hcount, if_pos rfl, BitVec.ofNat_add, BitVec.add_assoc]
      rfl
    · rw [hcircuits c (by rw [h.circuits c hc]; exact hc), h.circuits c hc]

theorem State.beginCalls_begun {s : State} (hj : s.joined = true) (hidle : ∀ b : Fin 4, s.calls[b].state = .idle) :
    s.CallsBegun 4 s.beginCalls :=
  ((((State.CallsBegun.start s).step (b := 0) hj (hidle 0)).step (b := 1) hj (hidle 1)).step (b := 2) hj (hidle 2)).step
    (b := 3) hj (hidle 3)

theorem State.beginCalls_none {s : State} (hnone : ∀ b : Fin 4, s.begins b = false) : s.beginCalls = s := by
  have hstep (b : Fin 4) : s.beginIfOffHook b = s := by
    refine if_neg fun hb => ?_
    simp only [Bool.and_eq_true] at hb
    obtain ⟨⟨⟨-, hfitted⟩, hoff⟩, -⟩ := hb
    exact absurd (hnone b) (by simp only [State.begins, hoff, Bool.and_true]; exact Bool.eq_false_iff.not_left.2 hfitted)
  simp only [State.beginCalls, boxIndices, List.foldl_cons, List.foldl_nil, hstep]

end Sys2Proof.Machine
end

section
/-! Faces that start selection, and the image that each selecting face is sent at JOIN and RESTART (R150, R158, R164, R206). -/
namespace Sys2Proof.Machine
open Sys2Proof

/-! ### Selections -/

/-- From `s` to `t` selection moved the selectors of selecting faces, and nothing else of the faces changed. -/
structure State.SelectsOnly (s t : State) : Prop where
  joined : t.joined = s.joined
  config : t.config = s.config
  face : ∀ g, t.faces.get g = { s.faces.get g with selector := (t.faces.get g).selector }
  stays : ∀ g, s.selecting g = false → t.faces.get g = s.faces.get g

namespace State.SelectsOnly

variable {s t u : State}

theorem of_faces (hfaces : t.faces = s.faces) (hjoined : t.joined = s.joined) (hconfig : t.config = s.config) :
    s.SelectsOnly t where
  joined := hjoined
  config := hconfig
  face _ := by rw [hfaces]
  stays _ _ := by rw [hfaces]

theorem selecting (h : s.SelectsOnly t) (g : Face) : t.selecting g = s.selecting g := by
  simp only [State.selecting, h.joined, h.config]
  rw [h.face g]

theorem lit (h : s.SelectsOnly t) (g : Face) : t.lit g = s.lit g := by
  simp only [State.lit, h.config]
  rw [h.face g]

theorem trans (h : s.SelectsOnly t) (k : t.SelectsOnly u) : s.SelectsOnly u where
  joined := k.joined.trans h.joined
  config := k.config.trans h.config
  face g := by rw [k.face g, h.face g]
  stays g hg := (k.stays g ((h.selecting g).trans hg)).trans (h.stays g hg)

end State.SelectsOnly

theorem State.reselectedBy_stays {w : Warnings} {g : Face} {s : State} (h : s.selecting g = false) :
    (s.reselectedBy w g).faces.get g = s.faces.get g := by
  rw [State.reselectedBy_eq_selectIf, State.selectIf_face]
  have hselecting : State.selecting g { s with warnings := w } = false := h
  rw [hselecting, Bool.and_false]
  rfl

theorem State.FacesMove.selectsOnly {s t : State} (h : s.FacesMove t) (hjoined : t.joined = s.joined)
    (hconfig : t.config = s.config) : s.SelectsOnly t where
  joined := hjoined
  config := hconfig
  face g := by rw [h g, State.reselectedBy_face_parts, State.reselectedBy_face_parts]
  stays g hg := by
    rw [h g]
    generalize ({ t.warnings with closeAdvised := s.warnings.closeAdvised } : Warnings) = w
    have hface := State.reselectedBy_face_parts w g s
    have hparts := State.reselectedBy_eq w g s
    have hselecting : (s.reselectedBy w g).selecting g = false := by
      rw [← hg, State.selecting, State.selecting, hface, hparts]
    rw [State.reselectedBy_stays hselecting, State.reselectedBy_stays hg]

theorem State.beginCall_selectsOnly {b : Fin 4} {s : State} (hidle : s.calls[b].state = .idle) :
    s.SelectsOnly (s.beginCall b) := by
  have hparts := State.beginCall_parts (b := b) hidle
  have hmove := (s.noticed_facesMove b).of_eq (t' := s.beginCall b) (by rw [hparts]) (by rw [hparts])
  obtain ⟨hjoined, hconfig, -, -⟩ := State.beginCall_stays hidle
  exact hmove.selectsOnly hjoined hconfig

theorem State.beginIfOffHook_selectsOnly (b : Fin 4) (s : State) : s.SelectsOnly (s.beginIfOffHook b) := by
  unfold State.beginIfOffHook
  split
  next h =>
    simp only [Bool.and_eq_true, beq_iff_eq] at h
    exact State.beginCall_selectsOnly h.2
  · exact .of_faces rfl rfl rfl

theorem State.beginCalls_selectsOnly (s : State) : s.SelectsOnly s.beginCalls :=
  List.foldlRecOn (motive := s.SelectsOnly) boxIndices _ (.of_faces rfl rfl rfl) fun t h b _ =>
    h.trans (t.beginIfOffHook_selectsOnly b)

theorem State.startSelection_eq (g : Face) (s : State) :
    s.startSelection g = { s with faces := (s.startSelection g).faces } := by
  have h := State.select_eq g (s.modFace g fun u => { u with selector := emptySelector })
  exact h.trans rfl

/-- A selecting face that starts selection shows what the empty selector turns to (R150). -/
theorem State.startSelection_face {g : Face} {s : State} (h : s.selecting g = true) :
    (s.startSelection g).faces.get g = { s.faces.get g with selector := s.selected g emptySelector } := by
  have hselecting : (s.modFace g fun u => { u with selector := emptySelector }).selecting g = true := by
    rw [← h]
    simp [State.selecting, State.modFace]
  rw [State.startSelection, State.select_face, if_pos hselecting]
  simp only [State.modFace, PerSide.get_set_same]
  congr 1

theorem State.startSelection_face_other {g x : Face} (hne : x ≠ g) (s : State) :
    (s.startSelection g).faces.get x = s.faces.get x := by
  rw [State.startSelection, State.select_face_other hne]
  simp [State.modFace, PerSide.get_set, hne]

theorem State.startSelecting_selectsOnly (g : Face) (s : State) : s.SelectsOnly (s.startSelecting g) := by
  unfold State.startSelecting
  split
  next h =>
    have hparts := State.startSelection_eq g s
    refine ⟨by rw [hparts], by rw [hparts], fun x => ?_, fun x hx => ?_⟩
    · by_cases hne : x = g
      · rw [hne, State.startSelection_face h]
      · rw [State.startSelection_face_other hne]
    · refine State.startSelection_face_other (fun e => ?_) s
      rw [e, h] at hx
      cases hx
  · exact .of_faces rfl rfl rfl

/-! ### An image to each selecting face -/

theorem State.imageIfSelecting_eq (g : Face) (s : State) :
    s.imageIfSelecting g =
      { s with faces := (s.imageIfSelecting g).faces, faults := (s.imageIfSelecting g).faults } := by
  obtain ⟨faces, faults, h⟩ := State.imageIfSelecting_imageWork g s
  rw [h]

theorem State.imageIfSelecting_face (g : Face) (s : State) :
    (s.imageIfSelecting g).faces.get g =
      if s.selecting g then (s.faces.get g).sent (s.imageNow g) s.now else s.faces.get g := by
  unfold State.imageIfSelecting
  split
  · exact State.sendImage_face g s
  · rfl

theorem State.imageIfSelecting_face_other {g x : Face} (hne : x ≠ g) (s : State) :
    (s.imageIfSelecting g).faces.get x = s.faces.get x := by
  unfold State.imageIfSelecting
  split
  · exact State.sendImage_face_other hne s
  · rfl

theorem State.imageIfSelecting_faults {g : Face} {s : State} (h : s.selecting g = true → (s.faces.get g).awaited.length < 4) :
    (s.imageIfSelecting g).faults = s.faults := by
  unfold State.imageIfSelecting
  split
  next hs =>
    rw [State.sendImage_eq]
    change (s.withRoom g).faults = s.faults
    rw [State.withRoom_of_room (h hs)]
  · rfl

theorem State.imagesNow_eq (s : State) :
    s.imagesNow = { s with faces := s.imagesNow.faces, faults := s.imagesNow.faults } := by
  obtain ⟨faces, faults, h⟩ := s.imagesNow_imageWork
  rw [h]

/-- The image to E leaves what W is sent as it is. -/
theorem State.imagesNow_face (g : Face) (s : State) :
    s.imagesNow.faces.get g =
      if s.selecting g then (s.faces.get g).sent (s.imageNow g) s.now else s.faces.get g := by
  unfold State.imagesNow
  cases g with
  | east =>
    rw [State.imageIfSelecting_face_other (by decide)]
    exact State.imageIfSelecting_face .east s
  | west =>
    have hother := State.imageIfSelecting_face_other (g := .east) (x := .west) (by decide) s
    have hparts := State.imageIfSelecting_eq .east s
    generalize s.imageIfSelecting .east = t at hother hparts ⊢
    generalize hfaces : t.faces = faces at hparts hother
    generalize t.faults = faults at hparts
    subst hparts
    have himage : State.imageNow .west { s with faces := faces, faults := faults } = s.imageNow .west :=
      State.imageNow_congr .west (congrArg _ hother) (congrArg _ hother) rfl rfl rfl
    have hselecting : State.selecting .west { s with faces := faces, faults := faults } = s.selecting .west := by
      simp only [State.selecting, hother]
    rw [State.imageIfSelecting_face, himage, hselecting]
    simp only [hother]

theorem State.imagesNow_faults {s : State} (h : ∀ g, s.selecting g = true → (s.faces.get g).awaited.length < 4) :
    s.imagesNow.faults = s.faults := by
  unfold State.imagesNow
  have hother := State.imageIfSelecting_face_other (g := .east) (x := .west) (by decide) s
  have hparts := State.imageIfSelecting_eq .east s
  rw [State.imageIfSelecting_faults, State.imageIfSelecting_faults (h .east)]
  intro hs
  rw [hother]
  refine h .west ?_
  rw [← hs, State.selecting, State.selecting, hother, hparts]

end Sys2Proof.Machine
end

section
/-! JOIN (R206): the stages of the joining one after another, and what they leave as it is. -/
namespace Sys2Proof.Machine
open Sys2Proof

/-! ### Busy ports -/

/-- Where every port in use is SENDING, a control or bulk frame waits in its queues. -/
theorem State.Busy.send {s : State} (h : s.Busy) {f : Frame} (hf : classOf f.kind ≠ .voice) :
    s.send f = { s with ports := s.portsAfterOffer (s.routes f.target) (classOf f.kind).localQueue f } := by
  obtain ⟨hstate, htakes⟩ := h.offerRoutes (d := ⟨.plain, f⟩) hf
  change (s.offerRoutes f).state.settle (s.offerRoutes f).takes = _
  rw [show (s.offerRoutes f).takes = [] from htakes, State.settle_nil]
  exact hstate

/-! ### The stages -/

/-- The speed unit at its JOIN values, before a SPEED is built. -/
def State.startedSpeed (s : State) : Speed :=
  { s.speed with
    faces := ⟨startFaceSpeed s.config.vmax, startFaceSpeed s.config.vmax⟩, evaluationTimer := some (s.now + 10000) }

/-- The station has joined and its faces have started selection; nothing is sent yet. -/
def State.joinStarted (s : State) : State := (({ s with joined := true } : State).startSpeed.startSelecting .east).startSelecting .west

/-- The SPEED is built, and the sink chosen. -/
def State.joinSent (s : State) : State := s.joinStarted.buildSpeed.joinSink

section
variable (s : State)

theorem State.join_eq : s.join = s.joinSent.beginCalls.imagesNow := rfl

theorem State.startSelecting_eq (g : Face) : s.startSelecting g = { s with faces := (s.startSelecting g).faces } := by
  unfold State.startSelecting
  split
  · exact State.startSelection_eq g s
  · rfl

theorem State.joinStarted_eq :
    s.joinStarted = { s with joined := true, speed := s.startedSpeed, faces := s.joinStarted.faces } := by
  have hwest := State.startSelecting_eq (({ s with joined := true } : State).startSpeed.startSelecting .east) .west
  have heast := State.startSelecting_eq ({ s with joined := true } : State).startSpeed .east
  unfold State.joinStarted
  generalize State.startSelecting .west _ = t at hwest ⊢
  generalize State.startSelecting .east _ = u at hwest heast
  rw [hwest, heast]
  rfl

theorem State.joinStarted_selectsOnly : ({ s with joined := true } : State).SelectsOnly s.joinStarted :=
  ((State.SelectsOnly.of_faces (s := { s with joined := true }) (t := ({ s with joined := true } : State).startSpeed)
    rfl rfl rfl).trans (State.startSelecting_selectsOnly .east _)).trans (State.startSelecting_selectsOnly .west _)

/-- What the SPEED carries at JOIN: Vmax for both faces (R125, R136). -/
theorem State.joinStarted_speedFrame :
    s.joinStarted.speedFrameOf s.joinStarted.speed =
      s.newFrame .speed 0 1
        (SpeedFields.payload ⟨(s.config.vmax : Int), (s.config.vmax : Int), s.lit .east, s.lit .west⟩) := by
  have hlit (g : Face) : s.joinStarted.lit g = s.lit g := s.joinStarted_selectsOnly.lit g
  have hspeed : s.joinStarted.speed = s.startedSpeed := by rw [State.joinStarted_eq]
  have hnumber : s.joinStarted.number = s.number := by rw [State.joinStarted_eq]
  rw [hspeed]
  simp only [State.speedFrameOf, hlit, State.startedSpeed, startFaceSpeed, PerSide.get, ite_self, State.newFrame, hnumber] <;> rfl

/-- The choice of the sink depends on the ports' states and the reach views. -/
theorem State.chooseSink_congr {s t : State} (hports : ∀ p, (t.ports.get p).state = (s.ports.get p).state)
    (hreach : t.reach = s.reach) : t.chooseSink = s.chooseSink := by
  have heligible (p : Side) : t.eligible p = s.eligible p := by
    have hup : (t.ports.get p).isUp = (s.ports.get p).isUp := by rw [Port.isUp, Port.isUp, hports p]
    simp only [State.eligible, hup, hreach]
  have heast : t.ports.east.state = s.ports.east.state := hports .east
  have hwest : t.ports.west.state = s.ports.west.state := hports .west
  simp only [State.chooseSink, heligible, heast, hwest]

/-- The sink that a station which joins chooses (R169). -/
def State.sinkAtJoin : SinkChoice := if s.config.sink then .own else s.chooseSink

theorem State.buildSpeed_jobWork : s.JobWork s.buildSpeed := (jobKept_jobWork s).buildSpeed (State.JobWork.rfl' s)

theorem State.joinSent_eq :
    s.joinSent = (s.joinStarted.buildSpeed.withSink s.sinkAtJoin).tollTry := by
  have hwork := s.joinStarted.buildSpeed_jobWork
  have hstarted := s.joinStarted_eq
  have hsink : (if s.joinStarted.buildSpeed.config.sink then .own else s.joinStarted.buildSpeed.chooseSink) = s.sinkAtJoin := by
    have hconfig : s.joinStarted.buildSpeed.config = s.config := by rw [hwork.parts, hstarted]
    have hchoose : s.joinStarted.buildSpeed.chooseSink = s.chooseSink := by
      refine State.chooseSink_congr (fun p => (hwork.link p).1.trans ?_) ?_
      · rw [hstarted]
      · rw [hwork.parts, hstarted]
    rw [State.sinkAtJoin, hconfig, hchoose]
  rw [State.joinSent, State.joinSink, hsink, State.changeSink_eq]

end

/-! ### What JOIN leaves (R206) -/

/-- A station that joins: what its sending, its calls and its faces are not part of. -/
structure State.Joins (s t : State) : Prop where
  parts : t = { s with
    joined := true, circuits := t.circuits, claims := t.claims, calls := t.calls, callUnit := t.callUnit
    playout := t.playout, incidents := t.incidents, speed := t.speed, warnings := t.warnings, faces := t.faces
    faults := t.faults, ports := t.ports, deferred := t.deferred, toll := t.toll }
  link : ∀ p, (s.ports.get p).SameLink (t.ports.get p)
  sink : t.toll.sink = s.sinkAtJoin

theorem sendKept_joins (s : State) : SendKept s.Joins := by
  refine ⟨fun t d f h => ?_, fun t ds h => ?_, fun t d sink store timer _ _ h => ?_⟩
  all_goals obtain ⟨hparts, hlink, hsink⟩ := h
  · have hkept := t.offerPort_toll d f
    obtain ⟨ports, deferred, toll, hwork, hports⟩ := t.offerPort_lineWork d f
    generalize (t.offerPort d f).state = u at hwork hkept ⊢
    subst hwork
    refine ⟨?_, fun p => (hlink p).trans (hports p), ?_⟩
    · rw [hparts]
    · exact (congrArg Toll.sink hkept).trans hsink
  · exact ⟨by rw [hparts], hlink, hsink⟩
  · exact ⟨by rw [hparts], hlink, hsink⟩

theorem jobKept_joins (s : State) : JobKept s.Joins :=
  (sendKept_joins s).jobKept fun _ _ _ _ _ _ _ _ _ _ _ h => ⟨by rw [h.parts], h.link, h.sink⟩

section
variable (s : State)

theorem State.joinSent_joins : s.Joins s.joinSent := by
  have hwork := s.joinStarted.buildSpeed_jobWork
  have hstarted := s.joinStarted_eq
  have hports : s.joinStarted.ports = s.ports := by rw [hstarted]
  rw [State.joinSent_eq]
  refine (sendKept_joins s).tollTry ⟨?_, fun p => ?_, rfl⟩
  · generalize s.joinStarted.buildSpeed = u at hwork ⊢
    rw [hwork.parts, hstarted]
    rfl
  · exact hports ▸ hwork.link p

theorem State.join_joins : s.Joins s.join := (jobKept_joins s).imagesNow ((jobKept_joins s).beginCalls s.joinSent_joins)

/-- Sending leaves the units of the calls, the circuits and the signs as they were. -/
theorem State.joinSent_parts :
    s.joinSent = { s.joinStarted with
      speed := { s.joinStarted.speed with advertTimer := some (s.joinStarted.now + 5000) }
      ports := s.joinSent.ports, deferred := s.joinSent.deferred, toll := s.joinSent.toll } := by
  have hspeed := s.joinStarted.buildSpeed_parts
  have hsent := (State.tollTry_sends (s.joinStarted.buildSpeed.withSink s.sinkAtJoin)).parts
  rw [State.joinSent_eq]
  generalize (s.joinStarted.buildSpeed.withSink s.sinkAtJoin).tollTry = t at hsent ⊢
  generalize s.joinStarted.buildSpeed = u at hspeed hsent ⊢
  rw [hsent, hspeed]
  rfl

theorem State.joinSent_selectsOnly : ({ s with joined := true } : State).SelectsOnly s.joinSent := by
  have hparts := s.joinSent_parts
  refine s.joinStarted_selectsOnly.trans (.of_faces ?_ ?_ ?_)
  all_goals rw [hparts]

theorem State.joinSent_begun (hidle : ∀ b : Fin 4, s.calls[b].state = .idle) :
    ({ s with joined := true } : State).CallsBegun 4 s.joinSent.beginCalls := by
  have hparts := s.joinSent_parts
  have hstarted := s.joinStarted_eq
  have hcalls : s.joinSent.calls = s.calls := by rw [hparts, hstarted]
  refine (State.beginCalls_begun (s := s.joinSent) ?_ (by rw [hcalls]; exact hidle)).of_eq ?_ ?_ ?_ ?_ ?_ ?_ ?_
  all_goals rw [hparts, hstarted]

end

/-! ### Where no handset is off-hook and every port in use is busy -/

theorem State.Busy.buildSpeed {s : State} (h : s.Busy) :
    s.buildSpeed = { s with
      speed := { s.speed with advertTimer := some (s.now + 5000) }
      ports := s.portsAfterOffer s.upPorts .cl (s.speedFrameOf s.speed) } := by
  have hsend := h.send (f := s.speedFrameOf s.speed) (State.newFrame_not_voice (k := .speed) (by decide) _ _ _ s)
  have hbuild : s.buildSpeed =
      (s.send (s.speedFrameOf s.speed)).modSpeed fun x => { x with advertTimer := some (s.now + 5000) } := rfl
  rw [hbuild, hsend]
  rfl

theorem State.join_quiet {s : State} (hnone : ∀ b, s.begins b = false) (hbusy : s.Busy) (hstore : s.toll.store = []) :
    s.join = { s with
      joined := true, speed := { s.startedSpeed with advertTimer := some (s.now + 5000) }
      faces := s.join.faces, faults := s.join.faults
      ports := s.portsAfterOffer s.upPorts .cl (s.newFrame .speed 0 1
        (SpeedFields.payload ⟨(s.config.vmax : Int), (s.config.vmax : Int), s.lit .east, s.lit .west⟩))
      toll := { s.toll with sink := s.sinkAtJoin, resendTimer := none } } := by
  have hstarted := s.joinStarted_eq
  have hbusy' : s.joinStarted.Busy := by rw [hstarted]; exact hbusy
  have hspeed := hbusy'.buildSpeed
  rw [s.joinStarted_speedFrame] at hspeed
  have hstops : (s.joinStarted.buildSpeed.withSink s.sinkAtJoin).tollTry = s.joinStarted.buildSpeed.withSink s.sinkAtJoin := by
    refine State.tollTry_stops (.inr (.inl ?_))
    rw [hspeed, hstarted]
    simp [State.withSink, Toll.oldestQueued, hstore]
  have hsent := s.joinSent_eq.trans hstops
  have hbegun : s.joinSent.beginCalls = s.joinSent := by
    refine State.beginCalls_none fun b => ?_
    rw [← hnone b, hsent, hspeed, hstarted]
    rfl
  have himages := s.joinSent.imagesNow_eq
  rw [State.join_eq, hbegun]
  generalize s.joinSent.imagesNow = t at himages ⊢
  generalize t.faces = faces at himages ⊢
  rw [himages, hsent, hspeed]
  generalize s.joinStarted = u at hstarted ⊢
  generalize u.faces = starting at hstarted
  subst hstarted
  simp only [State.withSink, hstore, List.map_nil]
  rfl

end Sys2Proof.Machine
end

section
/-! CONFIGURE and JOIN start the station (R65, R125, R163, R169, R205, R206). -/
namespace Sys2Proof.Machine
open Sys2Proof

section
variable {s : State} (h : s.resetHeld = false) (hj : s.joined = false)
include h hj

theorem exec_join_refused (hn : s.number = 0) :
    exec (.join []) s = .next { s with response := ⟨.wrongState, .join, .none⟩ } := by
  have haccepts : s.Accepts .join ([] : List Word).length := ⟨h, by rw [hj]; rfl, rfl, rfl⟩
  change (.next (s.command .join [] joinBody) : Result) = _
  rw [haccepts.command_eq, joinBody, if_pos hn]
  rfl

theorem exec_join (hn : s.number ≠ 0) :
    exec (.join []) s = .next { s.join with response := ⟨.ok, .join, .none⟩ } := by
  have haccepts : s.Accepts .join ([] : List Word).length := ⟨h, by rw [hj]; rfl, rfl, rfl⟩
  change (.next (s.command .join [] joinBody) : Result) = _
  rw [haccepts.command_eq, joinBody, if_neg hn]
  rfl

end

theorem State.imageNow_sequence (g : Face) (s : State) : (s.imageNow g).sequence = (s.faces.get g).sequence := by
  rw [State.imageNow_of_sequence g (s := s) (t := s) rfl rfl rfl rfl]

/-- Each selecting face is sent one image at JOIN, and the others stay (R163). -/
theorem State.join_face (s : State) (g : Face) :
    (s.join.selecting g = false → s.join.faces.get g = s.faces.get g) ∧
      (s.join.selecting g = true → (s.join.faces.get g).sequence = (s.faces.get g).sequence + 1 ∧
        (s.join.faces.get g).image.map (fun i => i.sequence) = some (s.faces.get g).sequence ∧
        (s.join.faces.get g).refreshTimer = some (s.now + 200)) := by
  have hselects := s.joinSent_selectsOnly.trans s.joinSent.beginCalls_selectsOnly
  have hnow : s.joinSent.beginCalls.now = s.now := by
    rw [((jobKept_joins s).beginCalls s.joinSent_joins).parts]
  have hface := s.joinSent.beginCalls.imagesNow_face g
  have hparts := s.joinSent.beginCalls.imagesNow_eq
  have hselecting := hselects.selecting g
  have hmoved := hselects.face g
  have hstays := hselects.stays g
  have hjoin : s.join = s.joinSent.beginCalls.imagesNow := rfl
  rw [hjoin]
  generalize s.joinSent.beginCalls.imagesNow = t at hface hparts ⊢
  generalize s.joinSent.beginCalls = v at *
  have hsame : t.selecting g = v.selecting g := by
    have hdark : (t.faces.get g).dark = (v.faces.get g).dark := by
      rw [hface]
      split
      · rw [FaceUnit.sent_parts]
      · rfl
    rw [State.selecting, State.selecting, hdark, hparts]
  rw [hsame, hface]
  refine ⟨fun hnot => ?_, fun hs => ?_⟩
  · rw [if_neg (by rw [hnot]; decide)]
    exact hstays (hselecting.symm.trans hnot)
  · rw [if_pos hs, FaceUnit.sent_parts, hmoved, hnow]
    exact ⟨rfl, congrArg some ((v.imageNow_sequence g).trans (by rw [hmoved])), rfl⟩

/-- Settles O52. -/
theorem configureAndJoinStartTheStation : Obligations.ConfigureAndJoinStartTheStation := by
  refine ⟨fun args s h hj => ?_, fun s h hj => ⟨exec_join_refused h hj, fun hn hidle => ?_⟩⟩
  · intro inRange words
    have hwords (c : StationConfig) : words c = configWords c := by
      simp only [words, configWords, roleBits_reads, sideBits_reads (e := c.faceE)]
    refine ⟨fun c hc hargs => ?_, fun hnone => ?_⟩
    · rw [hwords] at hargs
      refine ⟨exec_configure_taken h hj ?_, hargs.symm⟩
      rw [hargs]
      exact parseConfig_words (c.valid_iff.2 hc)
    · refine exec_configure_refused h hj ?_
      cases hparse : parseConfig args with
      | none => rfl
      | some c =>
        obtain ⟨hvalid, hargs⟩ := words_of_parseConfig hparse
        exact absurd (hargs.trans (hwords c).symm) (hnone c (c.valid_iff.1 hvalid))
  · intro begins sink speed f
    have hjoins := s.join_joins
    have hbegun := s.joinSent_begun hidle
    have himages := s.joinSent.beginCalls.imagesNow_eq
    have hselects := s.joinSent_selectsOnly.trans s.joinSent.beginCalls_selectsOnly
    have hface := s.join_face
    have hquiet := State.join_quiet (s := s)
    have hroom := State.imagesNow_faults (s := s.joinSent.beginCalls)
    rw [← State.join_eq] at himages hroom
    refine ⟨_, exec_join h hj hn, ?_⟩
    generalize s.joinSent.beginCalls = v at *
    obtain ⟨hparts, hlink, hsink⟩ := hjoins
    generalize s.join = t at *
    refine ⟨?_, rfl, hsink, ?_, ?_, ?_, ?_, ?_, ?_, ?_, ?_, fun p => ?_, fun b hb => ?_, fun b hb => ?_, hface, fun hfew => ?_,
      fun hnone hbusy hstore => ?_⟩
    iterate 9 · rw [hparts]
    · obtain ⟨hstate, -, -, -, -, hhistory, htimer⟩ := hlink p
      exact ⟨hstate, hhistory, htimer⟩
    · rw [himages]
      exact hbegun.stays b (.inr hb)
    · obtain ⟨⟨circuit, hcall⟩, -, hmark⟩ := hbegun.begun b b.isLt hb
      rw [himages]
      simp only [hcall]
      refine ⟨rfl, ?_, rfl, rfl, hmark⟩
      simp only [begins, Bool.and_eq_true] at hb
      exact hb.2
    · refine (hroom fun g _ => ?_).trans hbegun.faults
      rw [hselects.face g]
      exact hfew g
    · have ht := hquiet hnone hbusy hstore
      generalize hfaces : t.faces = faces at ht
      generalize hfaults : t.faults = faults at ht
      subst ht
      rfl

end Sys2Proof.Machine
end

section
/-! Frames that wait where every port in use is busy (R31, R38, R88): the CL of each such port fills up, and what waits there or
stays deferred is there at the end. -/
namespace Sys2Proof.Machine
open Sys2Proof

/-! ### Queues that fill up -/

/-- The CL of the ports in use has room for `n` more frames and the deferred list too; beside the CL the ports are `x`, and the
toll unit is `toll`. -/
structure State.Fills (x : PerSide Port) (toll : Toll) (n : Nat) (s : State) : Prop where
  port : ∀ p, s.ports.get p =
    { x.get p with queues := { (x.get p).queues with cl := (s.ports.get p).queues.cl } }
  room : ∀ p, (s.ports.get p).queues.cl.length + n ≤ 16
  idle : ∀ p, (x.get p).isUp = false → (s.ports.get p).queues.cl = (x.get p).queues.cl
  deferred : s.deferred.length + n ≤ 16
  toll : s.toll = toll

namespace State.Fills

variable {x : PerSide Port} {toll : Toll} {n : Nat} {s t : State}

/-- A step that sends nothing and defers nothing. -/
theorem of_eq (h : s.Fills x toll n) (hports : t.ports = s.ports) (hdeferred : t.deferred.length ≤ s.deferred.length)
    (htoll : t.toll = s.toll) : t.Fills x toll n where
  port p := by rw [hports]; exact h.port p
  room p := by rw [hports]; exact h.room p
  idle p hp := by rw [hports]; exact h.idle p hp
  deferred := by have := h.deferred; omega
  toll := htoll.trans h.toll

theorem mono {m : Nat} (h : s.Fills x toll n) (hm : m ≤ n) : s.Fills x toll m where
  port := h.port
  room p := by have := h.room p; omega
  idle := h.idle
  deferred := by have := h.deferred; omega
  toll := h.toll

theorem isUp (h : s.Fills x toll n) (p : Side) : (s.ports.get p).isUp = (x.get p).isUp := by rw [h.port p]; rfl

theorem sending (h : s.Fills x toll n) (p : Side) : (s.ports.get p).sending = (x.get p).sending := by rw [h.port p]

theorem busy (h : s.Fills x toll n) (hx : ∀ p, (x.get p).isUp = true → (x.get p).sending.isSome = true) : s.Busy :=
  fun p hp => by
    rw [h.sending]
    exact hx p ((h.isUp p).symm.trans hp)

/-- A control frame joins the CL of each port that it is routed to, or comes to the deferred list where there is none. -/
theorem offered (h : s.Fills x toll (n + 1)) (hx : ∀ p, (x.get p).isUp = true → (x.get p).sending.isSome = true)
    {tag : Option DeferTag} {f : Frame} (hf : (classOf f.kind).localQueue = .cl) (ht : s.Offered tag f t) :
    t.Fills x toll n ∧
      (∀ p, (t.ports.get p).queues.cl =
        if p ∈ s.routes f.target then (s.ports.get p).queues.cl ++ [f] else (s.ports.get p).queues.cl) ∧
      ∀ g, tag = some g → s.routes f.target = [] → t.deferred = deferredAfter g f s.deferred := by
  have hnotFull (p : Side) : ¬s.FullAt p (classOf f.kind).localQueue := by
    rintro ⟨hfull, -⟩
    rw [hf] at hfull
    have := h.room p
    change 16 ≤ (s.ports.get p).queues.cl.length at hfull
    omega
  obtain ⟨hroom, hnone⟩ := ht
  have hbusy := h.busy hx
  by_cases hroutes : s.routes f.target = []
  · obtain ⟨hports, htoll, hdeferred⟩ := hnone (by rw [hroutes]; exact fun p hp => (nomatch hp))
    have hlength : t.deferred.length ≤ s.deferred.length + 1 := by
      rw [hdeferred]
      cases tag with
      | none => exact Nat.le_succ _
      | some g =>
        have hfilter := List.length_filter_le (fun d : Deferred => !g.replaces d.tag) s.deferred
        dsimp only [deferredAfter]
        split
        · rw [List.length_append, List.length_singleton]
          omega
        · omega
    refine ⟨⟨fun p => ?_, fun p => ?_, fun p => ?_, ?_, htoll.trans h.toll⟩, fun p => ?_, fun g hg _ => by rw [hdeferred, hg]⟩
    · rw [hports]; exact h.port p
    · rw [hports]; have := h.room p; omega
    · rw [hports]; exact h.idle p
    · have := h.deferred; omega
    · rw [hports, hroutes, if_neg List.not_mem_nil]
  · obtain ⟨p, ps, hcons⟩ := List.exists_cons_of_ne_nil hroutes
    obtain ⟨hports, hdeferred, htoll⟩ := hroom ⟨p, by rw [hcons]; exact List.mem_cons_self, hnotFull p⟩
      fun q hq => .inl (hbusy q (State.isUp_of_mem_routes hq))
    have hget (q : Side) : t.ports.get q =
        if q ∈ s.routes f.target then
          { s.ports.get q with
            queues := { (s.ports.get q).queues with cl := (s.ports.get q).queues.cl ++ [f] } }
        else s.ports.get q := by
      rw [hports, State.portsAfterOffer_get]
      split
      next hq =>
        have hlength : ((s.ports.get q).queues.get .cl).length < QueueName.capacity .cl := by
          have := h.room q
          change (s.ports.get q).queues.cl.length < 16
          omega
        rw [hf, Port.afterOffer, if_pos (hbusy q (State.isUp_of_mem_routes hq)), if_pos hlength]
        rfl
      · rfl
    refine ⟨⟨fun q => ?_, fun q => ?_, fun q hq => ?_, ?_, htoll.trans h.toll⟩, fun q => ?_, fun _ _ e => absurd e hroutes⟩
    · rw [hget]
      have hport := h.port q
      split
      · rw [hport]
      · exact hport
    · rw [hget]
      have := h.room q
      split
      · simp only [List.length_append, List.length_singleton]
        omega
      · omega
    · have hnot : q ∉ s.routes f.target := fun hmem => by
        have := State.isUp_of_mem_routes hmem
        rw [h.isUp, hq] at this
        cases this
      rw [hget, if_neg hnot]
      exact h.idle q hq
    · have := h.deferred
      rw [hdeferred]
      omega
    · rw [hget]
      split <;> rfl

end State.Fills

/-! ### Frames that are told -/

/-- At a busy port the frame waits in the CL. -/
def State.WaitsAt (p : Side) (f : Frame) (s : State) : Prop :=
  (s.ports.get p).sending.isSome = true ∧ f ∈ (s.ports.get p).queues.cl

/-- A busy port's CL loses nothing by an offer. -/
theorem Port.offer_keeps_cl {x : Port} (hs : x.sending.isSome = true) (q : QueueName) (g : Frame) :
    (x.offer q g).port.sending.isSome = true ∧ x.queues.cl ⊆ (x.offer q g).port.queues.cl := by
  by_cases hroom : (x.queues.get q).length < q.capacity
  · rw [Port.offer_waits g hs hroom]
    refine ⟨hs, ?_⟩
    cases q
    case cl => exact List.subset_append_left _ _
    all_goals exact List.Subset.refl _
  · obtain ⟨-, -, h⟩ | ⟨held, -, ⟨-, h⟩ | ⟨hidle, -⟩⟩ := x.offer_cases q g
    · rw [h]
      exact ⟨hs, List.Subset.refl _⟩
    · cases q
      case cl => rw [Port.offer_refused g rfl (Nat.not_lt.1 hroom)]; exact ⟨hs, List.Subset.refl _⟩
      all_goals rw [h]; exact ⟨hs, List.Subset.refl _⟩
    · rw [hidle] at hs
      cases hs

theorem sendKept_waitsAt (p : Side) (f : Frame) : SendKept (State.WaitsAt p f) where
  offer s d g h := by
    unfold State.offerPort
    split
    · obtain ⟨hbusy, hmem⟩ := h
      obtain ⟨hsending, hkept⟩ := Port.offer_keeps_cl hbusy (classOf g.kind).localQueue g
      unfold State.WaitsAt
      simp only [State.offerQueue, State.modPort, PerSide.get_set]
      split
      next hd => exact hd ▸ ⟨hsending, hkept hmem⟩
      · exact ⟨hbusy, hmem⟩
    · exact h
  deferred _ _ h := h
  toll _ _ _ _ _ _ _ h := h

theorem jobKept_waitsAt (p : Side) (f : Frame) : JobKept (State.WaitsAt p f) :=
  (sendKept_waitsAt p f).jobKept fun _ _ _ _ _ _ _ _ _ _ _ h => h

/-- No port is in use, and the frame stays deferred. -/
def State.StaysDeferred (f : Frame) (s : State) : Prop :=
  (∀ p, (s.ports.get p).isUp = false) ∧ ∃ d ∈ s.deferred, d.tag = .plain ∧ d.frame = f

theorem State.routes_of_down {s : State} (h : ∀ p, (s.ports.get p).isUp = false) (target : Nat) : s.routes target = [] :=
  List.eq_nil_iff_forall_not_mem.2 fun p hp => by
    have := State.isUp_of_mem_routes hp
    rw [h p] at this
    cases this

theorem State.sendTold_of_down {s : State} (h : ∀ p, (s.ports.get p).isUp = false) (f : Frame) : s.sendTold f = (false, s) := by
  simp only [State.sendTold, State.offerRoutes, State.routes_of_down h, State.offerTo, List.foldl_nil, State.settle_nil]

theorem jobKept_staysDeferred (f : Frame) : JobKept (State.StaysDeferred f) where
  send s g h := by
    have hsame : s.send g = s := congrArg Prod.snd (State.sendTold_of_down h.1 g)
    rw [hsame]
    exact h
  sendOneOff s tag g h := by
    obtain ⟨hdown, d, hmem, htag, hframe⟩ := h
    have hsame : s.sendOneOff tag g = { s with deferred := deferredAfter tag g s.deferred } := by
      simp [State.sendOneOff, State.sendTold_of_down hdown, State.defer_deferred]
    rw [hsame]
    refine ⟨hdown, d, ?_, htag, hframe⟩
    have hkept : d ∈ s.deferred.filter fun d => !tag.replaces d.tag :=
      List.mem_filter.2 ⟨hmem, by rw [htag]; cases tag <;> rfl⟩
    unfold deferredAfter
    split
    · exact List.mem_append_left _ hkept
    · exact hkept
  withdraw s tag hne h := by
    obtain ⟨hdown, d, hmem, htag, hframe⟩ := h
    exact ⟨hdown, d, List.mem_filter.2 ⟨hmem, by rw [htag]; simpa using Ne.symm hne⟩, htag, hframe⟩
  put _ _ _ _ _ _ _ _ _ _ _ h := h

/-- The frame waits at each of these ports, or stays deferred where there is none. -/
def State.Told (ps : List Side) (f : Frame) (s : State) : Prop :=
  (∀ p ∈ ps, s.WaitsAt p f) ∧ (ps = [] → s.StaysDeferred f)

theorem jobKept_told (ps : List Side) (f : Frame) : JobKept (State.Told ps f) where
  send s g h := ⟨fun p hp => (jobKept_waitsAt p f).send s g (h.1 p hp), fun e => (jobKept_staysDeferred f).send s g (h.2 e)⟩
  sendOneOff s tag g h :=
    ⟨fun p hp => (jobKept_waitsAt p f).sendOneOff s tag g (h.1 p hp),
      fun e => (jobKept_staysDeferred f).sendOneOff s tag g (h.2 e)⟩
  withdraw s tag hne h :=
    ⟨fun p hp => (jobKept_waitsAt p f).withdraw s tag hne (h.1 p hp),
      fun e => (jobKept_staysDeferred f).withdraw s tag hne (h.2 e)⟩
  put _ _ _ _ _ _ _ _ _ _ _ h := h

end Sys2Proof.Machine
end

section
/-! The calls and the lanes that RESTART ends, one after another (R88): what becomes of each, and the frames that this offers. -/
namespace Sys2Proof.Machine
open Sys2Proof

/-! ### Routes -/

theorem State.routes_congr {s t : State} (hmap : t.map = s.map) (hup : ∀ p, (t.ports.get p).isUp = (s.ports.get p).isUp)
    (target : Nat) : t.routes target = s.routes target := by
  have hports : t.upPorts = s.upPorts := by simp only [State.upPorts, hup]
  have hentry : t.mapEntry target = s.mapEntry target := by simp only [State.mapEntry, hmap]
  simp only [State.routes, hentry, hup, hports]

/-! ### One call -/

section
variable {x : PerSide Port} {toll : Toll} {n : Nat} {s : State} {b : Fin 4}

theorem State.Fills.putCall (h : s.Fills x toll n) (r : CallRecord) : (s.putCall b r).Fills x toll n := by
  by_cases hstate : r.state = s.calls[b].state
  · simp only [State.putCall, if_pos hstate]
    split
    · exact h.of_eq rfl (Nat.le_refl _) rfl
    · exact h.of_eq rfl (Nat.le_refl _) rfl
  · rw [State.putCall_changes hstate]
    refine h.of_eq rfl ?_ rfl
    dsimp only
    split
    · exact List.length_filter_le _ _
    · exact Nat.le_refl _

theorem State.Fills.staysDeferred {f : Frame} (h : s.Fills x toll (n + 1)) {t : State} (ht : t.Fills x toll n)
    (hnone : ∀ p, (s.ports.get p).isUp = false) (hdeferred : t.deferred = deferredAfter .plain f s.deferred) :
    t.StaysDeferred f := by
  refine ⟨fun p => ?_, ⟨.plain, f⟩, ?_, rfl, rfl⟩
  · rw [ht.isUp, ← h.isUp, hnone]
  · have := h.deferred
    have hfilter := List.length_filter_le (fun d : Deferred => !DeferTag.plain.replaces d.tag) s.deferred
    rw [hdeferred, deferredAfter, if_pos (by omega)]
    exact List.mem_append_right _ List.mem_cons_self

theorem State.routes_eq_nil_iff (target : Nat) (s : State) : s.routes target = [] ↔ ∀ p, (s.ports.get p).isUp = false := by
  refine ⟨fun h p => ?_, fun h => State.routes_of_down h target⟩
  obtain hall | ⟨q, hq⟩ := s.routes_cases target
  · refine Bool.eq_false_iff.2 fun hup => ?_
    have hmem : p ∈ s.upPorts := State.mem_upPorts.2 hup
    rw [← hall, h] at hmem
    cases hmem
  · rw [hq.1] at h
    cases h

theorem State.Fills.putLane (h : s.Fills x toll n) (l : Fin 2) (r : OpLane) : (s.putLane l r).Fills x toll n := by
  unfold State.putLane
  dsimp only
  generalize (if r.state = s.callUnit.lanes[l].state then r else { r with changedAt := s.now }) = y
  split
  · exact h.of_eq rfl (Nat.le_refl _) rfl
  · split
    · exact h.of_eq rfl (List.length_filter_le _ _) rfl
    · exact h.of_eq rfl (Nat.le_refl _) rfl

variable (hx : ∀ p, (x.get p).isUp = true → (x.get p).sending.isSome = true)
include hx

/-- A one-off control frame that is offered while queues have room (R23, R31, R38). -/
theorem State.Fills.sendOneOff (h : s.Fills x toll (n + 1)) (tag : DeferTag) {k : FrameKind}
    (hk : (classOf k.code).localQueue = .cl) (target limit : Nat) (payload : List Byte) :
    (s.sendOneOff tag (s.newFrame k target limit payload)).Fills x toll n ∧
      (∀ p ∈ s.routes target,
        (s.sendOneOff tag (s.newFrame k target limit payload)).WaitsAt p (s.newFrame k target limit payload)) ∧
      (s.routes target = [] →
        (s.sendOneOff tag (s.newFrame k target limit payload)).deferred =
          deferredAfter tag (s.newFrame k target limit payload) s.deferred) := by
  have hvoice : classOf k.code ≠ .voice := fun e => by rw [e] at hk; cases hk
  obtain ⟨hfills, hqueues, hdeferred⟩ :=
    h.offered hx (f := s.newFrame k target limit payload) hk (State.sendOneOff_offered (tag := tag) hvoice)
  refine ⟨hfills, fun p hp => ⟨?_, ?_⟩, hdeferred tag rfl⟩
  · rw [hfills.sending]
    exact hx p ((h.isUp p).symm.trans (State.isUp_of_mem_routes hp))
  · rw [hqueues p, if_pos (show p ∈ s.routes (s.newFrame k target limit payload).target from hp)]
    exact List.mem_append_right _ List.mem_cons_self

/-- A HANGUP that is offered while queues have room. -/
theorem State.Fills.hangup (h : s.Fills x toll (n + 1)) (target : Nat) (payload : List Byte) :
    (s.sendOneOff .plain (s.newFrame .hangup target 63 payload)).Fills x toll n ∧
      (s.sendOneOff .plain (s.newFrame .hangup target 63 payload)).Told (s.routes target)
        (s.newFrame .hangup target 63 payload) := by
  obtain ⟨hfills, hwaits, hdeferred⟩ := h.sendOneOff hx .plain (k := .hangup) rfl target 63 payload
  exact ⟨hfills, hwaits, fun e => h.staysDeferred hfills ((State.routes_eq_nil_iff target s).1 e) (hdeferred e)⟩

/-- The release of a call's circuit while queues have room. -/
theorem State.Fills.releaseCall (h : s.Fills x toll (n + 1)) :
    (s.releaseCall b).Fills x toll n ∧
      ∀ c, s.boundCircuit b = some c → ∀ p ∈ s.upPorts,
        (s.releaseCall b).WaitsAt p (s.newFrame .release 0 63 [circuitByte c]) := by
  cases hc : s.boundCircuit b with
  | none =>
    rw [State.releaseCall_unbound hc]
    exact ⟨(h.mono (Nat.le_succ _)).of_eq rfl (Nat.le_refl _) rfl, fun c hc => (nomatch hc)⟩
  | some c =>
    have hreleased : (s.nowReleased b c).Fills x toll (n + 1) := h.of_eq rfl (List.length_filter_le _ _) rfl
    obtain ⟨hfills, hwaits, -⟩ := hreleased.sendOneOff hx (.release c) (k := .release) rfl 0 63 [circuitByte c]
    rw [State.releaseCall_bound hc]
    refine ⟨hfills, fun d hd => ?_⟩
    cases hd
    exact hwaits

/-- The end of one call while queues have room: its HANGUP and its RELEASE are offered. -/
theorem State.Fills.restartCall (h : s.Fills x toll (n + 2)) :
    (s.restartCall b).Fills x toll n ∧
      (∀ q, s.calls[b].state = .connected → s.calls[b].partner = some q →
        (s.restartCall b).Told (s.routes q.station) (s.newFrame .hangup q.station 63 [s.calls[b].callId.getD 0, 1])) ∧
      ∀ c, s.calls[b].state ≠ .idle → s.boundCircuit b = some c → ∀ p ∈ s.upPorts,
        (s.restartCall b).WaitsAt p (s.newFrame .release 0 63 [circuitByte c]) := by
  unfold State.restartCall
  split
  next hidle =>
    refine ⟨h.mono (Nat.le_add_right _ _), fun q hq => ?_, fun c hc => absurd hidle hc⟩
    rw [hidle] at hq
    cases hq
  next hidle =>
    have htold : (s.hangupPartner b).Fills x toll (n + 1) ∧
        ∀ q, s.calls[b].state = .connected → s.calls[b].partner = some q →
          (s.hangupPartner b).Told (s.routes q.station)
            (s.newFrame .hangup q.station 63 [s.calls[b].callId.getD 0, 1]) := by
      unfold State.hangupPartner
      dsimp only
      split
      next q hstate hpartner =>
        obtain ⟨hfills, hsent⟩ := h.hangup hx q.station (hangupPayload (s.calls[b].callId.getD 0) true)
        refine ⟨hfills, fun q' _ hq' => ?_⟩
        rw [hpartner] at hq'
        cases hq'
        exact hsent
      next hnot => exact ⟨h.mono (Nat.le_succ _), fun q hstate hq => absurd hq (hnot q hstate)⟩
    obtain ⟨hfills, htold⟩ := htold
    obtain ⟨u, hu, hparts, -, -⟩ := s.hangupPartner_parts b
    rw [hu] at hfills htold
    have hend : s.endCall b = (u.releaseCall b).putCall b
        { (u.releaseCall b).calls[b] with
          state := .idle, circuit := none, partner := none, offerCount := none, offeringSince := none, offerTimer := none,
          incidentTimer := none, silenceTimer := none } := by
      rw [← hu]
      rfl
    obtain ⟨hreleased, hwaits⟩ := hfills.releaseCall hx (b := b)
    have hup : u.upPorts = s.upPorts := by
      simp only [State.upPorts, hfills.isUp, h.isUp]
    have hbound : u.boundCircuit b = s.boundCircuit b := by rw [hparts]; rfl
    have hframe (c : Fin 16) : u.newFrame .release 0 63 [circuitByte c] = s.newFrame .release 0 63 [circuitByte c] := by
      rw [hparts]
      rfl
    simp only [hup, hbound, hframe] at hwaits
    rw [hend]
    exact ⟨hreleased.putCall _, fun q hstate hq => (jobKept_told _ _).putCall b _ ((jobKept_told _ _).releaseCall b
      (htold q hstate hq)), fun c _ hc p hp => (jobKept_waitsAt p _).putCall b _ (hwaits c hc p hp)⟩

/-- The end of one lane while queues have room: its HANGUP is offered. -/
theorem State.Fills.restartLane (l : Fin 2) (h : s.Fills x toll (n + 1)) :
    (s.restartLane l).Fills x toll n ∧
      ∀ c, s.callUnit.lanes[l].state = .taking ∨ s.callUnit.lanes[l].state = .talking →
        s.callUnit.lanes[l].call = some c →
        (s.restartLane l).Told (s.routes c.origin) (s.newFrame .hangup c.origin 63 [c.callId, 0]) := by
  have htold : (s.hangupCaller l).Fills x toll n ∧
      ∀ c, s.callUnit.lanes[l].state = .taking ∨ s.callUnit.lanes[l].state = .talking →
        s.callUnit.lanes[l].call = some c →
        (s.hangupCaller l).Told (s.routes c.origin) (s.newFrame .hangup c.origin 63 [c.callId, 0]) := by
    unfold State.hangupCaller
    dsimp only
    cases hcall : s.callUnit.lanes[l].call with
    | none => exact ⟨h.mono (Nat.le_succ _), fun c _ hc => (nomatch hc)⟩
    | some c =>
      dsimp only
      split
      · obtain ⟨hfills, hsent⟩ := h.hangup hx c.origin (hangupPayload c.callId false)
        refine ⟨hfills, fun d _ hd => ?_⟩
        cases hd
        exact hsent
      next hnot => exact ⟨h.mono (Nat.le_succ _), fun d hd _ => absurd hd hnot⟩
  exact ⟨htold.1.putLane l _, fun c hstate hc => (jobKept_told _ _).putLane l _ (htold.2 c hstate hc)⟩

end

end Sys2Proof.Machine
end

section
/-! What RESTART makes of the records of calls and lanes (R60, R88, R103). -/
namespace Sys2Proof.Machine
open Sys2Proof

/-! ### The calls -/

theorem Circuit.boundTo_inj {x : Circuit} {b b' : Fin 4} (h : x.boundTo b = true) (h' : x.boundTo b' = true) : b = b' := by
  cases x
  case free | heldOther => cases h
  all_goals exact (eq_of_beq h).symm.trans (eq_of_beq h')

theorem State.boundCircuit_of_bound {b : Fin 4} {c : Fin 16} {s : State} (hcall : s.calls[b].circuit = some c)
    (hbound : s.circuits[c].boundTo b = true) : s.boundCircuit b = some c := by
  simp only [State.boundCircuit, hcall, hbound, if_true]

/-- From `s` to `t` the calls below `n` have ended. -/
structure State.CallsEnded (n : Nat) (s t : State) : Prop where
  parts : t = { s with
    circuits := t.circuits, claims := t.claims, calls := t.calls
    callUnit := { s.callUnit with callsChanged := t.callUnit.callsChanged }
    playout := { s.playout with boxes := t.playout.boxes, tones := t.playout.tones }
    ports := t.ports, deferred := t.deferred, toll := t.toll }
  stays : ∀ b : Fin 4, n ≤ b.val ∨ s.calls[b].state = .idle → t.calls[b] = s.calls[b]
  ended : ∀ b : Fin 4, b.val < n → s.calls[b].state ≠ .idle →
    t.calls[b] = s.endedCall b ∧ t.callUnit.callsChanged = true
  circuits : ∀ c : Fin 16, t.circuits[c] = s.circuits[c] ∨
    t.circuits[c] = .free ∧ ∃ b : Fin 4, b.val < n ∧ s.circuits[c].boundTo b = true
  freed : ∀ (b : Fin 4) (c : Fin 16), b.val < n → s.calls[b].state ≠ .idle → s.boundCircuit b = some c →
    t.circuits[c] = .free
  playout : ∀ b : Fin 4, t.playout.boxes[b].playoutTimer = s.playout.boxes[b].playoutTimer

theorem State.CallsEnded.start (s : State) : s.CallsEnded 0 s where
  parts := rfl
  stays _ _ := rfl
  ended _ h := absurd h (Nat.not_lt_zero _)
  circuits _ := .inl rfl
  freed _ _ h := absurd h (Nat.not_lt_zero _)
  playout _ := rfl

section
variable {b : Fin 4} {s t : State}

theorem State.circuitsReleased_getElem (b : Fin 4) (c : Fin 16) (s : State) :
    (s.circuitsReleased b)[c] = if s.boundCircuit b = some c then .free else s.circuits[c] := by
  unfold State.circuitsReleased
  cases s.boundCircuit b with
  | none => rfl
  | some d =>
    by_cases hd : d.val = c.val
    · rw [if_pos (congrArg some (Fin.ext hd))]
      obtain rfl := Fin.ext hd
      exact Vector.getElem_set_self d.isLt
    · rw [if_neg fun e => hd (congrArg Fin.val (Option.some.inj e))]
      exact Vector.getElem_set_ne d.isLt c.isLt hd

/-- A call that has not ended yet is bound as it was. -/
theorem State.CallsEnded.boundCircuit (h : s.CallsEnded b.val t) : t.boundCircuit b = s.boundCircuit b := by
  have hcircuit (c : Fin 16) : t.circuits[c].boundTo b = s.circuits[c].boundTo b := by
    obtain hsame | ⟨hfree, b', hlt, hbound⟩ := h.circuits c
    · rw [hsame]
    · have hnot : ¬s.circuits[c].boundTo b = true := fun e => by
        rw [Circuit.boundTo_inj e hbound] at hlt
        exact Nat.lt_irrefl _ hlt
      rw [hfree, Bool.eq_false_iff.2 hnot]
      rfl
  simp only [State.boundCircuit, h.stays b (.inl (Nat.le_refl _)), hcircuit]

theorem State.CallsEnded.step (h : s.CallsEnded b.val t) : s.CallsEnded (b.val + 1) (t.restartCall b) := by
  have hcall := h.stays b (.inl (Nat.le_refl _))
  have hbound := h.boundCircuit
  have hnow : t.now = s.now := by rw [h.parts]
  unfold State.restartCall
  split
  next hidle =>
    rw [hcall] at hidle
    have hlt {x : Fin 4} (hx : x.val < b.val + 1) (hne : s.calls[x].state ≠ .idle) : x.val < b.val := by
      have hneq : x ≠ b := fun e => hne (e ▸ hidle)
      have := Fin.val_ne_of_ne hneq
      omega
    exact
      { parts := h.parts
        stays := fun x hx => h.stays x (hx.imp_left (by omega))
        ended := fun x hx hne => h.ended x (hlt hx hne) hne
        circuits := fun c => (h.circuits c).imp_right fun ⟨hfree, x, hx, hb⟩ => ⟨hfree, x, by omega, hb⟩
        freed := fun x c hx hne => h.freed x c (hlt hx hne) hne
        playout := h.playout }
  next hidle =>
    have hended : t.endedCall b = s.endedCall b := by rw [State.endedCall, State.endedCall, hcall, hnow]
    obtain ⟨u, w, hend, -⟩ := State.endCall_parts (b := b) (s := t) hidle
    rw [hcall] at hidle
    have hcircuits (c : Fin 16) : (t.circuitsReleased b)[c] = if s.boundCircuit b = some c then .free else t.circuits[c] :=
      hbound ▸ t.circuitsReleased_getElem b c
    rw [hend]
    generalize t.endCall b = v at hend
    have hother {x : Fin 4} (hne : b.val ≠ x.val) : (t.calls.set b (t.endedCall b))[x] = t.calls[x] :=
      Vector.getElem_set_ne b.isLt x.isLt hne
    refine ⟨?_, fun x hx => ?_, fun x hx hne => ?_, fun c => ?_, fun x c hx hne hc => ?_, fun x => ?_⟩
    · have hparts := h.parts
      generalize t.callUnit.callsChanged = changed at hparts
      generalize t.playout.boxes = boxes at hparts ⊢
      rw [hparts]
      rfl
    · have hne : b.val ≠ x.val := fun e => by
        obtain hx | hx := hx
        · omega
        · exact hidle (Fin.ext e ▸ hx)
      exact (hother hne).trans (h.stays x (hx.imp_left (by omega)))
    · by_cases e : b.val = x.val
      · obtain rfl := Fin.ext e
        exact ⟨(Vector.getElem_set_self b.isLt).trans hended, rfl⟩
      · exact ⟨(hother e).trans (h.ended x (by omega) hne).1, rfl⟩
    · change (t.circuitsReleased b)[c] = _ ∨ (t.circuitsReleased b)[c] = _ ∧ _
      rw [hcircuits]
      split
      next hc => exact .inr ⟨rfl, b, Nat.lt_succ_self _, (State.boundCircuit_some hc).2⟩
      · exact (h.circuits c).imp_right fun ⟨hfree, x, hx, hb⟩ => ⟨hfree, x, by omega, hb⟩
    · change (t.circuitsReleased b)[c] = _
      rw [hcircuits]
      split
      · rfl
      next hnot =>
        have hneq : b.val ≠ x.val := fun e => hnot (Fin.ext e ▸ hc)
        exact h.freed x c (by omega) hne hc
    · by_cases e : b.val = x.val
      · obtain rfl := Fin.ext e
        have hself := Vector.getElem_set_self (xs := t.playout.boxes) (x := { t.playout.boxes[b] with
          store := emptyStore, sendTimer := none }) b.isLt
        exact (congrArg Audio.playoutTimer hself).trans (h.playout b)
      · exact (congrArg Audio.playoutTimer (Vector.getElem_set_ne b.isLt x.isLt e)).trans (h.playout x)

end

end Sys2Proof.Machine
end

section
/-! The second stage of RESTART (R60, R88, R103): what it makes of the records, and the frames that wait after it. -/
namespace Sys2Proof.Machine
open Sys2Proof

/-! ### The lanes -/

/-- A lane that RESTART has ended. -/
def State.endedLane (l : Fin 2) (s : State) : OpLane :=
  { resetLane with changedAt := if s.callUnit.lanes[l].state = .idle then s.callUnit.lanes[l].changedAt else s.now }

/-- A lane's outcome alone changes. -/
theorem State.putLane_outcome {l : Fin 2} {s : State} {r : OpLane} (hstate : r.state = s.callUnit.lanes[l].state)
    (houtcome : r.outcome ≠ s.callUnit.lanes[l].outcome) :
    s.putLane l r =
      { s with
        callUnit := { s.callUnit with callsChanged := true, lanes := s.callUnit.lanes.set l r }
        playout := s.playoutAfterLane l s.callUnit.lanes[l].state r.state
        deferred := if r.state = .idle ∨ r.state = .lost then s.deferred.filter fun d => d.tag != .take l
          else s.deferred } := by
  simp only [State.putLane, if_pos hstate]
  rw [if_neg fun h => houtcome h.2]
  split <;> rfl

/-- From `s` to `t` lanes changed, and with them playout and queues. -/
def State.LaneWork (s t : State) : Prop :=
  t = { s with
    callUnit := { s.callUnit with lanes := t.callUnit.lanes, callsChanged := t.callUnit.callsChanged }
    playout := { s.playout with lanes := t.playout.lanes }
    ports := t.ports, deferred := t.deferred, toll := t.toll }

theorem State.LaneWork.trans {s t u : State} (h : s.LaneWork t) (k : t.LaneWork u) : s.LaneWork u :=
  Eq.trans k (by rw [h])

/-- From `s` to `t` this lane has ended, and a change of its state has set the calls-changed mark. -/
structure State.LaneEnded (l : Fin 2) (s t : State) : Prop where
  work : s.LaneWork t
  lanes : t.callUnit.lanes = s.callUnit.lanes.set l (s.endedLane l)
  audio : ∃ audio, t.playout.lanes = s.playout.lanes.set l audio ∧ audio.playoutTimer = s.playout.lanes[l].playoutTimer

theorem State.laneToIdle_ended (l : Fin 2) (s : State) : s.LaneEnded l (s.laneToIdle l .none) := by
  by_cases hstate : s.callUnit.lanes[l].state = .idle
  · have hlane : s.endedLane l = { resetLane with outcome := .none, changedAt := s.callUnit.lanes[l].changedAt } := by
      rw [State.endedLane, if_pos hstate]
      rfl
    by_cases houtcome : s.callUnit.lanes[l].outcome = .none
    · rw [State.laneToIdle, State.putLane_same hstate.symm houtcome.symm, ← hlane]
      exact ⟨rfl, rfl, s.playout.lanes[l], (Vector.set_getElem_self l.isLt).symm, rfl⟩
    · rw [State.laneToIdle, State.putLane_outcome hstate.symm (Ne.symm houtcome), ← hlane]
      exact ⟨rfl, rfl, _, rfl, rfl⟩
  · have hlane : s.endedLane l = { resetLane with outcome := .none, changedAt := s.now } := by
      rw [State.endedLane, if_neg hstate]
      rfl
    rw [State.laneToIdle_eq hstate, ← hlane]
    exact ⟨rfl, rfl, _, rfl, rfl⟩

theorem State.restartLane_ended (l : Fin 2) (s : State) : s.LaneEnded l (s.restartLane l) := by
  obtain ⟨hparts, -, -⟩ := s.hangupCaller_parts l
  obtain ⟨hwork, hlanes, haudio⟩ := (s.hangupCaller l).laneToIdle_ended l
  change s.LaneEnded l ((s.hangupCaller l).laneToIdle l .none)
  generalize (s.hangupCaller l).laneToIdle l .none = t at hwork hlanes haudio ⊢
  generalize s.hangupCaller l = u at hparts hwork hlanes haudio
  have hhung : s.LaneWork u := by
    unfold State.LaneWork
    rw [hparts]
  have hended : u.endedLane l = s.endedLane l := by rw [State.endedLane, State.endedLane, hparts]
  have hunit : u.callUnit = s.callUnit := by rw [hparts]
  have hplayout : u.playout = s.playout := by rw [hparts]
  rw [hended, hunit] at hlanes
  rw [hplayout] at haudio
  exact ⟨hhung.trans hwork, hlanes, haudio⟩

/-- From `s` to `t` both lanes have ended. -/
structure State.LanesEnded (s t : State) : Prop where
  work : s.LaneWork t
  lane : ∀ l : Fin 2, t.callUnit.lanes[l] = s.endedLane l
  playout : ∀ l : Fin 2, t.playout.lanes[l].playoutTimer = s.playout.lanes[l].playoutTimer

theorem State.restartLanes_ended (s : State) : s.LanesEnded (laneIndices.foldl State.restartLane s) := by
  obtain ⟨hwork, hlanes, audio, haudio, htimer⟩ := s.restartLane_ended 0
  obtain ⟨hwork', hlanes', audio', haudio', htimer'⟩ := (s.restartLane 0).restartLane_ended 1
  simp only [laneIndices, List.foldl_cons, List.foldl_nil]
  generalize (s.restartLane 0).restartLane 1 = u at *
  generalize s.restartLane 0 = t at *
  have hnow : t.now = s.now := by rw [hwork]
  have hother : t.callUnit.lanes[(1 : Fin 2)] = s.callUnit.lanes[(1 : Fin 2)] := by
    rw [hlanes]
    exact Vector.getElem_set_ne (i := 0) (j := 1) _ _ (by decide)
  have haudio1 : t.playout.lanes[(1 : Fin 2)] = s.playout.lanes[(1 : Fin 2)] := by
    rw [haudio]
    exact Vector.getElem_set_ne (i := 0) (j := 1) _ _ (by decide)
  have hlast : t.endedLane 1 = s.endedLane 1 := by rw [State.endedLane, State.endedLane, hother, hnow]
  refine ⟨hwork.trans hwork', fun l => ?_, fun l => ?_⟩
  · rw [hlanes', hlanes, hlast]
    match l with
    | 0 => exact (Vector.getElem_set_ne (i := 1) (j := 0) _ _ (by decide)).trans (Vector.getElem_set_self (i := 0) _)
    | 1 => exact Vector.getElem_set_self (i := 1) _
  · rw [haudio']
    match l with
    | 0 =>
      rw [haudio, ← htimer]
      exact congrArg Audio.playoutTimer
        ((Vector.getElem_set_ne (i := 1) (j := 0) _ _ (by decide)).trans (Vector.getElem_set_self (i := 0) _))
    | 1 =>
      rw [← haudio1, ← htimer']
      exact congrArg Audio.playoutTimer (Vector.getElem_set_self (i := 1) _)

end Sys2Proof.Machine
end

section
/-! The frames that RESTART offers for the calls and the lanes (R60, R88), and its second stage as a whole. -/
namespace Sys2Proof.Machine
open Sys2Proof

/-! ### The frames -/

/-- From `s` to `t` the calls below `n` have told of their end: their frames wait, and the queues have room for those to come. -/
structure State.CallsTold (n : Nat) (s t : State) : Prop where
  fills : t.Fills s.ports s.toll (16 - 2 * n)
  hangup : ∀ (b : Fin 4) q, b.val < n → s.calls[b].state = .connected → s.calls[b].partner = some q →
    t.Told (s.routes q.station) (s.newFrame .hangup q.station 63 [s.calls[b].callId.getD 0, 1])
  release : ∀ (b : Fin 4) c, b.val < n → s.calls[b].state ≠ .idle → s.boundCircuit b = some c → ∀ p ∈ s.upPorts,
    t.WaitsAt p (s.newFrame .release 0 63 [circuitByte c])

/-- From `s` to `t` all calls and lanes have told of their end. -/
structure State.EndsTold (s t : State) : Prop where
  fills : t.Fills s.ports s.toll 6
  hangup : ∀ (b : Fin 4) q, s.calls[b].state = .connected → s.calls[b].partner = some q →
    t.Told (s.routes q.station) (s.newFrame .hangup q.station 63 [s.calls[b].callId.getD 0, 1])
  release : ∀ (b : Fin 4) c, s.calls[b].state ≠ .idle → s.boundCircuit b = some c → ∀ p ∈ s.upPorts,
    t.WaitsAt p (s.newFrame .release 0 63 [circuitByte c])
  lane : ∀ (l : Fin 2) c, s.callUnit.lanes[l].state = .taking ∨ s.callUnit.lanes[l].state = .talking →
    s.callUnit.lanes[l].call = some c → t.Told (s.routes c.origin) (s.newFrame .hangup c.origin 63 [c.callId, 0])

/-- Where nothing waits and nothing is deferred, the queues have room for every frame of RESTART. -/
def State.Emptied (s : State) : Prop := (∀ p, (s.ports.get p).queues.cl = []) ∧ s.deferred = []

section
variable {s t : State}

theorem State.CallsTold.start (h : s.Emptied) : s.CallsTold 0 s where
  fills :=
    { port := fun _ => rfl
      room := fun p => by rw [h.1 p]; exact Nat.le_refl _
      idle := fun _ _ => rfl
      deferred := by rw [h.2]; exact Nat.le_refl _
      toll := rfl }
  hangup _ _ h := absurd h (Nat.not_lt_zero _)
  release _ _ h := absurd h (Nat.not_lt_zero _)

theorem State.Fills.routes {n : Nat} (h : t.Fills s.ports s.toll n) (hmap : t.map = s.map) (target : Nat) :
    t.routes target = s.routes target :=
  State.routes_congr hmap h.isUp target

theorem State.CallsTold.step {b : Fin 4} (h : s.CallsTold b.val t) (hended : s.CallsEnded b.val t) (hbusy : s.Busy) :
    s.CallsTold (b.val + 1) (t.restartCall b) := by
  have hroom : t.Fills s.ports s.toll ((16 - 2 * (b.val + 1)) + 2) := h.fills.mono (by omega)
  obtain ⟨hfills, htold, hwaits⟩ := hroom.restartCall hbusy (b := b)
  have hmap : t.map = s.map := by rw [hended.parts]
  have hnumber : t.number = s.number := by rw [hended.parts]
  have hup : t.upPorts = s.upPorts := by simp only [State.upPorts, h.fills.isUp]
  have hroutes := h.fills.routes hmap
  simp only [State.newFrame, hnumber, hroutes, hup, hended.stays b (.inl (Nat.le_refl _)), hended.boundCircuit] at htold hwaits
  refine ⟨hfills, fun x q hx => ?_, fun x c hx => ?_⟩
  · by_cases e : x = b
    · exact e ▸ htold q
    · have := Fin.val_ne_of_ne e
      exact fun hstate hq => (jobKept_told _ _).restartCall b (h.hangup x q (by omega) hstate hq)
  · by_cases e : x = b
    · exact e ▸ hwaits c
    · have := Fin.val_ne_of_ne e
      exact fun hne hc p hp => (jobKept_waitsAt p _).restartCall b (h.release x c (by omega) hne hc p hp)

theorem foldl_restartCall (s : State) :
    boxIndices.foldl State.restartCall s = (((s.restartCall 0).restartCall 1).restartCall 2).restartCall 3 := by
  simp only [boxIndices, List.foldl_cons, List.foldl_nil]

theorem foldl_restartLane (s : State) : laneIndices.foldl State.restartLane s = (s.restartLane 0).restartLane 1 := by
  simp only [laneIndices, List.foldl_cons, List.foldl_nil]

/-- The four calls end one after another. -/
theorem State.restartCalls_fold (s : State) :
    s.CallsEnded 4 (boxIndices.foldl State.restartCall s) ∧
      (s.Emptied → s.Busy → s.CallsTold 4 (boxIndices.foldl State.restartCall s)) := by
  have h1 := (State.CallsEnded.start s).step (b := 0)
  have h2 := h1.step (b := 1)
  have h3 := h2.step (b := 2)
  rw [foldl_restartCall]
  exact ⟨h3.step (b := 3), fun he hb =>
    ((((State.CallsTold.start he).step (b := 0) (.start s) hb).step (b := 1) h1 hb).step (b := 2) h2 hb).step (b := 3) h3 hb⟩

/-- The lanes end one after another. -/
theorem State.CallsTold.lanes (h : s.CallsTold 4 t) (hended : s.CallsEnded 4 t) (hbusy : s.Busy) :
    s.EndsTold (laneIndices.foldl State.restartLane t) := by
  have hroom : t.Fills s.ports s.toll (7 + 1) := h.fills
  rw [foldl_restartLane]
  obtain ⟨hfirst, htold⟩ := hroom.restartLane hbusy 0
  obtain ⟨hsecond, htold'⟩ := State.Fills.restartLane (n := 6) hbusy 1 hfirst
  obtain ⟨hwork, hlanes, -⟩ := t.restartLane_ended 0
  have hunit : t.callUnit.lanes = s.callUnit.lanes := by rw [hended.parts]
  have hmap : t.map = s.map := by rw [hended.parts]
  have hnumber : t.number = s.number := by rw [hended.parts]
  have hlane : (t.restartLane 0).callUnit.lanes[(1 : Fin 2)] = s.callUnit.lanes[(1 : Fin 2)] := by
    rw [hlanes, ← hunit]
    exact Vector.getElem_set_ne (i := 0) (j := 1) _ _ (by decide)
  have hmap' : (t.restartLane 0).map = s.map := by rw [hwork, ← hmap]
  have hnumber' : (t.restartLane 0).number = s.number := by rw [hwork, ← hnumber]
  have hroutes := hroom.routes hmap
  have hroutes' := hfirst.routes hmap'
  simp only [State.newFrame, hnumber, hroutes, hunit] at htold
  simp only [State.newFrame, hnumber', hroutes', hlane] at htold'
  have hkept {P : State → Prop} (K : JobKept P) (hP : P t) : P ((t.restartLane 0).restartLane 1) :=
    K.restartLane 1 (K.restartLane 0 hP)
  refine ⟨hsecond, fun b q hstate hq => hkept (jobKept_told _ _) (h.hangup b q b.isLt hstate hq),
    fun b c hne hc p hp => hkept (jobKept_waitsAt p _) (h.release b c b.isLt hne hc p hp), fun l c hstate hc => ?_⟩
  match l with
  | 0 => exact (jobKept_told _ _).restartLane 1 (htold c hstate hc)
  | 1 => exact htold' c hstate hc

end

end Sys2Proof.Machine
end

section
/-! The second stage of RESTART as a whole: calls, lanes, claims, the offer list, playout and the change marks (R60, R88,
R103). -/
namespace Sys2Proof.Machine
open Sys2Proof

theorem State.callsStand_iff (s : State) :
    s.callsStand = true ↔ (∃ b : Fin 4, s.calls[b].state ≠ .idle) ∨
      (∃ l : Fin 2, s.callUnit.lanes[l].state ≠ .idle ∨ s.callUnit.lanes[l].outcome ≠ .none) ∨ s.callUnit.offers ≠ [] := by
  have hbox (b : Fin 4) : b ∈ boxIndices := by revert b; decide
  have hlane (l : Fin 2) : l ∈ laneIndices := by revert l; decide
  simp only [State.callsStand, Bool.or_eq_true, List.any_eq_true, bne_iff_ne, Bool.not_eq_true', List.isEmpty_eq_false_iff,
    hbox, hlane, true_and, or_assoc]

/-- From `s` to `t` RESTART has ended the calls and the lanes. -/
structure State.CallsRestarted (s t : State) : Prop where
  parts : t = { s with
    circuits := t.circuits, claims := Vector.replicate 4 resetClaim, calls := t.calls
    callUnit := { s.callUnit with
      lanes := t.callUnit.lanes, offers := [], callsChanged := t.callUnit.callsChanged
      offersChanged := t.callUnit.offersChanged }
    playout := t.playout, ports := t.ports, deferred := t.deferred, toll := t.toll }
  idle : ∀ b : Fin 4, s.calls[b].state = .idle → t.calls[b] = s.calls[b]
  ended : ∀ b : Fin 4, s.calls[b].state ≠ .idle → t.calls[b] = s.endedCall b
  lane : ∀ l : Fin 2, t.callUnit.lanes[l] = s.endedLane l
  circuits : ∀ c : Fin 16, t.circuits[c] = s.circuits[c] ∨
    t.circuits[c] = .free ∧ ∃ b : Fin 4, s.circuits[c].boundTo b = true
  freed : ∀ (b : Fin 4) (c : Fin 16), s.calls[b].state ≠ .idle → s.boundCircuit b = some c → t.circuits[c] = .free
  marked : s.callsStand = true → t.callUnit.callsChanged = true ∧ t.callUnit.offersChanged = true
  boxes : ∀ b : Fin 4, ∃ out,
    t.playout.boxes[b] = ⟨emptyStore, 0, none, s.playout.boxes[b].playoutTimer, out⟩
  lanes : ∀ l : Fin 2, ∃ out,
    t.playout.lanes[l] = ⟨emptyStore, 0, none, s.playout.lanes[l].playoutTimer, out⟩
  tones : t.playout.tones = Vector.replicate 4 silentTone

/-- The calls and the lanes have ended; the other records of the stage are as they were. -/
def State.endsCalls (s : State) : State := laneIndices.foldl State.restartLane (boxIndices.foldl State.restartCall s)

theorem State.restartCalls_parts (s : State) :
    s.restartCalls = { s.endsCalls with
      claims := Vector.replicate 4 resetClaim
      callUnit := { s.endsCalls.callUnit with
        offers := []
        callsChanged := if s.callsStand then true else s.endsCalls.callUnit.callsChanged
        offersChanged := if s.callsStand then true else s.endsCalls.callUnit.offersChanged }
      playout := s.endsCalls.playout.restarted } := by
  have hended : s.callsEnded = { s.endsCalls with
      claims := Vector.replicate 4 resetClaim, callUnit := { s.endsCalls.callUnit with offers := [] } } := by
    rw [State.callsEnded, State.endsCalls]
  rw [s.restartCalls_eq, hended]
  generalize s.endsCalls = l
  cases s.callsStand <;> rfl

theorem Playout.restarted_box (b : Fin 4) (p : Playout) : p.restarted.boxes[b] = p.boxes[b].restarted := by
  simp [Playout.restarted]

theorem Playout.restarted_lane (l : Fin 2) (p : Playout) : p.restarted.lanes[l] = p.lanes[l].restarted := by
  simp [Playout.restarted]

theorem State.restartCalls_restarted (s : State) : s.CallsRestarted s.restartCalls := by
  obtain ⟨hcalls, -⟩ := s.restartCalls_fold
  have hlanes := State.restartLanes_ended (boxIndices.foldl State.restartCall s)
  rw [s.restartCalls_parts]
  change State.LanesEnded _ s.endsCalls at hlanes
  generalize boxIndices.foldl State.restartCall s = c at hcalls hlanes
  generalize s.endsCalls = l at hlanes ⊢
  obtain ⟨cparts, cstays, cended, ccircuits, cfreed, cplayout⟩ := hcalls
  obtain ⟨lparts, llane, lplayout⟩ := hlanes
  unfold State.LaneWork at lparts
  have hc : l.calls = c.calls := by rw [lparts]
  have hx : l.circuits = c.circuits := by rw [lparts]
  have hlane (i : Fin 2) : c.endedLane i = s.endedLane i := by rw [State.endedLane, State.endedLane, cparts]
  refine ⟨?_, fun b hb => ?_, fun b hb => ?_, fun i => (llane i).trans (hlane i), fun x => ?_, fun b x hb hbound => ?_,
    fun hstand => ?_, fun b => ?_, fun i => ?_, rfl⟩
  · generalize s.callsStand = stand
    rw [lparts, cparts]
  · exact (congrArg (·[b]) hc).trans (cstays b (.inr hb))
  · exact (congrArg (·[b]) hc).trans (cended b b.isLt hb).1
  · change l.circuits[x] = _ ∨ l.circuits[x] = _ ∧ _
    rw [hx]
    exact (ccircuits x).imp_right fun ⟨hfree, b, _, hb⟩ => ⟨hfree, b, hb⟩
  · exact (congrArg (·[x]) hx).trans (cfreed b x b.isLt hb hbound)
  · exact ⟨if_pos hstand, if_pos hstand⟩
  · have hbox : l.playout.boxes = c.playout.boxes := by rw [lparts]
    refine ⟨l.playout.boxes[b].out, (Playout.restarted_box b _).trans ?_⟩
    rw [Audio.restarted, ← cplayout b, ← hbox]
  · have hbox : c.playout.lanes = s.playout.lanes := by rw [cparts]
    refine ⟨l.playout.lanes[i].out, (Playout.restarted_lane i _).trans ?_⟩
    rw [Audio.restarted, ← hbox, ← lplayout i]

theorem State.restartCalls_told {s : State} (he : s.Emptied) (hbusy : s.Busy) : s.EndsTold s.restartCalls := by
  obtain ⟨hended, htold⟩ := s.restartCalls_fold
  have htold := (htold he hbusy).lanes hended hbusy
  have hparts := s.restartCalls_parts
  change s.EndsTold s.endsCalls at htold
  generalize s.restartCalls = t at hparts ⊢
  generalize s.endsCalls = l at htold hparts
  have hkept {P : State → Prop} (K : JobKept P) (hP : P l) : P t := K.of_eq (s := l) (by rw [hparts]) hP
  exact
    { fills := htold.fills.of_eq (by rw [hparts]) (by rw [hparts]) (by rw [hparts])
      hangup := fun b q hstate hq => hkept (jobKept_told _ _) (htold.hangup b q hstate hq)
      release := fun b c hne hc p hp => hkept (jobKept_waitsAt p _) (htold.release b c hne hc p hp)
      lane := fun i c hstate hc => hkept (jobKept_told _ _) (htold.lane i c hstate hc) }

end Sys2Proof.Machine
end

section
/-! The last stages of RESTART (R104, R113, R118, R141, R164): the road records, and the faces that start selection anew. -/
namespace Sys2Proof.Machine
open Sys2Proof

/-! ### The stages -/

/-- The calls have ended and the road records are at their start; nothing is built yet. -/
def State.restartBare (s : State) : State := s.restartQueues.restartCalls.restartRoad

/-- Each selecting face has given up its awaited images and started selection. -/
def State.restartFaces (s : State) : State := (s.restartFace .east).restartFace .west

section
variable (s : State)

theorem State.restarted_eq : s.restarted = s.restartBare.buildSpeed.restartFaces.beginCalls.imagesNow := rfl

theorem State.restartRoad_eq :
    s.restartRoad = { s with
      readings := { s.readings with
        kinds := Vector.ofFn fun i => { resetReading with counter := s.readings.kinds[i].counter }, vs := none }
      incidents := ⟨[], []⟩, warnings := noWarnings, speed := s.startedSpeed } := rfl

/-! ### A face -/

theorem State.restartFace_eq (g : Face) : s.restartFace g = { s with faces := (s.restartFace g).faces } := by
  unfold State.restartFace
  split
  · exact (State.startSelection_eq g _).trans rfl
  · rfl

theorem State.restartFace_face {g : Face} (h : s.selecting g = true) :
    (s.restartFace g).faces.get g =
      { s.faces.get g with awaited := [], missing := 0, selector := s.selected g emptySelector } := by
  have hselecting : (s.modFace g fun u => { u with awaited := [], missing := 0 }).selecting g = true := by
    rw [← h]
    simp [State.selecting, State.modFace]
  have hselected : (s.modFace g fun u => { u with awaited := [], missing := 0 }).selected g = s.selected g :=
    State.selected_congr rfl (fun _ => rfl) rfl
  rw [State.restartFace, if_pos h, State.startSelection_face hselecting, hselected]
  simp only [State.modFace, PerSide.get_set_same]

theorem State.restartFace_stays {g : Face} (h : s.selecting g = false) : s.restartFace g = s := by
  rw [State.restartFace, if_neg (by rw [h]; decide)]

theorem State.restartFace_other {g x : Face} (hne : x ≠ g) : (s.restartFace g).faces.get x = s.faces.get x := by
  unfold State.restartFace
  split
  · rw [State.startSelection_face_other hne]
    simp [State.modFace, PerSide.get_set, hne]
  · rfl

/-! ### Both faces -/

theorem State.restartFaces_eq : s.restartFaces = { s with faces := s.restartFaces.faces } := by
  have heast := s.restartFace_eq .east
  have hwest := (s.restartFace .east).restartFace_eq .west
  unfold State.restartFaces
  generalize (s.restartFace .east).restartFace .west = t at hwest ⊢
  generalize s.restartFace .east = u at heast hwest
  rw [hwest, heast]

/-- Each selecting face shows what the empty selector turns to, and awaits nothing. -/
theorem State.restartFaces_face {g : Face} (h : s.selecting g = true) :
    s.restartFaces.faces.get g =
      { s.faces.get g with awaited := [], missing := 0, selector := s.selected g emptySelector } := by
  unfold State.restartFaces
  cases g with
  | east => rw [State.restartFace_other _ (by decide), State.restartFace_face s h]
  | west =>
    have hother := s.restartFace_other (g := .east) (x := .west) (by decide)
    have hparts := s.restartFace_eq .east
    generalize s.restartFace .east = t at hother hparts ⊢
    have hselecting : t.selecting .west = true := by rw [← h, State.selecting, State.selecting, hother, hparts]
    have hselected : t.selected .west = s.selected .west :=
      State.selected_congr (by rw [hparts]) (fun _ => by rw [hparts]) (by rw [hparts])
    rw [State.restartFace_face t hselecting, hselected, hother]

theorem State.restartFaces_stays {g : Face} (h : s.selecting g = false) : s.restartFaces.faces.get g = s.faces.get g := by
  unfold State.restartFaces
  cases g with
  | east => rw [State.restartFace_other _ (by decide), State.restartFace_stays s h]
  | west =>
    have hother := s.restartFace_other (g := .east) (x := .west) (by decide)
    have hparts := s.restartFace_eq .east
    generalize s.restartFace .east = t at hother hparts ⊢
    have hselecting : t.selecting .west = false := by rw [← h, State.selecting, State.selecting, hother, hparts]
    rw [State.restartFace_stays t hselecting, hother]

theorem State.restartFaces_selecting (g : Face) : s.restartFaces.selecting g = s.selecting g := by
  have hparts := s.restartFaces_eq
  have hdark : (s.restartFaces.faces.get g).dark = (s.faces.get g).dark := by
    cases h : s.selecting g with
    | true => rw [s.restartFaces_face h]
    | false => rw [s.restartFaces_stays h]
  rw [State.selecting, State.selecting, hdark, hparts]

end

end Sys2Proof.Machine
end

section
/-! RESTART from its start to its end (R207): what is not its own, the records it leaves, and the frames it has offered. -/
namespace Sys2Proof.Machine
open Sys2Proof

/-! ### What RESTART keeps -/

namespace JobKept

variable {P : State → Prop} (K : JobKept P) {s : State}
include K

theorem restartCalls (h : P s) : P s.restartCalls := by
  have hends : P s.endsCalls := by
    rw [State.endsCalls, foldl_restartLane, foldl_restartCall]
    exact K.restartLane 1 (K.restartLane 0 (K.restartCall 3 (K.restartCall 2 (K.restartCall 1 (K.restartCall 0 h)))))
  rw [s.restartCalls_parts]
  generalize s.endsCalls = t at hends ⊢
  exact K.of_eq (s := t) rfl hends

/-- What the last stage keeps. -/
theorem restartEnd (h : P s) : P s.buildSpeed.restartFaces.beginCalls.imagesNow :=
  K.imagesNow (K.beginCalls (K.restartFace .west (K.restartFace .east (K.buildSpeed h))))

end JobKept

/-- From `s` to `t` nothing changed but what RESTART touches. -/
structure State.Restarts (s t : State) : Prop where
  parts : t = { s with
    circuits := t.circuits, claims := t.claims, calls := t.calls, callUnit := t.callUnit, playout := t.playout
    incidents := t.incidents, readings := t.readings, warnings := t.warnings, speed := t.speed, faces := t.faces
    faults := t.faults, ports := t.ports, deferred := t.deferred, toll := t.toll }
  link : ∀ p, (s.ports.get p).SameLink (t.ports.get p)
  toll : t.toll = { s.toll with store := t.toll.store, resendTimer := t.toll.resendTimer }

theorem jobKept_restarts (s : State) : JobKept s.Restarts := by
  refine SendKept.jobKept ⟨fun t d f h => ?_, fun t ds h => ?_, fun t d sink store timer _ _ h => ?_⟩
    fun t _ _ _ _ _ _ _ _ _ _ h => ?_
  all_goals obtain ⟨hparts, hlink, htoll⟩ := h
  · have hkept := t.offerPort_toll d f
    obtain ⟨ports, deferred, toll, hwork, hports⟩ := t.offerPort_lineWork d f
    generalize (t.offerPort d f).state = u at hwork hkept ⊢
    subst hwork
    exact ⟨by rw [hparts], fun p => (hlink p).trans (hports p), hkept ▸ htoll⟩
  · exact ⟨by rw [hparts], hlink, htoll⟩
  · exact ⟨by rw [hparts], hlink, by rw [htoll]⟩
  · exact ⟨by rw [hparts], hlink, htoll⟩

theorem State.restartQueues_get (p : Side) (s : State) : s.restartQueues.ports.get p = (s.ports.get p).emptyLocal := by
  cases p <;> rfl

section
variable (s : State)

theorem State.restartQueues_restarts : s.Restarts s.restartQueues where
  parts := rfl
  link p := by
    rw [State.restartQueues_get]
    exact ⟨rfl, rfl, rfl, rfl, rfl, rfl, rfl⟩
  toll := rfl

theorem State.restarted_restarts : s.Restarts s.restarted := by
  rw [State.restarted_eq]
  refine (jobKept_restarts s).restartEnd ?_
  obtain ⟨hparts, hlink, htoll⟩ := (jobKept_restarts s).restartCalls s.restartQueues_restarts
  unfold State.restartBare
  generalize s.restartQueues.restartCalls = t at hparts hlink htoll
  rw [t.restartRoad_eq]
  exact ⟨by rw [hparts], hlink, htoll⟩

/-! ### The calls and lanes that end -/

theorem State.restartQueues_emptied : s.restartQueues.Emptied :=
  ⟨fun p => by rw [State.restartQueues_get]; rfl, rfl⟩

theorem State.restartQueues_busy (h : s.Busy) : s.restartQueues.Busy := by
  intro p hp
  rw [State.restartQueues_get] at hp ⊢
  exact h p hp

theorem State.restartQueues_routes (target : Nat) : s.restartQueues.routes target = s.routes target :=
  State.routes_congr (s := s) (t := s.restartQueues) rfl (fun p => by rw [State.restartQueues_get]; rfl) target

theorem State.restartCalls_ended : s.CallsRestarted s.restartQueues.restartCalls := by
  have h := s.restartQueues.restartCalls_restarted
  exact
    { parts := h.parts, idle := h.idle, ended := h.ended, lane := h.lane, circuits := h.circuits, freed := h.freed
      marked := h.marked, boxes := h.boxes, lanes := h.lanes, tones := h.tones }

end

end Sys2Proof.Machine
end

section
/-! What RESTART leaves: the records after the last stage, and the frames that wait (R60, R88, R207). -/
namespace Sys2Proof.Machine
open Sys2Proof

section
variable {s : State}

/-! ### Before anything is built -/

theorem State.restartBare_call (b : Fin 4) (s : State) :
    s.restartBare.calls[b].state = .idle ∧ s.restartBare.calls[b].offHook = s.calls[b].offHook := by
  have hended := s.restartCalls_ended
  change s.restartQueues.restartCalls.calls[b].state = .idle ∧ s.restartQueues.restartCalls.calls[b].offHook = s.calls[b].offHook
  by_cases hidle : s.calls[b].state = .idle
  · rw [hended.idle b hidle]
    exact ⟨hidle, rfl⟩
  · rw [hended.ended b hidle]
    exact ⟨rfl, rfl⟩

theorem State.restartBare_stays (s : State) :
    s.restartBare.joined = s.joined ∧ s.restartBare.config = s.config ∧ s.restartBare.now = s.now ∧
      s.restartBare.faults = s.faults ∧ s.restartBare.faces = s.faces ∧ s.restartBare.pages = s.pages ∧
        s.restartBare.number = s.number := by
  have hparts := s.restartCalls_ended.parts
  unfold State.restartBare
  generalize s.restartQueues.restartCalls = t at hparts ⊢
  rw [State.restartRoad_eq, hparts]
  exact ⟨rfl, rfl, rfl, rfl, rfl, rfl, rfl⟩

theorem State.restartBare_begins (b : Fin 4) (s : State) : s.restartBare.begins b = s.begins b := by
  obtain ⟨-, hconfig, -⟩ := s.restartBare_stays
  rw [State.begins, State.begins, hconfig, (s.restartBare_call b).2]

/-! ### The SPEED and the faces -/

/-- The SPEED is built and the faces select anew; no call has begun yet. -/
def State.restartSpoken (s : State) : State := s.restartBare.buildSpeed.restartFaces

theorem State.restartSpoken_eq (s : State) :
    s.restartSpoken = { s.restartBare with
      speed := s.restartSpoken.speed, faces := s.restartSpoken.faces, ports := s.restartSpoken.ports
      deferred := s.restartSpoken.deferred, toll := s.restartSpoken.toll } := by
  have hfaces := s.restartBare.buildSpeed.restartFaces_eq
  have hspeed := s.restartBare.buildSpeed_parts
  unfold State.restartSpoken
  generalize s.restartBare.buildSpeed.restartFaces = t at hfaces ⊢
  generalize s.restartBare.buildSpeed = u at hfaces hspeed
  rw [hfaces, hspeed]

theorem State.restartSpoken_face (g : Face) (s : State) :
    s.restartSpoken.selecting g = s.selecting g ∧
      (s.selecting g = false → s.restartSpoken.faces.get g = s.faces.get g) ∧
      (s.selecting g = true → s.restartSpoken.faces.get g =
        { s.faces.get g with awaited := [], missing := 0, selector := s.restartBare.selected g emptySelector }) := by
  obtain ⟨hjoined, hconfig, -, -, hfaces, -⟩ := s.restartBare_stays
  have hspeed := s.restartBare.buildSpeed_parts
  have hselecting : s.restartBare.buildSpeed.selecting g = s.selecting g := by
    rw [hspeed, State.selecting, State.selecting, ← hjoined, ← hconfig, ← hfaces]
  have hsame : s.restartBare.buildSpeed.faces = s.faces := by rw [hspeed, ← hfaces]
  have hselected : s.restartBare.buildSpeed.selected g = s.restartBare.selected g :=
    State.selected_congr (by rw [hspeed]) (fun _ => by rw [hspeed]) (by rw [hspeed])
  refine ⟨(State.restartFaces_selecting _ g).trans hselecting, fun h => ?_, fun h => ?_⟩
  · rw [State.restartSpoken, State.restartFaces_stays _ (hselecting.trans h), hsame]
  · rw [State.restartSpoken, State.restartFaces_face _ (hselecting.trans h), hselected, hsame]

/-! ### The calls that begin -/

theorem State.restarted_begun (hj : s.joined = true) : s.restartBare.CallsBegun 4 s.restartSpoken.beginCalls := by
  have hparts := s.restartSpoken_eq
  have hcalls : s.restartSpoken.calls = s.restartBare.calls := by rw [hparts]
  have hjoined : s.restartSpoken.joined = s.joined := by
    rw [hparts]
    exact s.restartBare_stays.1
  refine (State.beginCalls_begun (s := s.restartSpoken) (hjoined.trans hj) fun b => ?_).of_eq ?_ ?_ ?_ hcalls ?_ ?_ ?_
  · rw [hcalls]
    exact (s.restartBare_call b).1
  all_goals rw [hparts]

theorem State.restarted_faults (hj : s.joined = true) : s.restarted.faults = s.faults := by
  obtain ⟨-, -, -, hfaults, -⟩ := s.restartBare_stays
  have hselects := s.restartSpoken.beginCalls_selectsOnly
  have hrestarted : s.restarted = s.restartSpoken.beginCalls.imagesNow := s.restarted_eq
  rw [hrestarted, State.imagesNow_faults fun g hg => ?_, (State.restarted_begun hj).faults, hfaults]
  obtain ⟨hsame, -, hface⟩ := s.restartSpoken_face g
  rw [hselects.face g, hface (hsame.symm.trans ((hselects.selecting g).symm.trans hg))]
  exact Nat.zero_lt_succ 3

/-! ### The frames of calls and lanes -/

/-- The HANGUPs and RELEASEs of RESTART have been offered. -/
structure State.RestartTold (s t : State) : Prop where
  hangup : ∀ (b : Fin 4) q callId, s.calls[b].state = .connected → s.calls[b].partner = some q →
    s.calls[b].callId = some callId → t.Told (s.routes q.station) (s.newFrame .hangup q.station 63 [callId, 1])
  release : ∀ (b : Fin 4) c, s.calls[b].circuit = some c → ∀ p, (s.ports.get p).isUp = true →
    t.WaitsAt p (s.newFrame .release 0 63 [circuitByte c])
  lane : ∀ (l : Fin 2) c, s.callUnit.lanes[l].state = .taking ∨ s.callUnit.lanes[l].state = .talking →
    s.callUnit.lanes[l].call = some c → t.Told (s.routes c.origin) (s.newFrame .hangup c.origin 63 [c.callId, 0])

theorem State.restarted_told (hbound : s.CircuitsBound) (hbusy : s.Busy) : s.RestartTold s.restarted := by
  have htold := State.restartCalls_told s.restartQueues_emptied (s.restartQueues_busy hbusy)
  have hroutes := s.restartQueues_routes
  have hkept {P : State → Prop} (K : JobKept P) (hroad : ∀ t, P t → P t.restartRoad) (h : P s.restartQueues.restartCalls) :
      P s.restarted := by
    rw [State.restarted_eq]
    exact K.restartEnd (hroad _ h)
  refine ⟨fun b q callId hstate hq hid => ?_, fun b c hc p hp => ?_, fun l c hstate hc => ?_⟩
  · have h := htold.hangup b q hstate hq
    rw [hroutes] at h
    have hgetD : s.calls[b].callId.getD 0 = callId := by rw [hid]; rfl
    rw [← hgetD]
    exact hkept (jobKept_told _ _) (fun _ h => h) h
  · have hcall := (hbound b).1 c |>.2 hc
    have hne := (hbound.of_boundTo hcall).2.1
    have hup : p ∈ s.restartQueues.upPorts := by
      rw [State.mem_upPorts, State.restartQueues_get]
      exact hp
    exact hkept (jobKept_waitsAt p _) (fun _ h => h)
      (htold.release b c hne (State.boundCircuit_of_bound (s := s.restartQueues) hc hcall) p hup)
  · have h := htold.lane l c hstate hc
    rw [hroutes] at h
    exact hkept (jobKept_told _ _) (fun _ h => h) h

end

end Sys2Proof.Machine
end

section
/-! RESTART where no handset is off-hook and the ports in use are busy: its state in one equation (R141, R164, R207). -/
namespace Sys2Proof.Machine
open Sys2Proof

/-- The speed unit after the SPEED of RESTART (R141). -/
def State.restartedSpeed (s : State) : Speed :=
  { faces := ⟨startFaceSpeed s.config.vmax, startFaceSpeed s.config.vmax⟩
    evaluationTimer := some (s.now + 10000), advertTimer := some (s.now + 5000) }

/-- The SPEED that RESTART builds: Vmax for both faces (R136, R141). -/
def State.restartFrame (s : State) : Frame :=
  s.newFrame .speed 0 1
    (SpeedFields.payload ⟨(s.config.vmax : Int), (s.config.vmax : Int), s.lit .east, s.lit .west⟩)

/-- What RESTART leaves of a circuit: only what another station holds (R60). -/
def Circuit.restarted : Circuit → Circuit
  | .heldOther holder due => .heldOther holder due
  | _ => .free

section
variable {s : State}

theorem State.restartBare_speed (s : State) :
    s.restartBare.speed = { s.restartedSpeed with advertTimer := s.restartBare.speed.advertTimer } := by
  have hparts := s.restartCalls_ended.parts
  unfold State.restartBare
  generalize s.restartQueues.restartCalls = t at hparts ⊢
  rw [State.restartRoad_eq, hparts]
  rfl

theorem State.restartBare_speedFrame (s : State) : s.restartBare.speedFrameOf s.restartBare.speed = s.restartFrame := by
  obtain ⟨-, hconfig, -, -, hfaces, -, hnumber⟩ := s.restartBare_stays
  have hlit (g : Face) : s.restartBare.lit g = s.lit g := by rw [State.lit, State.lit, hconfig, hfaces]
  rw [s.restartBare_speed]
  simp only [State.speedFrameOf, hlit, State.restartedSpeed, startFaceSpeed, PerSide.get, ite_self, State.newFrame, hnumber]
  rfl

theorem State.restartSpoken_speed (s : State) : s.restartSpoken.speed = s.restartedSpeed := by
  have hspoken : s.restartSpoken.speed = s.restartBare.buildSpeed.speed := by
    rw [State.restartSpoken, State.restartFaces_eq]
  obtain ⟨-, -, hnow, -⟩ := s.restartBare_stays
  rw [hspoken, State.buildSpeed_parts, s.restartBare_speed, hnow]
  rfl

/-- The SPEED is the last of what waits in the CL of each port in use; a port that is not in use has nothing waiting. -/
theorem State.restartSpoken_ports (hbusy : s.Busy) (p : Side) :
    s.restartSpoken.ports.get p =
        { s.ports.get p with
          queues := { (s.ports.get p).queues with vl := [], cl := (s.restartSpoken.ports.get p).queues.cl, bl := [] }
          waitCL := 0, waitBL := 0 } ∧
      ((s.ports.get p).isUp = false → (s.restartSpoken.ports.get p).queues.cl = []) ∧
      ((s.ports.get p).isUp = true → (s.restartSpoken.ports.get p).queues.cl.getLast? = some s.restartFrame) ∧
      s.restartSpoken.toll = s.toll := by
  have hquiet := s.restartQueues_busy hbusy
  have hcalls := (State.restartCalls_told s.restartQueues_emptied hquiet).fills
  have hbare : s.restartBare.Fills s.restartQueues.ports s.restartQueues.toll (5 + 1) :=
    hcalls.of_eq rfl (Nat.le_refl _) rfl
  have hoffered := s.restartBare.buildSpeed_offered
  rw [s.restartBare_speedFrame] at hoffered
  obtain ⟨hfills, hqueues, -⟩ := hbare.offered hquiet (f := s.restartFrame) rfl hoffered
  have hports : s.restartSpoken.ports = s.restartBare.buildSpeed.ports := by
    rw [State.restartSpoken, State.restartFaces_eq]
  have htoll : s.restartSpoken.toll = s.restartBare.buildSpeed.toll := by
    rw [State.restartSpoken, State.restartFaces_eq]
  rw [hports, htoll]
  have hport := hfills.port p
  have hidle := hfills.idle p
  rw [State.restartQueues_get] at hport hidle
  refine ⟨hport.trans ?_, hidle, fun hup => ?_, hfills.toll⟩
  · rfl
  · have hmem : p ∈ s.restartBare.routes s.restartFrame.target := by
      refine State.mem_upPorts.2 ?_
      rw [hbare.isUp, State.restartQueues_get]
      exact hup
    rw [hqueues p, if_pos hmem, List.getLast?_concat]

theorem State.restarted_quiet (hj : s.joined = true) (hnone : ∀ b, s.begins b = false) :
    s.restarted = s.restartSpoken.imagesNow ∧
      s.restarted = { s.restartBare with
        speed := s.restartedSpeed, faces := s.restarted.faces, ports := s.restartSpoken.ports
        deferred := s.restartSpoken.deferred, toll := s.restartSpoken.toll } := by
  have hspoken := s.restartSpoken_eq
  have hbegins (b : Fin 4) : s.restartSpoken.begins b = false := by
    rw [← hnone b, ← s.restartBare_begins b, State.begins, State.begins, hspoken]
  have hrestarted : s.restarted = s.restartSpoken.imagesNow := by
    rw [State.restarted_eq]
    exact congrArg State.imagesNow (State.beginCalls_none hbegins)
  have himages := s.restartSpoken.imagesNow_eq
  have hfaults := (State.restarted_faults hj).trans s.restartBare_stays.2.2.2.1.symm
  refine ⟨hrestarted, ?_⟩
  rw [← hrestarted] at himages
  rw [s.restartSpoken_speed] at hspoken
  generalize s.restarted = t at himages hfaults ⊢
  generalize s.restartSpoken = w at himages hspoken
  rw [himages, hfaults, hspoken]

/-- Each selecting face is sent one image of what it selects anew (R164). -/
theorem State.restarted_face (hj : s.joined = true) (hnone : ∀ b, s.begins b = false) (g : Face) :
    (s.selecting g = false → s.restarted.faces.get g = s.faces.get g) ∧
      (s.selecting g = true → ∃ image, s.restarted.faces.get g =
        { s.faces.get g with
          missing := 0, sequence := (s.faces.get g).sequence + 1, refreshTimer := some (s.now + 200), image := image
          awaited := [⟨(s.faces.get g).sequence, some (s.now + 150)⟩]
          selector := s.restartBare.selected g emptySelector }) := by
  obtain ⟨hsame, hstays, hface⟩ := s.restartSpoken_face g
  have hnow : s.restartSpoken.now = s.now := by
    rw [s.restartSpoken_eq]
    exact s.restartBare_stays.2.2.1
  rw [(State.restarted_quiet hj hnone).1, State.imagesNow_face, hsame, hnow]
  refine ⟨fun h => ?_, fun h => ?_⟩
  · rw [if_neg (by rw [h]; decide), hstays h]
  · rw [if_pos h, hface h, FaceUnit.sent_parts, FaceUnit.makeRoom_of_room]
    · exact ⟨_, rfl⟩
    · exact Nat.zero_lt_succ 3

/-- The circuits that the station claimed or held are FREE (R60). -/
theorem State.restartBare_circuit (hbound : s.CircuitsBound) (c : Fin 16) :
    s.restartBare.circuits[c] = s.circuits[c].restarted := by
  have hended := s.restartCalls_ended
  change s.restartQueues.restartCalls.circuits[c] = _
  have hfreed (b : Fin 4) (hb : s.circuits[c].boundTo b = true) : s.restartQueues.restartCalls.circuits[c] = .free := by
    obtain ⟨hcall, hne, -⟩ := hbound.of_boundTo hb
    exact hended.freed b c hne (State.boundCircuit_of_bound hcall hb)
  obtain hsame | ⟨-, b, hb⟩ := hended.circuits c
  · cases hc : s.circuits[c] with
    | free => exact hsame.trans hc
    | heldOther holder due => exact hsame.trans hc
    | claiming b due => exact hfreed b (by rw [hc]; exact beq_self_eq_true b)
    | heldOwn b refresh holdOff => exact hfreed b (by rw [hc]; exact beq_self_eq_true b)
  · rw [hfreed b hb]
    cases hc : s.circuits[c] with
    | heldOther holder due => rw [hc] at hb; cases hb
    | free | claiming | heldOwn => rfl

end

end Sys2Proof.Machine
end

section
/-! What RESTART leaves of the calls, the lanes, playout and the readings (R60, R88, R103, R113). -/
namespace Sys2Proof.Machine
open Sys2Proof

section
variable {s : State}

theorem exec_restart_next (hreset : s.resetHeld = false) (hj : s.joined = true) :
    exec (.restart []) s = .next { s.restarted with response := ⟨.ok, .restart, .none⟩ } := by
  have haccepts : s.Accepts .restart ([] : List Word).length := ⟨hreset, by rw [hj]; rfl, rfl, rfl⟩
  exact (exec_restart [] s).trans (congrArg Host.Outcome.next (haccepts.command_eq _))

/-! ### The records before a call begins anew -/

/-- The call unit once the calls and the lanes have ended. -/
theorem State.restartBare_callUnit (s : State) :
    s.restartBare.callUnit = { s.callUnit with
      lanes := s.restartBare.callUnit.lanes, offers := [], callsChanged := s.restartBare.callUnit.callsChanged
      offersChanged := s.restartBare.callUnit.offersChanged } :=
  congrArg State.callUnit s.restartCalls_ended.parts

theorem State.restartBare_lane (l : Fin 2) (s : State) : s.restartBare.callUnit.lanes[l] = s.endedLane l :=
  s.restartCalls_ended.lane l

theorem State.restartBare_marked (h : s.callsStand = true) :
    s.restartBare.callUnit.callsChanged = true ∧ s.restartBare.callUnit.offersChanged = true :=
  s.restartCalls_ended.marked h

theorem State.restartBare_claim (b : Fin 4) (s : State) : s.restartBare.claims[b] = resetClaim := by
  have hclaims : s.restartBare.claims = Vector.replicate 4 resetClaim := congrArg State.claims s.restartCalls_ended.parts
  rw [hclaims]
  exact Vector.getElem_replicate b.isLt

theorem State.restartBare_ended (b : Fin 4) (s : State) :
    s.restartBare.calls[b] = if s.calls[b].state = .idle then s.calls[b] else s.endedCall b := by
  split
  next h => exact s.restartCalls_ended.idle b h
  next h => exact s.restartCalls_ended.ended b h

theorem State.restartBare_playout (s : State) :
    (∀ b : Fin 4, ∃ out, s.restartBare.playout.boxes[b] = ⟨emptyStore, 0, none, s.playout.boxes[b].playoutTimer, out⟩) ∧
      (∀ l : Fin 2, ∃ out, s.restartBare.playout.lanes[l] = ⟨emptyStore, 0, none, s.playout.lanes[l].playoutTimer, out⟩) ∧
      ∀ b : Fin 4, s.restartBare.playout.tones[b] = silentTone := by
  refine ⟨s.restartCalls_ended.boxes, s.restartCalls_ended.lanes, fun b => ?_⟩
  have htones : s.restartBare.playout.tones = Vector.replicate 4 silentTone := s.restartCalls_ended.tones
  rw [htones]
  exact Vector.getElem_replicate b.isLt

theorem State.restartBare_readings (s : State) :
    (∀ k : Fin 4, s.restartBare.readings.kinds[k] = { resetReading with counter := s.readings.kinds[k].counter }) ∧
      s.restartBare.readings.vs = none ∧ s.restartBare.readings.delivery = s.readings.delivery := by
  have hreadings : s.restartQueues.restartCalls.readings = s.readings := by rw [s.restartCalls_ended.parts]
  have hbare : s.restartBare.readings = { s.readings with
      kinds := Vector.ofFn fun i => { resetReading with counter := s.readings.kinds[i].counter }, vs := none } := by
    rw [State.restartBare, State.restartRoad_eq, hreadings]
  rw [hbare]
  exact ⟨fun k => Vector.getElem_ofFn k.isLt, rfl, rfl⟩

/-! ### The calls that begin anew -/

theorem State.restarted_callsBegun (hj : s.joined = true) : s.restartBare.CallsBegun 4 s.restarted := by
  have hbegun := State.restarted_begun hj
  have hfaults := (State.restarted_faults hj).trans s.restartBare_stays.2.2.2.1.symm
  have hrestarted : s.restarted = s.restartSpoken.beginCalls.imagesNow := s.restarted_eq
  have himages := s.restartSpoken.beginCalls.imagesNow_eq
  rw [← hrestarted] at himages
  clear hrestarted
  generalize s.restarted = t at hfaults himages ⊢
  generalize s.restartSpoken.beginCalls = u at hbegun himages
  generalize t.faces = faces at himages
  generalize t.faults = faults at hfaults himages
  subst himages
  exact { hbegun with faults := hfaults }

theorem State.restartBare_held {c : Fin 16} {holder due : Nat} (h : s.circuits[c] = .heldOther holder due) :
    s.restartBare.circuits[c] = .heldOther holder due := by
  obtain hsame | ⟨-, b, hb⟩ := s.restartCalls_ended.circuits c
  · exact hsame.trans h
  · rw [h] at hb
    cases hb

/-! ### A fresh selection -/

theorem State.rotationOf_congr {t : State} (hpages : t.pages = s.pages) (items : List Item) :
    t.rotationOf items = s.rotationOf items := by
  have hbase : t.rotationOf items = ({ s with pages := t.pages } : State).rotationOf items := rfl
  rw [hbase, hpages]

/-- A selection from the empty selector, told of any state with the same pages and warnings (R150, R153). -/
theorem State.selected_fresh {t : State} {g : Face} (hpages : t.pages = s.pages) (hwarnings : t.warnings = s.warnings) :
    (s.selected g emptySelector).rotation = t.rotationOf (t.candidates g) ∧
      (s.selected g emptySelector).shown = (t.rotationOf (t.candidates g)).head? := by
  rw [State.candidates_congr (s := t) (s' := s) hpages fun _ => by rw [hwarnings], State.rotationOf_congr hpages,
    State.selected_eq]
  exact ⟨(State.selectedFrom_rotation _ _ _).1, State.selectedFrom_empty _ _⟩

/-! ### Where no call begins -/

/-- The station after RESTART where no handset is off-hook. -/
theorem State.restarted_parts (hj : s.joined = true) (hnone : ∀ b, s.begins b = false) (hbusy : s.Busy) :
    s.restarted = { s with
      circuits := s.restarted.circuits, claims := s.restarted.claims, calls := s.restarted.calls
      callUnit := s.restarted.callUnit, playout := s.restarted.playout, incidents := ⟨[], []⟩
      readings := s.restarted.readings, warnings := noWarnings, speed := s.restartedSpeed, ports := s.restarted.ports
      deferred := s.restarted.deferred, faces := s.restarted.faces } := by
  have hparts := s.restarted_restarts.parts
  have hfaults := State.restarted_faults hj
  have hquiet := (State.restarted_quiet hj hnone).2
  have hincidents : s.restarted.incidents = ⟨[], []⟩ := congrArg State.incidents hquiet
  have hwarnings : s.restarted.warnings = noWarnings := congrArg State.warnings hquiet
  have hspeed : s.restarted.speed = s.restartedSpeed := congrArg State.speed hquiet
  have htoll : s.restarted.toll = s.toll :=
    (congrArg State.toll hquiet).trans (State.restartSpoken_ports hbusy .east).2.2.2
  generalize s.restarted = t at *
  exact hparts.trans (by rw [hfaults, hincidents, hwarnings, hspeed, htoll])

end

end Sys2Proof.Machine
end

section
/-! RESTART empties and keeps (R42, R60, R88, R103, R104, R113, R118, R141, R164, R207). -/
namespace Sys2Proof.Machine
open Sys2Proof

/-- Settles O53. -/
theorem restartEmptiesAndKeeps : Obligations.RestartEmptiesAndKeeps := by
  refine ⟨fun s hreset hj hbound hon hbusy => ?_, fun s hreset hj => ?_⟩
  · intro speed speedFrame hangup
    have hnone (b : Fin 4) : s.begins b = false := by
      by_cases hb : b.val < s.config.boxes
      · rw [State.begins, hon b hb, Bool.and_false]
      · rw [State.begins, decide_eq_false hb, Bool.false_and]
    have hparts := State.restarted_parts hj hnone hbusy
    have hquiet := (State.restarted_quiet hj hnone).2
    have hports := State.restartSpoken_ports hbusy
    have hface := State.restarted_face hj hnone
    have htold := State.restarted_told hbound hbusy
    have hcircuit := State.restartBare_circuit hbound
    have hmarked := State.restartBare_marked (s := s)
    rw [State.callsStand_iff] at hmarked
    have hended := s.restartBare_ended
    have hlane := s.restartBare_lane
    have hunit := s.restartBare_callUnit
    have hclaim := s.restartBare_claim
    obtain ⟨hboxes, hlanes, htones⟩ := s.restartBare_playout
    obtain ⟨hkinds, hvs, hdelivery⟩ := s.restartBare_readings
    refine ⟨_, exec_restart_next hreset hj, ?_⟩
    generalize s.restarted = t at *
    generalize s.restartSpoken = w at *
    have hcircuits : t.circuits = s.restartBare.circuits := by rw [hquiet]
    have hclaims : t.claims = s.restartBare.claims := by rw [hquiet]
    have hcalls : t.calls = s.restartBare.calls := by rw [hquiet]
    have hcallUnit : t.callUnit = s.restartBare.callUnit := by rw [hquiet]
    have hplayout : t.playout = s.restartBare.playout := by rw [hquiet]
    have hreadings : t.readings = s.restartBare.readings := by rw [hquiet]
    have htports : t.ports = w.ports := by rw [hquiet]
    have hpages : t.pages = s.restartBare.pages := by rw [hquiet]
    have hwarnings : t.warnings = s.restartBare.warnings := by rw [hquiet]
    clear hquiet
    generalize s.restartBare = v at *
    refine ⟨?_, fun p => ?_, fun c => ?_, fun b => ⟨?_, fun hidle => ?_, fun hne => ?_, fun c p hc hp => ?_,
      fun x callId hstate hx hid => ?_⟩, fun l => ⟨?_, fun c hstate hc => ?_⟩, ?_, ?_, fun hstood => ?_, fun b => ?_,
      fun l => ?_, fun k => ?_, ?_, ?_, fun g => ⟨fun hg => ?_, fun hg => ?_⟩⟩
    · exact congrArg (fun x : State => { x with response := ⟨.ok, .restart, .none⟩ }) hparts
    · obtain ⟨hport, hidle, hlast, -⟩ := hports p
      rw [← htports] at hport hidle hlast
      exact ⟨hport, hidle, hlast⟩
    · dsimp only
      rw [hcircuits, hcircuit]
      cases s.circuits[c] <;> rfl
    · dsimp only
      rw [hclaims, hclaim]
      rfl
    · dsimp only
      rw [hcalls, hended, if_pos hidle]
    · dsimp only
      rw [hcalls, hended, if_neg hne, hcallUnit]
      exact ⟨rfl, (hmarked (.inl ⟨b, hne⟩)).1⟩
    · exact (htold.release b c hc p hp).2
    · obtain ⟨hwaits, hstays⟩ := htold.hangup b x callId hstate hx hid
      exact ⟨fun p hp => (hwaits p hp).2, fun e => (hstays e).2.imp fun d hd => ⟨hd.1, hd.2.2⟩⟩
    · dsimp only
      rw [hcallUnit, hlane]
      rfl
    · have hne : s.callUnit.lanes[l].state ≠ .idle := by
        obtain h | h := hstate
        all_goals
          rw [h]
          decide
      dsimp only
      rw [hcallUnit]
      exact ⟨(hmarked (.inr (.inl ⟨l, .inl hne⟩))).1, fun p hp => ((htold.lane l c hstate hc).1 p hp).2⟩
    · dsimp only
      rw [hcallUnit, hunit]
    · dsimp only
      rw [hcallUnit, hunit]
    · dsimp only
      rw [hcallUnit]
      exact hmarked hstood
    · obtain ⟨out, hbox⟩ := hboxes b
      dsimp only
      rw [hplayout, hbox, htones]
      exact ⟨rfl, rfl, rfl, rfl, rfl⟩
    · obtain ⟨out, hbox⟩ := hlanes l
      dsimp only
      rw [hplayout, hbox]
      exact ⟨rfl, rfl, rfl, rfl⟩
    · dsimp only
      rw [hreadings, hkinds]
    · dsimp only
      rw [hreadings, hvs]
    · dsimp only
      rw [hreadings, hdelivery]
    · exact (hface g).1 hg
    · obtain ⟨image, himage⟩ := (hface g).2 hg
      have hdark : (s.faces.get g).dark = false := by
        simp only [State.selecting, Bool.and_eq_true, Bool.not_eq_true'] at hg
        exact hg.2
      dsimp only
      rw [himage]
      exact ⟨hdark, rfl, rfl, rfl, rfl, rfl, rfl,
        State.selected_fresh (t := { t with response := ⟨.ok, .restart, .none⟩ }) hpages hwarnings⟩
  · intro begins
    have hwork := s.restarted_restarts
    have hbegun := State.restarted_callsBegun hj
    have hfaults := State.restarted_faults hj
    have htold := State.restarted_told (s := s)
    have hmarked := State.restartBare_marked (s := s)
    rw [State.callsStand_iff] at hmarked
    have hheld := fun c holder due => State.restartBare_held (s := s) (c := c) (holder := holder) (due := due)
    have hcall := fun b => s.restartBare_call b
    have hlane := s.restartBare_lane
    have hunit := s.restartBare_callUnit
    have hbegins : s.restartBare.begins = s.begins := funext fun b => s.restartBare_begins b
    have hnow := s.restartBare_stays.2.2.1
    have hnext : s.restartBare.callUnit.nextCallId = s.callUnit.nextCallId := by rw [hunit]
    have hoffers : s.restartBare.callUnit.offers = [] := by rw [hunit]
    refine ⟨_, exec_restart_next hreset hj, rfl, ?_⟩
    generalize s.restarted = t at *
    generalize s.restartBare = v at *
    obtain ⟨-, -, -, -, hstays, hbegun, hbegunUnit, hkept, hcircuits⟩ := hbegun
    obtain ⟨hparts, hlink, htoll⟩ := hwork
    refine ⟨fun b => ⟨?_, fun hb => ?_, fun hb => ?_⟩, fun l => ?_, ?_, fun c holder due hc => ?_, ?_, ?_, ?_, ?_, ?_, ?_, hfaults,
      ?_, ?_, ?_, ?_, ?_, ?_, ?_, fun hstood => ?_, fun hbound hbusy => ⟨fun b => ⟨fun c p hc hp => ?_,
        fun x callId hstate hx hid => ?_⟩, fun l c hstate hc => ?_⟩, fun p => ?_⟩
    · dsimp only
      cases hb : v.begins b with
      | false => rw [hstays b (.inr hb), (hcall b).2]
      | true =>
        obtain ⟨⟨circuit, hbegan⟩, -⟩ := hbegun b b.isLt hb
        rw [hbegan]
        exact (hcall b).2
    · dsimp only
      rw [hstays b (.inr (by rw [hbegins]; exact hb)), (hcall b).1]
    · obtain ⟨⟨circuit, hbegan⟩, hwanted, hmark⟩ := hbegun b b.isLt (by rw [hbegins]; exact hb)
      have hbefore : v.begunBefore b.val = s.begunBefore b.val := by rw [State.begunBefore, State.begunBefore, hbegins]
      dsimp only
      rw [hbegan, hnext, hbefore]
      exact ⟨rfl, congrArg (fun now => some (now + 10000)) hnow, rfl, hwanted, hmark⟩
    · dsimp only
      rw [hbegunUnit, hlane]
      rfl
    · dsimp only
      rw [hbegunUnit, hoffers]
    · dsimp only
      rw [hcircuits c (by rw [hheld c holder due hc]; exact Circuit.noConfusion), hheld c holder due hc]
    · dsimp only
      rw [hparts, hj]
    iterate 7
      · dsimp only
        rw [hparts]
    iterate 5
      · dsimp only
        rw [htoll]
    · obtain ⟨hcalls, hoffered⟩ := hmarked hstood
      refine ⟨hkept hcalls, ?_⟩
      dsimp only
      rw [hbegunUnit, hoffered]
    · exact ((htold hbound hbusy).release b c hc p hp).2
    · obtain ⟨hwaits, hstays⟩ := (htold hbound hbusy).hangup b x callId hstate hx hid
      exact ⟨fun p hp => (hwaits p hp).2, fun e => (hstays e).2.imp fun d hd => ⟨hd.1, hd.2.2⟩⟩
    · obtain ⟨hwaits, hstays⟩ := (htold hbound hbusy).lane l c hstate hc
      exact ⟨fun p hp => (hwaits p hp).2, fun e => (hstays e).2.imp fun d hd => ⟨hd.1, hd.2.2⟩⟩
    · obtain ⟨hstate, -, -, -, htimer, hhistory, -⟩ := hlink p
      exact ⟨hstate, hhistory, htimer⟩

end Sys2Proof.Machine
end

end
